-- ==== Sys2Proof/Word.lean ====
section
/-! DEFINITION. The few word types of the part: bytes of frames, pages and images, and the 16-bit
words of the CRC and of the configuration image. Everything else the manual counts or indexes is a
`Nat` (or an `Int` where it is signed), with its width checked in `WellFormed`. -/

namespace Sys2Proof

/-- One byte of a frame, a store page or the configuration image (R196). -/
abbrev Byte := BitVec 8

/-- A 16-bit word: a CRC-16 (R196) or a word of the configuration image (R185). -/
abbrev Word16 := BitVec 16

/-- A probe channel number, 0 to 3 (section 3.5 of 00_scope.md). -/
abbrev Chan := Fin 4

/-- A station number, 0 to 2 (section 3.5 of 00_scope.md). -/
abbrev Stn := Fin 3

end Sys2Proof
end

