-- ==== Sys2Proof/Config.lean ====
section
/-! DEFINITION. The constants the manual fixes for the part, each beside the rule that states it,
and the model's choices for what a memory device holds where nothing has written it. -/

namespace Sys2Proof.Config

/-- Pages of the traverse store (R74). -/
def storePages : Nat := 1048576
/-- Bytes of one store page (R197). -/
def pageBytes : Nat := 2048
/-- Sample slots of one page (R64, R197). -/
def samplesPerPage : Nat := 56
/-- Bytes of one stored sample (R197). -/
def sampleBytes : Nat := 36
/-- Pages reserved for one traverse (R23, R75). -/
def reservation : Nat := 1171
/-- Stored samples of one traverse at most (R62). -/
def maxSamples : Nat := 65536
/-- The saturation value of a traverse's lost count (R68). -/
def maxLost : Nat := 16777215
/-- Live directory entries plus reserved slots at most (R67). -/
def directorySlots : Nat := 4096
/-- Defined tube positions at most (R5). -/
def tableCapacity : Nat := 32768
/-- Attempts on one tube at most (R22 step 10). -/
def maxAttempts : Nat := 8
/-- Calibration log entries at most (R131). -/
def logCapacity : Nat := 1024
/-- Indications kept per traverse (R97). -/
def maxIndications : Nat := 64
/-- Landmark records kept per traverse (R99). -/
def maxLandmarks : Nat := 48
/-- Length that caps an indication window, or past which a marked sample carries it (R96, log entry 46). -/
def indicationCap : Nat := 512
/-- Length that caps a landmark window, or past which a marked sample carries it (R99, log entry 46). -/
def landmarkCap : Nat := 2048
/-- Entries of one call at most (R148). -/
def maxCallEntries : Nat := 8
/-- Greatest offset of a location or a call entry, in mm (R102, R148). -/
def maxOffset : Nat := 30000
/-- Places of a station request queue, and unsent QUEUE_FULL responses at most (R169). -/
def queuePlaces : Nat := 8
/-- Event records of one event queue at most (R178). -/
def eventPlaces : Nat := 64
/-- Rectangles of the exclusion list at most (R14). -/
def maxRects : Nat := 16
/-- Seconds from a grant to the claim's expiry (R28). -/
def claimSeconds : Nat := 600
/-- Seconds from a PAUSE to the pause's expiry (R53). -/
def pauseSeconds : Nat := 300
/-- Milliseconds without a valid frame after which a probe link is lost (R44). -/
def probeSilenceMs : Nat := 500
/-- Milliseconds without a sent frame after which a channel sends IDLE (R43). -/
def probeQuietMs : Nat := 100
/-- Milliseconds without a valid frame after which a station link is lost (R166). -/
def stationSilenceMs : Nat := 2000
/-- Milliseconds without a sent frame after which a station link sends IDLE (R166). -/
def stationQuietMs : Nat := 500
/-- Milliseconds a flash erase or program may stay busy (R189). -/
def flashBusyMs : Nat := 5000
/-- Value at which the session seconds counter holds (R191). -/
def maxSeconds : Nat := 4294967295
/-- Free less reserved pages below which STORE_LOW is raised (R85). -/
def storeLowBound : Nat := 65536
/-- Free less reserved pages from which STORE_OK is raised (R85). -/
def storeOkBound : Nat := 131072
/-- Weakest accepted reference amplitude (R125). -/
def weakReference : Nat := 64
/-- Least fall of rotated phase between two points of a curve (R125). -/
def leastFall : Nat := 30
/-- Greatest circular difference a flaw may show at a closing comparison (R136). -/
def phaseDriftLimit : Nat := 50
/-- Bytes of the configuration image (R202). -/
def imageBytes : Nat := 4096

/-- What a byte of the DDR store reads as where nothing has written it. DESIGN CHOICE (log entry 3):
the manual gives the store no power-on contents; no page is readable before it is written (R81). -/
def ddrUnwritten : Byte := 0x00

/-- What a byte of the flash reads as where nothing has written it: the erased value. DESIGN CHOICE
(log entry 4): the manual gives no delivery contents; a start-up read may be given any other bytes
as operands of the command. -/
def flashUnwritten : Byte := 0xFF

end Sys2Proof.Config
end

