-- ==== Sys2Proof/Syntax.lean ====
section
/-! DEFINITION. The commands of the part: one constructor of `Instr` for each row of
spec/opcode_table.json, with the operands the rules of the manual give it. The records that
commands carry are declared first. -/

namespace Sys2Proof

/-- The nine tube states (R19), in the order of their codes (R200). -/
inductive TubeState
  | pending | claimed | acquired | resolution | final | plugRecommended | retest | restricted | plugged
  deriving DecidableEq, Repr

/-- The condition of DEFINE_TUBES (R5). -/
inductive Condition | inService | plugged
  deriving DecidableEq, Repr

/-- The second-opinion mode (R10). -/
inductive Mode | analyst | automatic
  deriving DecidableEq, Repr

/-- The reason of an ABANDON frame (R42). -/
inductive AbandonReason | restriction | operator
  deriving DecidableEq, Repr

/-- What a HELLO says of the probe, and what a bracket is bound to (section 3.2 of
03_probe_channels.md): the probe serial and the four frequencies in Hz. -/
structure ProbeId where
  serial : Nat
  f1 : Nat
  f2 : Nat
  f3 : Nat
  f4 : Nat
  deriving DecidableEq, Repr

/-- The identity of a probe unit (R45). -/
structure Identity where
  unitSerial : Nat
  probe : ProbeId
  deriving DecidableEq, Repr

/-- The X and Y values of one signal channel. -/
structure XY where
  x : Int
  y : Int
  deriving DecidableEq, Repr

/-- The 35 bytes of one reading (R62, R197): the eight signal channels 1D, 1A, 2D, 2A, 3D, 3A, 4D,
4A and the axial position in 0.1 mm. -/
structure Reading where
  d1 : XY
  a1 : XY
  d2 : XY
  a2 : XY
  d3 : XY
  a3 : XY
  d4 : XY
  a4 : XY
  position : Nat
  deriving DecidableEq, Repr

/-- A row range and a column range, both inclusive: a channel window (R13) or a rectangle of the
exclusion list (R14). -/
structure Rect where
  rowLo : Nat
  rowHi : Nat
  colLo : Nat
  colHi : Nat
  deriving DecidableEq, Repr

/-- The nine optional values of SET_LIMITS (R9), in the order of the table of R8. -/
structure LimitArgs where
  plug : Option Nat
  reporting : Option Nat
  depthTol : Option Nat
  locTol : Option Nat
  detection : Option Nat
  landmark : Option Nat
  gap : Option Nat
  interval : Option Nat
  capacity : Option Nat
  deriving DecidableEq, Repr

/-- The kind of a call (R145): NOT_USABLE is the automatic call's alone, but readable in a submitted
call (R201). -/
inductive CallKind | ndd | indications | retestRequired | notUsable
  deriving DecidableEq, Repr

/-- One entry of a call (R145). -/
structure CallEntry where
  landmark : Option Nat
  offset : Nat
  depth : Nat
  classCode : Nat
  deriving DecidableEq, Repr

/-- A call in its submitted form (R201). -/
structure SubmittedCall where
  kind : CallKind
  entries : List CallEntry
  deriving DecidableEq, Repr

/-- The content of a REQUEST frame (R165, R199): one of the 28 requests of the table of R168 in the
order of their name codes, or an unreadable request, of which only the name code is kept. -/
inductive Request
  | openSession (wall : Nat)
  | closeSession (force : Bool)
  | saveConfig
  | defineGeometry (cls count length : Nat)
  | defineTubes (row col1 col2 cls : Nat) (cond : Condition)
  | removeTubes (row col1 col2 : Nat)
  | setLimits (v : LimitArgs)
  | setSecondOpinion (mode : Mode)
  | lockPlan
  | setWindow (ch : Nat) (w : Rect)
  | setExclusions (complement : Bool) (rects : List Rect)
  | defineStandard (id : Nat) (depths : List Nat) (freq threshold : Nat)
  | requestRetest (row col : Nat) (reset : Bool)
  | confirmPlug (row col : Nat)
  | submitFinal (row col traverse : Nat) (call : SubmittedCall)
  | markArchived (traverse : Nat)
  | declareProbeFailed (ch : Nat)
  | submitCall (row col traverse : Nat) (call : SubmittedCall)
  | readStatus
  | getEvents (count : Nat)
  | readPages (traverse first count : Nat)
  | readTube (row col : Nat)
  | scanTubes (row col : Nat) (states : List TubeState) (count : Nat)
  | readTraverse (traverse : Nat)
  | readChannel (ch : Nat)
  | readCalLog (first : Nat)
  | readBracket (number : Nat)
  | readConfig
  | unreadable (name : Nat)
  deriving DecidableEq, Repr

/-- The commands of the part, one per row of spec/opcode_table.json. `ch` is the probe channel and
`st` the station whose link or block the command reaches, `tag` the tag of a station's request. The
operand `upset` lists bytes that an external memory device returns in place of those written to it (log
entry 5); it is empty when the device works. In the read-back of a save the device holds them from then on
(log entry 33). -/
inductive Instr
  -- Reset and start-up.
  | powerOnReset
  | resetRelease
  | startupReadEnd (upset : List Host.Cell)
  -- Frames from a probe unit.
  | hello (ch : Chan) (id : Identity)
  | probeIdle (ch : Chan)
  | probeFrameDiscarded (ch : Chan) (frame : List Byte)
  | claim (ch : Chan) (row col : Nat)
  | releaseClaim (ch : Chan)
  | pullStart (ch : Chan)
  | sample (ch : Chan) (seq : Nat) (reading : Reading)
  | pause (ch : Chan)
  | resume (ch : Chan)
  | pullEnd (ch : Chan)
  | abandon (ch : Chan) (reason : AbandonReason)
  | calStart (ch : Chan) (std : Nat)
  | probeFailed (ch : Chan)
  -- Timers of a probe channel.
  | probeLinkLoss (ch : Chan)
  | probeIdleSend (ch : Chan)
  | claimExpiry (ch : Chan)
  | pauseExpiry (ch : Chan)
  -- Ends of work of the part's own blocks.
  | pageWriteEnd
  | calibrationVerdict (ch : Chan)
  | bracketAgeLimit (ch : Chan)
  | closedFailPresentation (bracket : Nat)
  | closedGoodHandover (bracket : Nat)
  | comparisonEnd (row col : Nat)
  -- Frames and timers of a station link.
  | stationRequestFrame (st : Stn) (tag : Nat) (req : Request)
  | abortStream (st : Stn)
  | stationIdle (st : Stn)
  | stationFrameDiscarded (st : Stn) (frame : List Byte)
  | stationLinkLoss (st : Stn)
  | stationIdleSend (st : Stn)
  | frameSendEnd (st : Stn)
  | pageSendEnd (st : Stn)
  | fetchEnd (upset : List Host.Cell)
  -- Requests of a station, taken for execution.
  | unreadableRequest (st : Stn) (tag name : Nat)
  | openSession (st : Stn) (tag wall : Nat)
  | closeSession (st : Stn) (tag : Nat) (force : Bool)
  | saveConfig (st : Stn) (tag : Nat)
  -- The running save and its pin.
  | saveCommandEnd (shown : Bool) (upset : List Host.Cell)
  | eraseTimeout
  | programTimeout
  | cfgProtectRise
  | cfgProtectFall
  -- The session clock.
  | sessionSecondTick
  -- Requests on the plan and the tubes.
  | defineGeometry (st : Stn) (tag cls count length : Nat)
  | defineTubes (st : Stn) (tag row col1 col2 cls : Nat) (cond : Condition)
  | removeTubes (st : Stn) (tag row col1 col2 : Nat)
  | setLimits (st : Stn) (tag : Nat) (v : LimitArgs)
  | setSecondOpinion (st : Stn) (tag : Nat) (mode : Mode)
  | lockPlan (st : Stn) (tag : Nat)
  | setWindow (st : Stn) (tag ch : Nat) (w : Rect)
  | setExclusions (st : Stn) (tag : Nat) (complement : Bool) (rects : List Rect)
  | defineStandard (st : Stn) (tag id : Nat) (depths : List Nat) (freq threshold : Nat)
  | requestRetest (st : Stn) (tag row col : Nat) (reset : Bool)
  | confirmPlug (st : Stn) (tag row col : Nat)
  | submitFinal (st : Stn) (tag row col traverse : Nat) (call : SubmittedCall)
  | markArchived (st : Stn) (tag traverse : Nat)
  | declareProbeFailed (st : Stn) (tag ch : Nat)
  | submitCall (st : Stn) (tag row col traverse : Nat) (call : SubmittedCall)
  -- Requests that read.
  | readStatus (st : Stn) (tag : Nat)
  | getEvents (st : Stn) (tag count : Nat)
  | readPages (st : Stn) (tag traverse first count : Nat)
  | readTube (st : Stn) (tag row col : Nat)
  | scanTubes (st : Stn) (tag row col : Nat) (states : List TubeState) (count : Nat)
  | readTraverse (st : Stn) (tag traverse : Nat)
  | readChannel (st : Stn) (tag ch : Nat)
  | readCalLog (st : Stn) (tag first : Nat)
  | readBracket (st : Stn) (tag number : Nat)
  | readConfig (st : Stn) (tag : Nat)
  deriving DecidableEq, Repr

end Sys2Proof
end

