-- ==== Sys2Proof/Decode.lean ====
section
/-! DEFINITION. The commands that a word of spec/opcode_table.json spells. The table gives no row any
bits: the part's commands arrive as frames, pins and ends of work, so no word spells one. The frames'
own bytes are read in Machine/Frames.lean. -/

namespace Sys2Proof

/-- The command that a word of the table's bits spells: none, since no row has bits (log entry 19). -/
def decodeTableWord (_nbits _w : Nat) : Option Instr := none

end Sys2Proof
end

