-- ==== Sys2Proof/Machine/Bytes.lean ====
section
/-! DEFINITION. Field encoding (R196): little-endian numbers, two's complement, flag bits, and the
CRC-16 of both links and of the page trailer. -/

namespace Sys2Proof.Machine

/-- The `n` bytes of a number, least significant first (section 3.1 of 00_scope.md). -/
def leBytes : Nat → Nat → List Byte
  | 0, _ => []
  | n + 1, v => BitVec.ofNat 8 (v % 256) :: leBytes n (v / 256)

/-- The number that little-endian bytes spell. -/
def leNat : List Byte → Nat
  | [] => 0
  | b :: bs => b.toNat + 256 * leNat bs

/-- A signed 16-bit value as two bytes, two's complement (R196). -/
def int16Bytes (v : Int) : List Byte := leBytes 2 (v % 65536).toNat

/-- The signed value of two bytes (R196). -/
def int16Of (bs : List Byte) : Int :=
  let n := leNat bs
  if n < 32768 then (n : Int) else (n : Int) - 65536

/-- The `n` bytes of a list from an offset; a byte beyond the list is 0. -/
def bytesAt (bs : List Byte) (off n : Nat) : List Byte :=
  (List.range n).map fun i => (bs[off + i]?).getD 0

/-- The little-endian number of `n` bytes of a list from an offset. -/
def natAt (bs : List Byte) (off n : Nat) : Nat := leNat (bytesAt bs off n)

/-- A flags byte with its low bits as given, bit 0 first (R196). -/
def flagBits : List Bool → Nat
  | [] => 0
  | f :: fs => (if f then 1 else 0) + 2 * flagBits fs

/-- One bit step of the CRC-16: polynomial 1021h, most significant bit first (R196). -/
def crcBit (c : Word16) : Word16 :=
  if c.msb then (c <<< 1) ^^^ 0x1021 else c <<< 1

/-- The CRC-16 after `n` bit steps. -/
def crcBits : Nat → Word16 → Word16
  | 0, c => c
  | n + 1, c => crcBits n (crcBit c)

/-- The CRC-16 after one more byte. -/
def crcByte (c : Word16) (b : Byte) : Word16 :=
  crcBits 8 (c ^^^ (b.setWidth 16 <<< 8))

/-- The CRC-16 of a run of bytes: initial value FFFFh, no final inversion (R196). -/
def crc16 (bs : List Byte) : Word16 := bs.foldl crcByte 0xFFFF

/-- The CRC-16 as stored, low byte first (R196). -/
def crcBytes (bs : List Byte) : List Byte := leBytes 2 (crc16 bs).toNat

/-- A run of bytes followed by its CRC-16. -/
def withCrc (bs : List Byte) : List Byte := bs ++ crcBytes bs

/-- Whether the last two bytes of a run are the CRC-16 of those before them. -/
def crcGood (bs : List Byte) : Bool :=
  let body := bs.take (bs.length - 2)
  decide (2 ≤ bs.length ∧ bs.drop (bs.length - 2) = crcBytes body)

end Sys2Proof.Machine
end

