-- ==== Sys2Proof/Machine/Types.lean ====
section
/-! DEFINITION. The records the blocks of the part hold: plain data, one type for each thing the
manual names. State.lean puts them together. -/

namespace Sys2Proof.Machine

/-! Fixed numbers of like things: four probe channels, three stations. -/

/-- One value for each of the four probe channels. -/
structure Four (α : Type) where
  c0 : α
  c1 : α
  c2 : α
  c3 : α
  deriving DecidableEq, Repr

/-- One value for each of the three stations. -/
structure Three (α : Type) where
  s0 : α
  s1 : α
  s2 : α
  deriving DecidableEq, Repr

/-- The value of channel `i`. -/
def Four.get {α : Type} (f : Four α) (i : Chan) : α :=
  match i with
  | 0 => f.c0
  | 1 => f.c1
  | 2 => f.c2
  | 3 => f.c3

/-- The four values with that of channel `i` replaced. -/
def Four.set {α : Type} (f : Four α) (i : Chan) (v : α) : Four α :=
  match i with
  | 0 => { f with c0 := v }
  | 1 => { f with c1 := v }
  | 2 => { f with c2 := v }
  | 3 => { f with c3 := v }

/-- The same value for each channel. -/
def Four.all {α : Type} (v : α) : Four α := ⟨v, v, v, v⟩

/-- The value of station `i`. -/
def Three.get {α : Type} (f : Three α) (i : Stn) : α :=
  match i with
  | 0 => f.s0
  | 1 => f.s1
  | 2 => f.s2

/-- The three values with that of station `i` replaced. -/
def Three.set {α : Type} (f : Three α) (i : Stn) (v : α) : Three α :=
  match i with
  | 0 => { f with s0 := v }
  | 1 => { f with s1 := v }
  | 2 => { f with s2 := v }

/-- The same value for each station. -/
def Three.all {α : Type} (v : α) : Three α := ⟨v, v, v⟩

/-! The plan and the tube table. -/

/-- A tube position (section 3.4 of 00_scope.md). -/
structure Pos where
  row : Nat
  col : Nat
  deriving DecidableEq, Repr

/-- The values of a defined geometry class (R3). -/
structure Geometry where
  count : Nat
  length : Nat
  deriving DecidableEq, Repr

/-- The nine plan limits (R8), in the order of its table. -/
structure Limits where
  plug : Nat
  reporting : Nat
  depthTol : Nat
  locTol : Nat
  detection : Nat
  landmark : Nat
  gap : Nat
  interval : Nat
  capacity : Nat
  deriving DecidableEq, Repr

/-- The clamped flags of a SET_LIMITS or OPEN_SESSION response (R9, R192), in the order of R8. -/
structure ClampFlags where
  plug : Bool
  reporting : Bool
  depthTol : Bool
  locTol : Bool
  detection : Bool
  landmark : Bool
  gap : Bool
  interval : Bool
  capacity : Bool
  deriving DecidableEq, Repr

/-- The exclusion list with its COMPLEMENT flag (R14). -/
structure Exclusions where
  complement : Bool
  rects : List Rect
  deriving DecidableEq, Repr

/-- Why a tube last entered RETEST (R18). -/
inductive RetestCause | bracketFail | lead | abort | bothRetest
  deriving DecidableEq, Repr

/-- Who made a call (R145). -/
inductive CallSource | primary | secondary | lead | automatic | agreement
  deriving DecidableEq, Repr

/-- A call as the part holds it (R145). -/
structure Call where
  kind : CallKind
  entries : List CallEntry
  source : CallSource
  time : Nat
  traverse : Nat
  deriving DecidableEq, Repr

/-- A tube entry (R18). -/
structure TubeEntry where
  pos : Pos
  cls : Nat
  state : TubeState
  preClaim : Option TubeState
  holder : Option Chan
  attempts : Nat
  traverse : Option Nat
  bracket : Option Nat
  primary : Option Call
  secondary : Option Call
  finalCall : Option Call
  cause : Option RetestCause
  changed : Nat
  deriving DecidableEq, Repr

/-- The nine per-state counters (R20). -/
structure TubeCounts where
  pending : Nat
  claimed : Nat
  acquired : Nat
  resolution : Nat
  final : Nat
  plugRecommended : Nat
  retest : Nat
  restricted : Nat
  plugged : Nat
  deriving DecidableEq, Repr

/-- The plan of an open session (R1): classes 0 to 15 as a list of sixteen. -/
structure Plan where
  limits : Limits
  mode : Mode
  locked : Bool
  classes : List (Option Geometry)
  windows : Four Rect
  exclusions : Exclusions
  deriving DecidableEq, Repr

/-- All that exists only while a session is open: the clock (R191), the plan (R1), the tube table
and its counters (R20, R21) and the next traverse id (R67). `subMs` is the part of the running
second that has passed (log entry 6). -/
structure Session where
  base : Nat
  seconds : Nat
  subMs : Nat
  plan : Plan
  tubes : List TubeEntry
  counts : TubeCounts
  nextTraverse : Nat
  deriving DecidableEq, Repr

/-! Probe channels. -/

/-- The nine channel states (R47), in the order of their codes (R200). -/
inductive ChanState
  | offline | needsCal | ready | due | claimed | recording | paused | calibrating | evaluating
  deriving DecidableEq, Repr

/-- The reason beside may-claim (R48), in the order of the PERMIT codes (R198). -/
inductive PermitReason | none | noSession | planUnlocked | needsCal | calDue | busy
  deriving DecidableEq, Repr

/-- May-claim and its reason (R48). -/
structure Permit where
  mayClaim : Bool
  reason : PermitReason
  deriving DecidableEq, Repr

/-- The refusal reasons of CLAIM_REPLY and PULL_REPLY (R198). -/
inductive ProbeReason
  | noSession | planNotLocked | calRequired | channelBusy | noSuchTube | outOfWindow | excluded
  | plugged | alreadyClaimed | notClaimable | attemptsExhausted | directoryFull | storeFull
  | noClaim | noSuchStandard | standardMismatch | logFull
  deriving DecidableEq, Repr

/-- The reasons of a REJECTED verdict (R125), in its order. -/
inductive CalReject
  | aborted | truncated | lostSamples | count | weakReference | outOfSector | notMonotone
  deriving DecidableEq, Repr

/-- The bracket outcome of CAL_RESULT (R128): a bracket opened where none stood, or the number and
verdict of the bracket it closed. -/
inductive BracketOutcome
  | opened
  | closed (number : Nat) (good : Bool)
  deriving DecidableEq, Repr

/-- The verdict of a calibration as CAL_RESULT carries it (R58). -/
inductive CalVerdict
  | accepted (log : Nat) (outcome : BracketOutcome)
  | rejected (reason : CalReject)
  deriving DecidableEq, Repr

/-- The four flags of a traverse (R68). -/
structure TraverseFlags where
  truncated : Bool
  lostSamples : Bool
  landmarkMismatch : Bool
  indicationExcess : Bool
  deriving DecidableEq, Repr

/-- The frames a channel sends to its probe unit (R43, R198). -/
inductive ProbeOut
  | claimReply (refusal : Option ProbeReason) (row col : Nat)
  | pullReply (answersCal : Bool) (refusal : Option ProbeReason) (traverse : Nat)
  | traverseDone (traverse stored lost : Nat) (flags : TraverseFlags) (aborted : Bool)
  | calResult (traverse : Nat) (verdict : CalVerdict)
  | permit (p : Permit)
  | idle
  deriving DecidableEq, Repr

/-- The three marks of a stored sample (R94). -/
structure Marks where
  landmark : Bool
  detection : Bool
  lostBefore : Bool
  deriving DecidableEq, Repr

/-- A stored sample: its reading and its marks (R197). -/
structure StoredSample where
  reading : Reading
  marks : Marks
  deriving DecidableEq, Repr

/-- The states of a page assembly buffer (R64). -/
inductive BufferState | free | filling | held | inWrite
  deriving DecidableEq, Repr

/-- The two page assembly buffers of a channel. -/
inductive BufId | a | b
  deriving DecidableEq, Repr

/-- The three counts a page trailer takes from the moment its last sample was stored (R80). -/
structure SoFar where
  landmarks : Nat
  lost : Nat
  indications : Nat
  deriving DecidableEq, Repr

/-- A page assembly buffer (R64): its state, the traverse of its samples, the traverse index of its
first sample, the samples, and the counts captured with the last of them. -/
structure PageBuffer where
  state : BufferState
  traverse : Nat
  firstIndex : Nat
  samples : List StoredSample
  soFar : SoFar
  deriving DecidableEq, Repr

/-- The sizing figures an inspection traverse takes from its bracket's opening entry (R91): the
points (depth, θ) are in order of depth ascending. -/
structure CalRef where
  aRef : Nat
  rho : Nat
  points : List (Nat × Nat)
  deriving DecidableEq, Repr

/-- The screening parameters of a traverse (R91). -/
structure ScreenParams where
  freq : Nat
  tRaw : Nat
  landmark : Option Nat
  gap : Nat
  cal : Option CalRef
  expected : Option Nat
  reporting : Option Nat
  deriving DecidableEq, Repr

/-- The open indication window (R95) with the analysis-channel values of its samples. -/
structure IndWindow where
  first : Nat
  last : Nat
  peak : Nat
  peakM : Nat
  peakPos : Nat
  below : Nat
  values : List XY
  deriving DecidableEq, Repr

/-- The pending landmark run (R98): its count is 0 to 3. -/
structure LandmarkRun where
  count : Nat
  first : Nat
  peak : Nat
  peakM : Nat
  peakPos : Nat
  deriving DecidableEq, Repr

/-- The open landmark window (R99). -/
structure LandmarkWindow where
  first : Nat
  last : Nat
  peak : Nat
  peakM : Nat
  peakPos : Nat
  below : Nat
  deriving DecidableEq, Repr

/-- An indication of the running list (R97). -/
structure Indication where
  seq : Nat
  first : Nat
  last : Nat
  peak : Nat
  peakPos : Nat
  capped : Bool
  pairI : Nat
  pairJ : Nat
  rawAmp : Nat
  rawPhase : Nat
  deriving DecidableEq, Repr

/-- A landmark record (R99, R105). -/
structure LandmarkRecord where
  seq : Nat
  first : Nat
  last : Nat
  peak : Nat
  peakM : Nat
  position : Nat
  capped : Bool
  deriving DecidableEq, Repr

/-- The class of an indication (R103). -/
inductive IndClass | sized | atLandmark | distorted
  deriving DecidableEq, Repr

/-- The limit flag of a depth (R116). -/
inductive LimitFlag | none | shallowLimit | deepLimit
  deriving DecidableEq, Repr

/-- The fields of an indication record that only an inspection traverse has (R105). -/
structure Sizing where
  calAmp : Nat
  theta : Nat
  cls : IndClass
  depth : Option Nat
  limit : LimitFlag
  deriving DecidableEq, Repr

/-- An indication record as finalisation writes it (R105). -/
structure IndicationRecord where
  ind : Indication
  landmark : Option Nat
  offset : Nat
  sizing : Option Sizing
  deriving DecidableEq, Repr

/-- The landmark list of a finalised traverse with its ignored count (R105). -/
structure LandmarkList where
  records : List LandmarkRecord
  ignored : Nat
  deriving DecidableEq, Repr

/-- The indication list of a finalised traverse with its excess count (R105). -/
structure IndicationList where
  records : List IndicationRecord
  excess : Nat
  deriving DecidableEq, Repr

/-- What a Screening Unit holds while bound to a traverse (R90). `firstPos` is the axial position of
the sample of traverse index 0, from which R102 locates an indication that follows no landmark. -/
structure ScreenState where
  traverse : Nat
  params : ScreenParams
  next : Nat
  window : Option IndWindow
  run : LandmarkRun
  lmWindow : Option LandmarkWindow
  indications : List Indication
  excess : Nat
  landmarks : List LandmarkRecord
  ignored : Nat
  opened : Nat
  closed : Nat
  firstPos : Nat
  deriving DecidableEq, Repr

/-- The three states of a Screening Unit (R90). -/
inductive Screening
  | idle
  | active (u : ScreenState)
  | holding (u : ScreenState)
  deriving DecidableEq, Repr

/-- A Probe Channel Controller with its Screening Unit. `silenceMs` is the link-silence timer (it
runs while the channel is not OFFLINE, R44) and `quietMs` the time since the last sent frame (R43).
The two session timers are held as the session time at which they run out (R191). `nextBuf` is the
buffer that the filling role passes to (R64). `reports` lists
the aborted traverses whose TRAVERSE_DONE waits for their last write (R72), and `sent` the frames
the channel has sent, oldest first (log entry 7). -/
structure Channel where
  state : ChanState
  silenceMs : Nat
  quietMs : Nat
  identity : Option Identity
  permit : Option Permit
  claim : Option Pos
  claimDue : Option Nat
  pauseDue : Option Nat
  traverse : Option Nat
  expect : Option Nat
  pendingLost : Bool
  bufA : PageBuffer
  bufB : PageBuffer
  nextBuf : BufId
  linkLossMark : Bool
  screen : Screening
  reports : List Nat
  sent : List ProbeOut
  deriving DecidableEq, Repr

/-! The Traverse Store Controller. -/

/-- What a traverse was pulled on (R68): the tube of an INSPECTION or the standard of a CALIBRATION
traverse, which also says its kind. -/
inductive Target
  | tube (p : Pos)
  | standard (id : Nat)
  deriving DecidableEq, Repr

/-- The kind of a traverse as events carry it (R84). -/
inductive TraverseKind | inspection | calibration
  deriving DecidableEq, Repr

/-- The six traverse states (R70), in the order of their codes (R200). -/
inductive TraverseState | recording | paused | finishing | complete | aborted | invalidated
  deriving DecidableEq, Repr

/-- A directory entry (R68). `opened` and `closed` are the window counts at the last stored sample, as the
trailer of its page counts them without saturation (R80, R107), which READ_TRAVERSE carries in place of
absent lists (R88; of an ABORTED traverse, log entry 8). -/
structure Traverse where
  id : Nat
  target : Target
  channel : Chan
  bracket : Option Nat
  state : TraverseState
  archived : Bool
  settled : Bool
  start : Nat
  endTime : Option Nat
  stored : Nat
  lost : Nat
  flags : TraverseFlags
  identity : Identity
  pages : List Nat
  written : Nat
  inWrite : Nat
  reservation : Nat
  landmarks : Option LandmarkList
  indications : Option IndicationList
  autoCall : Option Call
  readers : Nat
  releasePending : Bool
  opened : Nat
  closed : Nat
  deriving DecidableEq, Repr

/-- A run of consecutive page numbers of the free page pool: `count` of them from `first`. -/
structure PageRun where
  first : Nat
  count : Nat
  deriving DecidableEq, Repr

/-- A page waiting in a write lane (R77). -/
structure LaneEntry where
  buf : BufId
  traverse : Nat
  samples : Nat
  last : Bool
  aborted : Bool
  lostWithin : Bool
  soFar : SoFar
  deriving DecidableEq, Repr

/-- The store port (R78): free, or one page transfer. A write names the traverse it counts for, until
a session close forgets it (R89); a fetch names its station, page number and page sequence, and
whether its page is still to be delivered (R176). -/
inductive Port
  | free
  | write (ch : Chan) (buf : BufId) (traverse : Option Nat) (page : Nat) (bytes : List Byte)
  | fetch (st : Stn) (page seq : Nat) (deliver : Bool)
  deriving DecidableEq, Repr

/-- The Traverse Store Controller (R67, R74, R75, R77, R78, R85) and the store behind its port. The
pool is its queue of page numbers, head first, as runs; live entries are the directory's length. -/
structure Store where
  directory : List Traverse
  reservedSlots : Nat
  reservedPages : Nat
  pool : List PageRun
  lanes : Four (List LaneEntry)
  port : Port
  lastWrite : Chan
  lastFetch : Stn
  low : Bool
  ddr : List Host.Cell
  deriving DecidableEq, Repr

/-! The Calibration Unit. -/

/-- A defined standard (R120). -/
structure Standard where
  depths : List Nat
  freq : Nat
  threshold : Nat
  deriving DecidableEq, Repr

/-- The stage of a calibration attempt (R123). -/
inductive Stage | pulling | evaluating
  deriving DecidableEq, Repr

/-- A calibration attempt (R123); its channel is the place it is held at. -/
structure Attempt where
  traverse : Nat
  standard : Nat
  probe : ProbeId
  stage : Stage
  deriving DecidableEq, Repr

/-- One flaw of a log entry (R131). -/
structure Flaw where
  depth : Nat
  phase : Nat
  amp : Nat
  theta : Nat
  calAmp : Nat
  deriving DecidableEq, Repr

/-- The "bracket closed" group of a log entry (R131, R136); pull positions count from 1. -/
structure ClosedInfo where
  number : Nat
  good : Bool
  phaseDrift : Nat
  phaseAt : Nat
  ampDrift : Nat
  ampAt : Nat
  deriving DecidableEq, Repr

/-- A calibration log entry (R131); the bracket it opened has its number. -/
structure LogEntry where
  number : Nat
  channel : Chan
  standard : Nat
  traverse : Nat
  time : Nat
  probe : ProbeId
  flaws : List Flaw
  rho : Nat
  aRef : Nat
  closed : Option ClosedInfo
  deriving DecidableEq, Repr

/-- The state of a bracket (R132). -/
inductive BracketState | opened | closedGood | closedFail
  deriving DecidableEq, Repr

/-- Why cal_due was set (R134). -/
inductive CalDue | age | full | link
  deriving DecidableEq, Repr

/-- Why a bracket closed (R132). -/
inductive ClosingCause
  | calibration (log : Nat)
  | probeFailed
  | probeChanged
  deriving DecidableEq, Repr

/-- The sweep state of a bracket (R132). -/
inductive SweepState | none | running | done
  deriving DecidableEq, Repr

/-- A bracket record (R132). `toPresent` lists the traverses its running sweep has still to take
(log entry 9). -/
structure Bracket where
  number : Nat
  channel : Chan
  openingLog : Nat
  standard : Nat
  openedAt : Nat
  capacity : Nat
  traverses : List Nat
  state : BracketState
  calDue : Option CalDue
  cause : Option ClosingCause
  closedAt : Option Nat
  sweep : SweepState
  retests : Option Nat
  toPresent : List Nat
  deriving DecidableEq, Repr

/-- The Calibration Unit (R123, R131, R132). The next log and bracket number is one more than the
length of the log. -/
structure Calibration where
  attempts : Four (Option Attempt)
  log : List LogEntry
  brackets : List Bracket
  deriving DecidableEq, Repr

/-! The Agreement Unit. -/

/-- A comparison in hand (R152): the snapshot of the calls and the limits read with it. -/
structure Comparison where
  pos : Pos
  traverse : Nat
  primary : Call
  second : Call
  limits : Limits
  deriving DecidableEq, Repr

/-- The reason of a disagreement with what it carries (R156). -/
inductive Disagreement
  | oneRetest (source : CallSource)
  | unmatchedPrimary (e : CallEntry)
  | unmatchedSecond (e : CallEntry)
  | depth (e : CallEntry) (primaryDepth secondDepth : Nat)
  deriving DecidableEq, Repr

/-- The outcome of a comparison (R156): agreement carries the final call's kind and entries. -/
inductive CompareOutcome
  | agreement (kind : CallKind) (entries : List CallEntry)
  | disagreement (d : Disagreement)
  | bothRetest
  deriving DecidableEq, Repr

/-- The comparison status of a SUBMIT_CALL response (R149). -/
inductive CompareStatus | started | bracketFailed | waitingCall | waitingBracket
  deriving DecidableEq, Repr

/-! The Configuration Memory Controller. -/

/-- The role of a station (R168). -/
inductive Role | primary | secondary | lead
  deriving DecidableEq, Repr

/-- The configuration shadow (R187): roles, plan limits and standards 0 to 7 as a list of eight. -/
structure Shadow where
  roles : Three Role
  limits : Limits
  standards : List (Option Standard)
  deriving DecidableEq, Repr

/-- Why the factory defaults were loaded (R185). -/
inductive DefaultReason | signature | checksum
  deriving DecidableEq, Repr

/-- The configuration status (R186). -/
inductive ConfigStatus
  | loaded (roleFallback : Bool) (rejected : List Nat)
  | defaulted (reason : DefaultReason)
  deriving DecidableEq, Repr

/-- What a write enable goes before: the erase, or program k (R189). -/
inductive FlashTarget
  | erase
  | program (k : Nat)
  deriving DecidableEq, Repr

/-- The failing step of a save (R189). -/
inductive FailStep
  | writeEnable (t : FlashTarget)
  | eraseTimeout
  | programTimeout (k : Nat)
  | verify (offset : Nat)
  | cfgProtect (t : FlashTarget)
  deriving DecidableEq, Repr

/-- The result of a save (R188). -/
inductive SaveResult
  | ok
  | failed (step : FailStep)
  deriving DecidableEq, Repr

/-- How far a running save has come (R189): nothing issued yet (log entry 11), a write enable with its
status read, the erase or a program under way, a wait for not busy after the end of one, or the
read-back. -/
inductive SaveStep
  | start
  | writeEnable (t : FlashTarget)
  | erase
  | eraseWait
  | program (k : Nat)
  | programWait (k : Nat)
  | readBack
  deriving DecidableEq, Repr

/-- The save state (R188): IDLE, or RUNNING against its snapshot. `busyMs` counts a wait for not busy from
the end of the erase or the program (R189). -/
inductive Save
  | idle
  | running (snapshot : Shadow) (step : SaveStep) (busyMs : Nat)
  deriving DecidableEq, Repr

/-- The start-up phase (R184): held in reset, LOADING, or READY. -/
inductive Phase | inReset | loading | ready
  deriving DecidableEq, Repr

/-- The Configuration Memory Controller (R184 to R190), its input CFG_PROTECT and the flash.
`protectRose` says that the pin has risen since the last accepted SAVE_CONFIG: R190 has a rise stop every
erase and program not yet enabled, and a fall without effect on the save (log entry 47). -/
structure ConfigMem where
  phase : Phase
  shadow : Shadow
  status : Option ConfigStatus
  save : Save
  lastSave : Option SaveResult
  cfgProtect : Bool
  protectRose : Bool
  flash : List Host.Cell
  deriving DecidableEq, Repr

/-! Station links. -/

/-- The status codes of a RESPONSE (R170), in the order of its table. -/
inductive Status
  | ok | wrongRole | noSession | sessionOpen | planLocked | planNotLocked | planIncomplete
  | badArgument | noSuchTube | wrongState | tubeBusy | staleTraverse | noSuchTraverse
  | traverseBusy | tableFull | queueFull | busy | cfgProtected | roleDisabled | unsettled
  deriving DecidableEq, Repr

/-- The lock-failure reason of LOCK_PLAN with what it carries (R11). -/
inductive LockFailure
  | session
  | noTubes
  | undefinedClass (p : Pos) (cls : Nat)
  | noStandard
  deriving DecidableEq, Repr

/-- The outcome of MARK_ARCHIVED (R82). -/
inductive ArchiveOutcome | kept | released | pending
  deriving DecidableEq, Repr

/-- The events of the part with their arguments (R179). -/
inductive Event
  | tubeAcquired (p : Pos) (traverse : Nat) (ch : Chan)
  | tubeResolution (p : Pos) (traverse : Nat) (reason : Disagreement)
  | calAccepted (ch : Chan) (traverse log : Nat)
  | calRejected (ch : Chan) (traverse : Nat) (reason : CalReject)
  | channelChange (ch : Chan) (state : ChanState) (permit : Option Permit)
  | storeLow (value : Nat)
  | storeOk (value : Nat)
  | traverseReleased (traverse : Nat) (kind : TraverseKind) (freed : Nat)
  | configSaved (result : SaveResult)
  | tubeFinal (p : Pos) (traverse : Nat) (state : TubeState) (kind : CallKind) (depth : Option Nat)
  | tubeRetest (p : Pos) (cause : RetestCause) (attempts : Nat)
  | bracketClosed (ch : Chan) (number : Nat) (good : Bool) (retests : Nat)
  | sessionClosed (base time : Nat) (forced : Bool) (aborted attempts claims : Nat)
  deriving DecidableEq, Repr

/-- An event record (R178): the session time is absent when no session is open. -/
structure EventRecord where
  event : Event
  time : Option Nat
  deriving DecidableEq, Repr

/-- What READ_STATUS gives of one channel (R183). -/
structure ChannelStatus where
  state : ChanState
  permit : Option Permit
  deriving DecidableEq, Repr

/-- The link state of a station link (R166). -/
inductive LinkState | down | up
  deriving DecidableEq, Repr

/-- The content of a READ_STATUS response (R183). `clock` is the session time and wall-time base,
absent with no session. -/
structure StatusReport where
  clock : Option (Nat × Nat)
  locked : Option Bool
  counts : Option TubeCounts
  freePages : Nat
  reservedPages : Nat
  reservedSlots : Nat
  live : Nat
  logEntries : Nat
  openBrackets : Nat
  channels : Four ChannelStatus
  links : Three LinkState
  config : Option ConfigStatus
  saving : Bool
  role : Option Role
  eventsLost : Bool
  deriving DecidableEq, Repr

/-- What READ_CHANNEL gives of the traverse in hand (R66). -/
structure TraverseInHand where
  id : Nat
  kind : TraverseKind
  state : TraverseState
  stored : Nat
  lost : Nat
  deriving DecidableEq, Repr

/-- The content of a READ_CHANNEL response (R66). -/
structure ChannelReport where
  state : ChanState
  permit : Option Permit
  identity : Option Identity
  claim : Option Pos
  claimLeft : Option Nat
  traverse : Option TraverseInHand
  pauseLeft : Option Nat
  evaluation : Bool
  linkLossMark : Bool
  bufA : BufferState × Nat
  bufB : BufferState × Nat
  bracket : Option (Nat × Option CalDue)
  window : Option Rect
  deriving DecidableEq, Repr

/-- The content of a READ_TRAVERSE response (R88): the entry without its page list, the list's
length, and the two window counts where it carries them. -/
structure TraverseReport where
  entry : Traverse
  pageCount : Nat
  soFar : Option (Nat × Nat)
  deriving DecidableEq, Repr

/-- The content of a READ_CONFIG response (R187). -/
structure ConfigReport where
  shadow : Shadow
  status : Option ConfigStatus
  step : Option SaveStep
  lastSave : Option SaveResult
  cfgProtect : Bool
  deriving DecidableEq, Repr

/-- What a RESPONSE carries after its status, as the rule of its request names it. -/
inductive Content
  | none
  | geometry (cls : Nat) (g : Geometry)
  | tubesDefined (new redefined defined : Nat)
  | tableFull (defined : Nat)
  | tubesRemoved (removed defined : Nat)
  | limits (l : Limits) (clamped : ClampFlags)
  | sessionOpened (base : Nat) (l : Limits) (clamped : ClampFlags)
  | mode (m : Mode)
  | lockFailure (r : LockFailure)
  | window (ch : Nat) (w : Rect)
  | exclusions (e : Exclusions)
  | standard (s : Standard)
  | retest (state : TubeState) (cause : Option RetestCause) (attempts : Nat)
  | tubeState (p : Pos) (state : TubeState)
  | archived (traverse : Nat) (outcome : ArchiveOutcome)
  | probeFailed (state : ChanState) (bracket : Option Nat)
  | callAccepted (p : Pos) (traverse : Nat) (replaced : Bool) (status : CompareStatus)
  | sessionEnded (aborted attempts claims : Nat)
  | status (r : StatusReport)
  | events (records : List EventRecord) (left : Nat) (lost : Bool)
  | tube (t : TubeEntry) (g : Option Geometry)
  | tubes (entries : List TubeEntry) (continuation : Option Pos)
  | traverse (r : TraverseReport)
  | channel (r : ChannelReport)
  | calLog (entries : List LogEntry) (total : Nat)
  | bracket (b : Bracket) (ageLeft : Option Nat) (rho aRef : Nat)
  | config (r : ConfigReport)
  deriving DecidableEq, Repr

/-- How a stream ended (R174): DATA_ERROR carries the failing page's sequence and page number. -/
inductive Ending
  | ok
  | short
  | dataError (seq page : Nat)
  | aborted
  deriving DecidableEq, Repr

/-- The frames the part sends on a station link (R165). A QUEUE_FULL response is apart, because it
answers a request that never entered the queue (R169). -/
inductive StationOut
  | response (tag name : Nat) (status : Status) (content : Content)
  | queueFull (tag name : Nat)
  | pageData (tag seq : Nat) (bytes : List Byte)
  | streamEnd (tag : Nat) (ending : Ending) (sent stopped : Nat)
  | idle
  deriving DecidableEq, Repr

/-- The fetch buffer of a read port (R173). -/
inductive FetchBuffer
  | empty
  | waiting
  | fetching
  | full (bytes : List Byte)
  deriving DecidableEq, Repr

/-- A running page stream (R172, R173). `registered` says that the read port still counts among the
readers of its traverse (R86). -/
structure Stream where
  tag : Nat
  traverse : Nat
  first : Nat
  count : Nat
  next : Nat
  sent : Nat
  fetch : FetchBuffer
  output : Option (Nat × List Byte)
  ending : Option Ending
  registered : Bool
  deriving DecidableEq, Repr

/-- A request waiting in a station's queue (R169). -/
structure QueuedRequest where
  tag : Nat
  req : Request
  deriving DecidableEq, Repr

/-- A Station Link Controller. `silenceMs` is the silence timer, which runs while the link is UP
(R166); `inHand` says that the request at the head of the queue has been begun; `reply` is its
RESPONSE or STREAM_END not yet on the line; `line` is the frame being sent; `delivered` lists the
frames whose send has ended, oldest first (log entry 7). -/
structure StationLink where
  link : LinkState
  silenceMs : Nat
  quietMs : Nat
  role : Option Role
  queue : List QueuedRequest
  inHand : Bool
  queueFull : List (Nat × Nat)
  reply : Option StationOut
  line : Option StationOut
  stream : Option Stream
  events : List EventRecord
  eventsLost : Bool
  attn : Bool
  delivered : List StationOut
  deriving DecidableEq, Repr

/-- What a request answers: the status of its RESPONSE and the content that goes with it. -/
structure Reply where
  status : Status
  content : Content
  deriving DecidableEq, Repr

end Sys2Proof.Machine
end

