-- ==== Sys2Proof/Machine/Arithmetic.lean ====
section
/-! DEFINITION. Phase and depth arithmetic (chapter 6): the seven stages of R108, each carried out on
exact integers. -/

namespace Sys2Proof.Machine

/-- Division rounded to nearest, an exact half up (section 3.6 of 00_scope.md). -/
def roundDiv (n d : Nat) : Nat := (2 * n + d) / (2 * d)

/-- Division rounded up. -/
def ceilDiv (n d : Nat) : Nat := (n + d - 1) / d

/-! Stage 1, the peak-to-peak pair (R109). -/

/-- A pair of window samples, by index, with the vector from the earlier to the later. -/
structure Chord where
  i : Nat
  j : Nat
  dx : Int
  dy : Int
  deriving DecidableEq, Repr

/-- The squared distance of a pair. -/
def Chord.sq (c : Chord) : Nat := (c.dx * c.dx + c.dy * c.dy).toNat

/-- The better of two pairs: the later one only where its squared distance is greater, so that the
earlier of equals stays. -/
def longer (best : Option Chord) (c : Chord) : Option Chord :=
  match best with
  | none => some c
  | some b => if b.sq < c.sq then some c else some b

/-- The best pair among those that begin at sample `i` with values `p`, the later samples following
from index `j`. -/
def chordsFrom (i : Nat) (p : XY) : Nat → List XY → Option Chord → Option Chord
  | _, [], best => best
  | j, q :: rest, best => chordsFrom i p (j + 1) rest (longer best ⟨i, j, q.x - p.x, q.y - p.y⟩)

/-- The best pair of a run of samples whose first has index `i`, in the order of R109: smallest `i`,
then smallest `j`. -/
def chordsOf : Nat → List XY → Option Chord → Option Chord
  | _, [], best => best
  | i, p :: rest, best => chordsOf (i + 1) rest (chordsFrom i p (i + 1) rest best)

/-- The peak-to-peak pair of a window whose first sample has index `first` (R109). A window of one
sample has its own index as both, and a zero vector. -/
def peakToPeak (first : Nat) (values : List XY) : Chord :=
  (chordsOf first values none).getD ⟨first, first, 0, 0⟩

/-! Stage 2, the raw amplitude (R110). -/

/-- Builds a square root bit by bit from bit `b - 1` down, keeping the square at most `n`. -/
def sqrtBits (n : Nat) : Nat → Nat → Nat
  | 0, r => r
  | b + 1, r => if (r + 2 ^ b) * (r + 2 ^ b) ≤ n then sqrtBits n b (r + 2 ^ b) else sqrtBits n b r

/-- The floor of the square root of a number below 2^40. -/
def floorSqrt (n : Nat) : Nat := sqrtBits n 20 0

/-- The raw amplitude (R110): the floor of the exact root of dX² + dY². -/
def rawAmplitude (dx dy : Int) : Nat := floorSqrt (dx * dx + dy * dy).toNat

/-! Stage 3, the raw phase (R111). The angle is compared exactly with the half-way directions
between two tenths of a degree. Their sines and cosines are carried to 30 decimals, far finer than
the least distance of a vector of the part from such a direction (log entry 10; proved in
Laws/Direction.lean). -/

/-- One, in the fixed point of 30 decimals. -/
def fixOne : Nat := 10 ^ 30

/-- π in the fixed point of 30 decimals. -/
def fixPi : Nat := 3141592653589793238462643383279

/-- The alternating series t − t·x²/((n+1)(n+2)) + …, `k` terms after the first. -/
def trigSeries (x : Nat) : Nat → Nat → Nat → Int
  | 0, _, t => t
  | k + 1, n, t => (t : Int) - trigSeries x k (n + 2) (t * x / fixOne * x / fixOne / ((n + 1) * (n + 2)))

/-- The sine of `u` twentieths of a degree, 0 to 90 degrees, in fixed point. -/
def fixSin (u : Nat) : Int := let x := u * fixPi / 3600; trigSeries x 18 1 x

/-- The cosine of `u` twentieths of a degree, 0 to 90 degrees, in fixed point. -/
def fixCos (u : Nat) : Int := let x := u * fixPi / 3600; trigSeries x 18 0 fixOne

/-- Whether the direction of (x, y), both at least 0, lies beyond `u` twentieths of a degree. -/
def beyond (x y : Int) (u : Nat) : Bool := decide (x * fixSin u < y * fixCos u)

/-- Counts, by halving, the half-way directions (odd twentieths) that a vector of the first quadrant
lies beyond: `lo` of them are known to be, and none from `hi` on. -/
def countBeyond (x y : Int) : Nat → Nat → Nat → Nat
  | 0, lo, _ => lo
  | fuel + 1, lo, hi =>
    if lo < hi then
      let mid := (lo + hi) / 2
      if beyond x y (2 * mid + 1) then countBeyond x y fuel (mid + 1) hi
      else countBeyond x y fuel lo mid
    else lo

/-- The direction of a vector of the first quadrant in tenths of a degree, rounded to nearest:
0 to 900. -/
def quadrantPhase (x y : Int) : Nat := countBeyond x y 10 0 900

/-- The raw phase (R111): each quadrant is turned into the first, and 3600 is written as 0. -/
def rawPhase (dx dy : Int) : Nat :=
  if dx = 0 ∧ dy = 0 then 0
  else if 0 < dx ∧ 0 ≤ dy then quadrantPhase dx dy % 3600
  else if dx ≤ 0 ∧ 0 < dy then (900 + quadrantPhase dy (-dx)) % 3600
  else if dx < 0 ∧ dy ≤ 0 then (1800 + quadrantPhase (-dx) (-dy)) % 3600
  else (2700 + quadrantPhase (-dy) dx) % 3600

/-! Stages 4 and 5, rotation and calibrated amplitude. -/

/-- The rotation ρ of a calibration (R112). -/
def rotationOf (phaseRef : Nat) : Nat := ((400 - (phaseRef : Int)) % 3600).toNat

/-- The rotated phase θ (R113). -/
def rotate (rho phase : Nat) : Nat := (phase + rho) % 3600

/-- The calibrated amplitude (R114). -/
def calibratedAmplitude (aRef amp : Nat) : Nat := min 65535 (roundDiv (amp * 500) aRef)

/-! Stage 6, depth (R115 to R117). -/

/-- The depth between the shallower point `a` and the deeper point `b` of a curve (R117). -/
def interpolate (a b : Nat × Nat) (theta : Nat) : Nat :=
  let q := (b.1 - a.1) * (a.2 - theta)
  let r := a.2 - b.2
  a.1 + (2 * q + r) / (2 * r)

/-- The depth of θ on a curve from its point `a` onward, θ not above that of `a` (R116). -/
def depthFrom (theta : Nat) : Nat × Nat → List (Nat × Nat) → Nat × LimitFlag
  | a, [] => if theta = a.2 then (a.1, .none) else (100, .deepLimit)
  | a, b :: rest =>
    if theta = a.2 then (a.1, .none)
    else if b.2 < theta then (interpolate a b theta, .none)
    else depthFrom theta b rest

/-- The depth stage (R116) on a curve in order of depth ascending: the depth, absent in the
distorted sector, and the limit flag. -/
def depthStage (points : List (Nat × Nat)) (theta : Nat) : Option Nat × LimitFlag :=
  if 1800 ≤ theta then (none, .none)
  else
    match points with
    | [] => (none, .none)
    | p :: rest =>
      if p.2 < theta then (some p.1, .shallowLimit)
      else
        let d := depthFrom theta p rest
        (some d.1, d.2)

/-! Stage 7, the circular difference (R119). -/

/-- The circular difference of two phases. -/
def circularDiff (a b : Nat) : Nat :=
  let d := (a - b) + (b - a)
  if 1800 < d then 3600 - d else d

/-! The thresholds of screening. -/

/-- T_raw of an inspection traverse (R93). -/
def rawThreshold (detection aRef : Nat) : Nat := ceilDiv (detection * aRef) 500

/-- The detection or landmark quantity of a signal channel (R92). -/
def magnitude (v : XY) : Nat := max v.x.natAbs v.y.natAbs

/-- The offset between two axial positions in whole millimetres (R102). -/
def offsetMm (a b : Nat) : Nat := min Config.maxOffset (roundDiv ((a - b) + (b - a)) 10)

end Sys2Proof.Machine
end

