-- ==== Sys2Proof/Machine/State.lean ====
section
/-! DEFINITION. The state of the part: every block's state together, the reasons a step can stop,
and the state after power-on reset. -/

namespace Sys2Proof.Machine

/-- The reasons a command stops the part. -/
inductive Fault
  /-- Raised by PAGE_WRITE_END and FETCH_END when the page number of the transfer on the store port
  is 1,048,576 or more: the store has no such page (R74). No state reached from reset has such a
  transfer, because the pool holds only the page numbers of the store. Safe: the part stops where
  the manual gives no address. -/
  | noSuchPage (page : Nat)
  deriving DecidableEq, Repr

/-- The reasons a command has no meaning. -/
inductive Refusal
  /-- Raised by an arm of `exec` whose command has no meaning yet. Safe. -/
  | notModelled (mnemonic : String)
  deriving DecidableEq, Repr

/-- The state of the part. `pending` is the queue of commands that wait, first in, first out;
`session` is absent while the session state is CLOSED (R1, R191). -/
structure State where
  pending : List Instr
  session : Option Session
  channels : Four Channel
  store : Store
  cal : Calibration
  comparisons : List Comparison
  config : ConfigMem
  stations : Three StationLink
  deriving DecidableEq, Repr

/-- The factory defaults of the nine plan limits (R8, last column). -/
def Limits.factory : Limits :=
  { plug := 40, reporting := 20, depthTol := 10, locTol := 25, detection := 50, landmark := 4000
    gap := 8, interval := 4, capacity := 512 }

/-- The configuration shadow of the factory defaults (R186). -/
def Shadow.factory : Shadow :=
  { roles := ⟨.primary, .secondary, .lead⟩, limits := Limits.factory
    standards := List.replicate 8 none }

/-- A free page assembly buffer (R64). -/
def PageBuffer.empty : PageBuffer :=
  { state := .free, traverse := 0, firstIndex := 0, samples := [], soFar := ⟨0, 0, 0⟩ }

/-- A probe channel after power-on reset: OFFLINE, with every timer stopped (R44, R47, R58, R64,
R90). -/
def Channel.reset : Channel :=
  { state := .offline, silenceMs := 0, quietMs := 0, identity := none, permit := none, claim := none
    claimDue := none, pauseDue := none, traverse := none, expect := none, pendingLost := false
    bufA := PageBuffer.empty, bufB := PageBuffer.empty, nextBuf := .a, linkLossMark := false, screen := .idle
    reports := [], sent := [] }

/-- The free page pool with all page numbers in ascending order (R74). -/
def fullPool : List PageRun := [⟨0, Config.storePages⟩]

/-- The Traverse Store Controller after power-on reset (R67, R74, R75, R77, R78, R85). -/
def Store.reset : Store :=
  { directory := [], reservedSlots := 0, reservedPages := 0, pool := fullPool
    lanes := Four.all [], port := .free, lastWrite := 3, lastFetch := 2, low := false, ddr := [] }

/-- The Calibration Unit after power-on reset (R123, R142). -/
def Calibration.reset : Calibration :=
  { attempts := Four.all none, log := [], brackets := [] }

/-- The Configuration Memory Controller while RESET_N is low (R184). The shadow does not exist yet;
the model holds the factory defaults in its place, which nothing can read (log entry 2). -/
def ConfigMem.reset : ConfigMem :=
  { phase := .inReset, shadow := Shadow.factory, status := none, save := .idle, lastSave := none
    cfgProtect := false, protectRose := false, flash := [] }

/-- A Station Link Controller after power-on reset (R166, R169, R172, R178, R180). -/
def StationLink.reset : StationLink :=
  { link := .down, silenceMs := 0, quietMs := 0, role := none, queue := [], inHand := false
    queueFull := [], reply := none, line := none, stream := none, events := [], eventsLost := false
    attn := false, delivered := [] }

/-- The part in power-on reset (R184), RESET_N still low, with nothing waiting. -/
def State.reset : State :=
  { pending := [], session := none, channels := Four.all Channel.reset, store := Store.reset
    cal := Calibration.reset, comparisons := [], config := ConfigMem.reset
    stations := Three.all StationLink.reset }

end Sys2Proof.Machine
end

