-- ==== Sys2Proof/Machine/Screening.lean ====
section
/-! DEFINITION. The Screening Unit (chapter 5): marks, indication and landmark windows,
finalisation and the automatic call. Each function acts on a unit's own state; the channel and the
store call them. -/

namespace Sys2Proof.Machine

/-- The D channel of an analysis frequency, 1 to 4 (section 3.3 of 00_scope.md). -/
def analysisValue (freq : Nat) (r : Reading) : XY :=
  if freq = 1 then r.d1 else if freq = 2 then r.d2 else if freq = 3 then r.d3 else r.d4

/-- A Screening Unit as it is bound to a new traverse (R90, R91). -/
def ScreenState.start (traverse : Nat) (params : ScreenParams) : ScreenState :=
  { traverse := traverse, params := params, next := 0, window := none, run := ⟨0, 0, 0, 0, 0⟩
    lmWindow := none, indications := [], excess := 0, landmarks := [], ignored := 0
    opened := 0, closed := 0, firstPos := 0 }

/-! Indication windows (R95 to R97). -/

/-- Closes the open indication window (R97): its record joins the running list, or the excess count
rises when 64 records are held. -/
def ScreenState.closeIndication (u : ScreenState) (w : IndWindow) (capped : Bool) : ScreenState :=
  if u.indications.length < Config.maxIndications then
    let c := peakToPeak w.first (w.values.take (w.last - w.first + 1))
    { u with
      window := none
      closed := u.closed + 1
      indications := u.indications ++
        [{ seq := u.indications.length + 1, first := w.first, last := w.last, peak := w.peak
           peakPos := w.peakPos, capped := capped, pairI := c.i, pairJ := c.j
           rawAmp := rawAmplitude c.dx c.dy, rawPhase := rawPhase c.dx c.dy }] }
  else { u with window := none, closed := u.closed + 1, excess := u.excess + 1 }

/-- Takes a sample with the detection mark into the open window (R95) and applies the cap (R96). A marked
sample after unmarked ones can carry the length past 512: the window then closes CAPPED at that sample and
holds them all, up to 575, where R96 and R109 have it hold 512 (the model's choice, log entry 46). -/
def ScreenState.markedIndication (u : ScreenState) (w : IndWindow) (idx m pos : Nat) (v : XY) :
    ScreenState :=
  let w1 : IndWindow := { w with last := idx, below := 0, values := w.values ++ [v] }
  let w2 : IndWindow := if w.peakM < m then { w1 with peak := idx, peakM := m, peakPos := pos } else w1
  if Config.indicationCap ≤ idx - w.first + 1 then u.closeIndication w2 true
  else { u with window := some w2 }

/-- Takes a sample without the detection mark into the open window (R95). -/
def ScreenState.unmarkedIndication (u : ScreenState) (w : IndWindow) (v : XY) : ScreenState :=
  let w1 : IndWindow := { w with below := w.below + 1, values := w.values ++ [v] }
  if u.params.gap ≤ w1.below then u.closeIndication w1 false else { u with window := some w1 }

/-- Follows the indication windows over one stored sample (R95). -/
def ScreenState.stepIndication (u : ScreenState) (idx m pos : Nat) (v : XY) (mark : Bool) :
    ScreenState :=
  match u.window with
  | none =>
    if mark then
      { u with window := some { first := idx, last := idx, peak := idx, peakM := m, peakPos := pos
                                below := 0, values := [v] } }
    else u
  | some w => if mark then u.markedIndication w idx m pos v else u.unmarkedIndication w v

/-! Landmark windows (R98, R99). -/

/-- Closes the open landmark window (R99): a record joins the running list, or the window is ignored
when 48 records are held. -/
def ScreenState.closeLandmark (u : ScreenState) (w : LandmarkWindow) (capped : Bool) : ScreenState :=
  if u.landmarks.length < Config.maxLandmarks then
    { u with
      lmWindow := none
      run := ⟨0, 0, 0, 0, 0⟩
      landmarks := u.landmarks ++
        [{ seq := u.landmarks.length + 1, first := w.first, last := w.last, peak := w.peak
           peakM := w.peakM, position := w.peakPos, capped := capped }] }
  else { u with lmWindow := none, run := ⟨0, 0, 0, 0, 0⟩, ignored := u.ignored + 1 }

/-- The pending run with one more marked sample (R98). -/
def LandmarkRun.extend (r : LandmarkRun) (idx m pos : Nat) : LandmarkRun :=
  if r.count = 0 then { count := 1, first := idx, peak := idx, peakM := m, peakPos := pos }
  else if r.peakM < m then { r with count := r.count + 1, peak := idx, peakM := m, peakPos := pos }
  else { r with count := r.count + 1 }

/-- Follows the pending run while no landmark window is open (R98). -/
def ScreenState.stepRun (u : ScreenState) (idx m pos : Nat) (mark : Bool) : ScreenState :=
  if mark then
    let r := u.run.extend idx m pos
    if 4 ≤ r.count then
      { u with
        run := ⟨0, 0, 0, 0, 0⟩
        opened := u.opened + 1
        lmWindow := some { first := r.first, last := idx, peak := r.peak, peakM := r.peakM
                           peakPos := r.peakPos, below := 0 } }
    else { u with run := r }
  else { u with run := ⟨0, 0, 0, 0, 0⟩ }

/-- Follows an open landmark window over one stored sample (R99). A marked sample that carries the length
past 2,048 closes it CAPPED at that sample, as one that makes it 2,048 (the model's choice, log entry 46). -/
def ScreenState.stepOpenLandmark (u : ScreenState) (w : LandmarkWindow) (idx m pos : Nat)
    (mark : Bool) : ScreenState :=
  if mark then
    let w1 : LandmarkWindow := { w with last := idx, below := 0 }
    let w2 : LandmarkWindow :=
      if w.peakM < m then { w1 with peak := idx, peakM := m, peakPos := pos } else w1
    if Config.landmarkCap ≤ idx - w.first + 1 then u.closeLandmark w2 true
    else { u with lmWindow := some w2 }
  else
    let w1 : LandmarkWindow := { w with below := w.below + 1 }
    if u.params.gap ≤ w1.below then u.closeLandmark w1 false else { u with lmWindow := some w1 }

/-- Follows the landmark windows over one stored sample; nothing where detection is off (R93). -/
def ScreenState.stepLandmark (u : ScreenState) (idx m pos : Nat) (mark : Bool) : ScreenState :=
  match u.params.landmark with
  | none => u
  | some _ =>
    match u.lmWindow with
    | none => u.stepRun idx m pos mark
    | some w => u.stepOpenLandmark w idx m pos mark

/-! One stored sample (R92 to R94). -/

/-- The landmark mark of a reading (R94). -/
def ScreenParams.landmarkMark (p : ScreenParams) (r : Reading) : Bool :=
  match p.landmark with
  | none => false
  | some t => decide (t ≤ magnitude r.a4)

/-- The detection mark of a reading (R94). -/
def ScreenParams.detectionMark (p : ScreenParams) (r : Reading) : Bool :=
  decide (p.tRaw ≤ magnitude (analysisValue p.freq r))

/-- Takes the traverse's next stored sample: the two windows follow it independently (R99). -/
def ScreenState.screen (u : ScreenState) (r : Reading) : ScreenState :=
  let idx := u.next
  let v := analysisValue u.params.freq r
  let u1 := u.stepIndication idx (magnitude v) r.position v (u.params.detectionMark r)
  let u2 := u1.stepLandmark idx (magnitude r.a4) r.position (u.params.landmarkMark r)
  { u2 with next := idx + 1, firstPos := if idx = 0 then r.position else u.firstPos }

/-! Finalisation (R101 to R105). -/

/-- Closes what is still open (R101). -/
def ScreenState.closeOpen (u : ScreenState) : ScreenState :=
  let u1 := match u.window with
    | none => u
    | some w => u.closeIndication w false
  match u1.lmWindow with
  | none => u1
  | some w => u1.closeLandmark w false

/-- The last landmark record whose peak is at or before an index (R102). -/
def lastLandmark (marks : List LandmarkRecord) (peak : Nat) : Option LandmarkRecord :=
  marks.foldl (fun found l => if l.peak ≤ peak then some l else found) none

/-- The class, depth and limit flag of an indication of an inspection traverse (R103). -/
def classify (marks : List LandmarkRecord) (c : CalRef) (peak theta : Nat) :
    IndClass × Option Nat × LimitFlag :=
  if marks.any fun l => decide (l.first ≤ peak ∧ peak ≤ l.last) then (.atLandmark, none, .none)
  else if 1800 ≤ theta then (.distorted, none, .none)
  else
    let d := depthStage c.points theta
    (.sized, d.1, d.2)

/-- The inspection fields of an indication record (R103). -/
def sizingOf (marks : List LandmarkRecord) (c : CalRef) (i : Indication) : Sizing :=
  let theta := rotate c.rho i.rawPhase
  let k := classify marks c i.peak theta
  { calAmp := calibratedAmplitude c.aRef i.rawAmp, theta := theta, cls := k.1, depth := k.2.1
    limit := k.2.2 }

/-- Locates an indication (R102) and, for an inspection traverse, measures and classifies it (R103,
R104). -/
def ScreenState.locate (u : ScreenState) (i : Indication) : IndicationRecord :=
  let l := lastLandmark u.landmarks i.peak
  let ref := match l with
    | some r => r.position
    | none => u.firstPos
  { ind := i, landmark := l.map (·.seq), offset := offsetMm ref i.peakPos
    sizing := u.params.cal.map fun c => sizingOf u.landmarks c i }

/-- What finalisation writes into the directory entry (R101, R105). -/
structure Findings where
  landmarks : LandmarkList
  indications : IndicationList
  mismatch : Bool
  excess : Bool
  opened : Nat
  closed : Nat
  deriving DecidableEq, Repr

/-- The finalisation of a traverse (R101 to R104). -/
def ScreenState.finalise (u : ScreenState) : Findings :=
  let v := u.closeOpen
  { landmarks := ⟨v.landmarks, v.ignored⟩
    indications := ⟨v.indications.map v.locate, v.excess⟩
    mismatch := match v.params.expected with
      | none => false
      | some n => decide (v.landmarks.length + v.ignored ≠ n)
    excess := decide (0 < v.excess)
    opened := v.opened
    closed := v.closed }

/-! The automatic call (R106). -/

/-- Whether a record is reportable in the automatic call (R106). -/
def reportableRecord (threshold : Nat) (r : IndicationRecord) : Bool :=
  match r.sizing with
  | none => false
  | some s =>
    match s.depth with
    | none => false
    | some d => decide (s.cls = .sized ∧ threshold ≤ d)

/-- The entry of the automatic call for a reportable record: class code 0 (R106). -/
def autoEntry (r : IndicationRecord) : CallEntry :=
  { landmark := r.landmark, offset := r.offset
    depth := (r.sizing.bind (·.depth)).getD 0, classCode := 0 }

/-- Whether a traverse's flags make its automatic call NOT_USABLE (R106). -/
def TraverseFlags.any (f : TraverseFlags) : Bool :=
  f.truncated || f.lostSamples || f.landmarkMismatch || f.indicationExcess

/-- The automatic call of an inspection traverse (R106). -/
def automaticCall (threshold : Nat) (flags : TraverseFlags) (records : List IndicationRecord)
    (time traverse : Nat) : Call :=
  let found := records.filter (reportableRecord threshold)
  let kind : CallKind :=
    if flags.any || decide (Config.maxCallEntries < found.length) then .notUsable
    else if found = [] then .ndd
    else .indications
  { kind := kind, entries := if kind = .indications then found.map autoEntry else []
    source := .automatic, time := time, traverse := traverse }

end Sys2Proof.Machine
end

