-- ==== Sys2Proof/Machine/Memory.lean ====
section
/-! DEFINITION. The two memories behind the part's ports, the DDR store and the flash: lists of
(address, byte) pairs with addresses strictly rising and no pair equal to what an unlisted address
reads as (`blank`), so that equal memories are equal lists. -/

namespace Sys2Proof.Machine

/-- A memory's listed cells. -/
abbrev Memory := List Host.Cell

/-- The byte at an address; an unlisted address reads as `blank`. -/
def Memory.read (blank : Byte) (m : Memory) (a : Nat) : Byte :=
  match m.find? fun c => c.1 == a with
  | some c => c.2
  | none => blank

/-- The `n` bytes from an address. -/
def Memory.readBlock (blank : Byte) (m : Memory) (base n : Nat) : List Byte :=
  (List.range n).map fun i => m.read blank (base + i)

/-- The cells that hold `bytes` from `base` upward, those equal to `blank` left out. -/
def Memory.cells (blank : Byte) : Nat → List Byte → Memory
  | _, [] => []
  | base, b :: bs =>
    if b = blank then Memory.cells blank (base + 1) bs
    else (base, b) :: Memory.cells blank (base + 1) bs

/-- A memory with `bytes` written from `base` upward, in its canonical form. -/
def Memory.writeBlock (blank : Byte) (m : Memory) (base : Nat) (bytes : List Byte) : Memory :=
  m.filter (fun c => decide (c.1 < base)) ++ Memory.cells blank base bytes
    ++ m.filter (fun c => decide (base + bytes.length ≤ c.1))

/-- Whether addresses rise strictly from one cell to the next. -/
def Memory.rising : Memory → Bool
  | [] => true
  | [_] => true
  | c :: d :: rest => decide (c.1 < d.1) && Memory.rising (d :: rest)

/-- The canonical form: addresses strictly rising, and no cell equal to what an unlisted address
reads as. -/
def Memory.wf (blank : Byte) (m : Memory) : Bool :=
  m.rising && m.all fun c => decide (c.2 ≠ blank)

/-- What a device returns for a block when it returns other bytes at the listed offsets (log
entry 5). -/
def overlay (upset : List Host.Cell) (bytes : List Byte) : List Byte :=
  bytes.mapIdx fun i b =>
    match upset.find? fun c => c.1 == i with
    | some c => c.2
    | none => b

end Sys2Proof.Machine
end

