-- ==== Sys2Proof/Machine/Ops.lean ====
section
/-! DEFINITION. The named operations every block shares: access to the parts of the state, the
acceptance of an arrival, events and attention lines, the frames of the probe links, and the
channel's state and permit. -/

namespace Sys2Proof.Machine

/-! Arrivals. -/

/-- Takes an arrival: while RESET_N is low the part takes no frame and nothing happens in it (R184);
otherwise the arrival acts whole. -/
def State.act (s : State) (f : State → State) : Host.Outcome State Fault Refusal :=
  if s.config.phase = .inReset then .next s else .next (f s)

/-! The parts of the state. -/

/-- Channel `ch`. -/
def State.chan (s : State) (ch : Chan) : Channel := s.channels.get ch

/-- Changes channel `ch`. -/
def State.modChan (s : State) (ch : Chan) (f : Channel → Channel) : State :=
  { s with channels := s.channels.set ch (f (s.channels.get ch)) }

/-- The Station Link Controller of `st`. -/
def State.stn (s : State) (st : Stn) : StationLink := s.stations.get st

/-- Changes the Station Link Controller of `st`. -/
def State.modStn (s : State) (st : Stn) (f : StationLink → StationLink) : State :=
  { s with stations := s.stations.set st (f (s.stations.get st)) }

/-- Changes the open session, if one is open. -/
def State.modSession (s : State) (f : Session → Session) : State :=
  { s with session := s.session.map f }

/-- Changes the Traverse Store Controller. -/
def State.modStore (s : State) (f : Store → Store) : State := { s with store := f s.store }

/-- Changes the Calibration Unit. -/
def State.modCal (s : State) (f : Calibration → Calibration) : State := { s with cal := f s.cal }

/-- Changes the Configuration Memory Controller. -/
def State.modConfig (s : State) (f : ConfigMem → ConfigMem) : State :=
  { s with config := f s.config }

/-- The session time, absent with no session (R191). -/
def State.time? (s : State) : Option Nat := s.session.map (·.seconds)

/-- The session time that a rule records (R191); rules record one only while a session is open. -/
def State.time (s : State) : Nat := s.time?.getD 0

/-- Whether the plan of an open session is locked (R12). -/
def State.planLocked (s : State) : Bool :=
  match s.session with
  | none => false
  | some x => x.plan.locked

/-- The second-opinion mode of the plan (R10). -/
def State.mode (s : State) : Mode :=
  match s.session with
  | none => .analyst
  | some x => x.plan.mode

/-- The limits of the plan; with no session, the values its next plan would start from. -/
def State.limits (s : State) : Limits :=
  match s.session with
  | none => s.config.shadow.limits
  | some x => x.plan.limits

/-- Standard `id`, if it is defined (R120). -/
def State.standard? (s : State) (id : Nat) : Option Standard :=
  (s.config.shadow.standards[id]?).join

/-- The live traverse that bears an id (R67). -/
def State.trav? (s : State) (id : Nat) : Option Traverse :=
  s.store.directory.find? fun t => t.id == id

/-- Changes the live traverse that bears an id. -/
def State.modTrav (s : State) (id : Nat) (f : Traverse → Traverse) : State :=
  s.modStore fun x =>
    { x with directory := x.directory.map fun t => if t.id = id then f t else t }

/-- Bracket `n` of the bracket table (R132). -/
def State.bracket? (s : State) (n : Nat) : Option Bracket :=
  s.cal.brackets.find? fun b => b.number == n

/-- Changes bracket `n`. -/
def State.modBracket (s : State) (n : Nat) (f : Bracket → Bracket) : State :=
  s.modCal fun x => { x with brackets := x.brackets.map fun b => if b.number = n then f b else b }

/-- The open bracket of a channel (R132). -/
def State.openBracket (s : State) (ch : Chan) : Option Bracket :=
  s.cal.brackets.find? fun b => decide (b.channel = ch ∧ b.state = .opened)

/-- Log entry `n` (R131). -/
def State.logEntry? (s : State) (n : Nat) : Option LogEntry :=
  s.cal.log.find? fun e => e.number == n

/-- The calibration attempt of a channel (R123). -/
def State.attempt? (s : State) (ch : Chan) : Option Attempt := s.cal.attempts.get ch

/-- Sets or ends the calibration attempt of a channel. -/
def State.setAttempt (s : State) (ch : Chan) (a : Option Attempt) : State :=
  s.modCal fun x => { x with attempts := x.attempts.set ch a }

/-! Events (R178 to R180). -/

/-- Offers an event record to a station's queue (R178); the attention line follows the queue (R180). -/
def StationLink.offer (x : StationLink) (r : EventRecord) : StationLink :=
  if x.events.length < Config.eventPlaces then { x with events := x.events ++ [r], attn := true }
  else { x with eventsLost := true }

/-- The stations an event is routed to (R179): all of them, or those whose role is named. -/
def routes (mode : Mode) (e : Event) (r : Role) : Bool :=
  match e with
  | .tubeAcquired _ _ _ => r == .primary || (r == .secondary && mode == .analyst)
  | .tubeResolution _ _ _ | .calAccepted _ _ _ | .calRejected _ _ _ | .channelChange _ _ _
  | .storeLow _ | .storeOk _ | .traverseReleased _ _ _ | .configSaved _ => r == .lead
  | .tubeFinal _ _ _ _ _ | .tubeRetest _ _ _ | .bracketClosed _ _ _ _
  | .sessionClosed _ _ _ _ _ _ => true

/-- One station's part of the raising of an event (R179): an event raised before loading has ended,
while no station holds a role, only sets EVENTS_LOST. -/
def StationLink.hear (x : StationLink) (ready : Bool) (mode : Mode) (r : EventRecord) : StationLink :=
  if ready then
    match x.role with
    | none => x
    | some role => if routes mode r.event role then x.offer r else x
  else { x with eventsLost := true }

/-- Raises an event: each station hears it on its own account (R179). -/
def State.raise (s : State) (e : Event) : State :=
  let r : EventRecord := ⟨e, s.time?⟩
  let hear := fun x : StationLink => x.hear (decide (s.config.phase = .ready)) s.mode r
  { s with stations := ⟨hear s.stations.s0, hear s.stations.s1, hear s.stations.s2⟩ }

/-! Frames of the probe links (R43). -/

/-- Sends a frame to the probe unit of an up link; on an OFFLINE link it is not sent (R43). -/
def State.sendProbe (s : State) (ch : Chan) (f : ProbeOut) : State :=
  s.modChan ch fun c =>
    if c.state = .offline then c else { c with sent := c.sent ++ [f], quietMs := 0 }

/-! The channel's state and permit (R47 to R49). -/

/-- May-claim and its reason (R48) for a channel state. -/
def permitOf (session : Option Session) (state : ChanState) : Permit :=
  match session with
  | none => ⟨false, .noSession⟩
  | some x =>
    if x.plan.locked then
      match state with
      | .needsCal => ⟨false, .needsCal⟩
      | .due => ⟨false, .calDue⟩
      | .claimed | .recording | .paused | .calibrating | .evaluating => ⟨false, .busy⟩
      | .ready => ⟨true, .none⟩
      | .offline => ⟨false, .none⟩
    else ⟨false, .planUnlocked⟩

/-- The permit a channel has (R48): absent while it is OFFLINE. -/
def State.permitNow (s : State) (ch : Chan) : Option Permit :=
  match (s.chan ch).state with
  | .offline => none
  | st => some (permitOf s.session st)

/-- Recomputes a channel's permit and sends PERMIT when a value changed and the link is up (R48). -/
def State.refreshPermit (s : State) (ch : Chan) : State :=
  let p := s.permitNow ch
  if p = (s.chan ch).permit then s
  else
    let s1 := s.modChan ch fun c => { c with permit := p }
    match p with
    | none => s1
    | some v => s1.sendProbe ch (.permit v)

/-- Sets a channel's state; a change raises CHANNEL_CHANGE to the lead (R47). -/
def State.setChan (s : State) (ch : Chan) (new : ChanState) : State :=
  if (s.chan ch).state = new then s
  else
    let s1 := s.modChan ch fun c => { c with state := new }
    s1.raise (.channelChange ch new (s1.permitNow ch))

/-- Moves a channel to a state, with CHANNEL_CHANGE and PERMIT as the move makes them due. -/
def State.moveChan (s : State) (ch : Chan) (new : ChanState) : State :=
  (s.setChan ch new).refreshPermit ch

/-- The state of an up channel with no work in hand (R26, R49, R58): READY or DUE by its open
bracket's cal_due, NEEDS_CAL where no bracket is open. -/
def State.restState (s : State) (ch : Chan) : ChanState :=
  match s.openBracket ch with
  | none => .needsCal
  | some b => if b.calDue.isSome then .due else .ready

/-- Takes a valid frame on a probe link: on an OFFLINE link it is discarded, otherwise it restarts
the link-silence timer and acts (R42, R44). -/
def State.probeFrame (s : State) (ch : Chan) (f : State → State) :
    Host.Outcome State Fault Refusal :=
  s.act fun s =>
    if (s.chan ch).state = .offline then s
    else f (s.modChan ch fun c => { c with silenceMs := 0 })

/-- Sets cal_due on a channel's open bracket with its first cause; a READY channel enters DUE at
once (R49, R134). -/
def State.setCalDue (s : State) (ch : Chan) (cause : CalDue) : State :=
  match s.openBracket ch with
  | none => s
  | some b =>
    if b.calDue.isSome then s
    else
      let s1 := s.modBracket b.number fun b => { b with calDue := some cause }
      if (s1.chan ch).state = .ready then s1.moveChan ch .due else s1

end Sys2Proof.Machine
end

