-- ==== Sys2Proof/Machine/Pages.lean ====
section
/-! DEFINITION. Stored samples and store pages as bytes (R80, R197). -/

namespace Sys2Proof.Machine

/-- The marks byte (R197). -/
def Marks.byte (m : Marks) : Byte :=
  BitVec.ofNat 8 (flagBits [m.landmark, m.detection, m.lostBefore])

/-- An X and a Y value as four bytes (R197). -/
def xyBytes (v : XY) : List Byte := int16Bytes v.x ++ int16Bytes v.y

/-- The 35 bytes of a reading (R197). -/
def readingBytes (r : Reading) : List Byte :=
  xyBytes r.d1 ++ xyBytes r.a1 ++ xyBytes r.d2 ++ xyBytes r.a2 ++ xyBytes r.d3
    ++ xyBytes r.a3 ++ xyBytes r.d4 ++ xyBytes r.a4 ++ leBytes 3 r.position

/-- The 36 bytes of a stored sample (R197). -/
def StoredSample.bytes (x : StoredSample) : List Byte := readingBytes x.reading ++ [x.marks.byte]

/-- The kind of a target as its code (R200). -/
def Target.kindCode : Target → Nat
  | .tube _ => 0
  | .standard _ => 1

/-- The kind of a traverse as events and reports carry it. -/
def Target.kind : Target → TraverseKind
  | .tube _ => .inspection
  | .standard _ => .calibration

/-- Trailer bytes 2037 and 2038 (R80): the tube position, or the standard id and 0. -/
def Target.trailer : Target → List Byte
  | .tube p => leBytes 1 p.row ++ leBytes 1 p.col
  | .standard id => leBytes 1 id ++ leBytes 1 0

/-- The 30 trailer bytes before the CRC (R80, R197). -/
def trailerBytes (t : Traverse) (seq : Nat) (e : LaneEntry) (b : PageBuffer) (time : Nat) :
    List Byte :=
  leBytes 4 t.id ++ leBytes 2 seq ++ leBytes 1 e.samples
    ++ leBytes 1 (flagBits [e.last, e.aborted, e.lostWithin])
    ++ leBytes 2 b.firstIndex ++ leBytes 2 0
    ++ leBytes 3 ((b.samples.head?.map (·.reading.position)).getD 0)
    ++ leBytes 1 t.channel.val ++ leBytes 4 time ++ leBytes 1 t.target.kindCode ++ t.target.trailer
    ++ leBytes 1 (min 255 e.soFar.landmarks) ++ leBytes 2 (min 65535 e.soFar.lost)
    ++ leBytes 1 (min 255 e.soFar.indications) ++ leBytes 3 0

/-- The 2,016 bytes of the sample slots of a page: unused slots are zero (R65, R197). -/
def slotBytes (samples : List StoredSample) : List Byte :=
  let used := samples.flatMap StoredSample.bytes
  used ++ List.replicate (Config.samplesPerPage * Config.sampleBytes - used.length) 0

/-- The 2,048 bytes of a page with its trailer and CRC-16 (R79, R80, R197). -/
def pageImage (t : Traverse) (seq : Nat) (e : LaneEntry) (b : PageBuffer) (time : Nat) : List Byte :=
  withCrc (slotBytes b.samples ++ trailerBytes t seq e b time)

end Sys2Proof.Machine
end

