-- ==== Sys2Proof/Machine/Store.lean ====
section
/-! DEFINITION. The Traverse Store Controller (chapter 4): the free page pool, reservations, the
write lanes and the store arbiter, settling, release and invalidation. -/

namespace Sys2Proof.Machine

/-! The free page pool (R74). -/

/-- The number of pages in the pool. -/
def poolCount : List PageRun → Nat
  | [] => 0
  | r :: rest => r.count + poolCount rest

/-- Takes the page number at the head of the pool, if there is one. -/
def poolPop : List PageRun → Option (Nat × List PageRun)
  | [] => none
  | r :: rest =>
    match r.count with
    | 0 => poolPop rest
    | 1 => some (r.first, rest)
    | n + 2 => some (r.first, ⟨r.first + 1, n + 1⟩ :: rest)

/-- Appends one page number at the tail; a number that follows the last run extends it, so that a
pool has one form. -/
def poolPush (page : Nat) : List PageRun → List PageRun
  | [] => [⟨page, 1⟩]
  | [r] => if page = r.first + r.count then [⟨r.first, r.count + 1⟩] else [r, ⟨page, 1⟩]
  | r :: q :: rest => r :: poolPush page (q :: rest)

/-- Appends page numbers at the tail, in order (R84). -/
def poolAppend (pool : List PageRun) (pages : List Nat) : List PageRun :=
  pages.foldl (fun p n => poolPush n p) pool

/-- The page numbers of the pool, head first. -/
def poolPages (pool : List PageRun) : List Nat :=
  pool.flatMap fun r => List.range' r.first r.count

/-- The free page count (R74). -/
def State.freePages (s : State) : Nat := poolCount s.store.pool

/-- Live entries (R67). -/
def State.live (s : State) : Nat := s.store.directory.length

/-! The store-low flag (R85). -/

/-- Applies R85 to the free page count less the reserved page count. -/
def State.watchStore (s : State) : State :=
  let v := s.freePages - s.store.reservedPages
  if v < Config.storeLowBound ∧ s.store.low = false then
    (s.modStore fun x => { x with low := true }).raise (.storeLow v)
  else if Config.storeOkBound ≤ v ∧ s.store.low = true then
    (s.modStore fun x => { x with low := false }).raise (.storeOk v)
  else s

/-! Reservations (R23, R75, R76). -/

/-- Steps 11 and 12 of R22, made also by CAL_START (R122): the reason of the first that fails. -/
def State.storeRefusal (s : State) : Option ProbeReason :=
  if s.live + s.store.reservedSlots = Config.directorySlots then some .directoryFull
  else if s.freePages - s.store.reservedPages < Config.reservation then some .storeFull
  else none

/-- Takes a claim's reservation of one slot and 1,171 pages (R23). -/
def State.reserve (s : State) : State :=
  (s.modStore fun x =>
    { x with reservedSlots := x.reservedSlots + 1
             reservedPages := x.reservedPages + Config.reservation }).watchStore

/-- Returns a claim's reservation whole (R26). -/
def State.unreserve (s : State) : State :=
  (s.modStore fun x =>
    { x with reservedSlots := x.reservedSlots - 1
             reservedPages := x.reservedPages - Config.reservation }).watchStore

/-- Returns a traverse's reservation but for `keep` pages (R76). -/
def State.returnReservation (s : State) (id keep : Nat) : State :=
  match s.trav? id with
  | none => s
  | some t =>
    ((s.modTrav id fun t => { t with reservation := min t.reservation keep }).modStore fun x =>
      { x with reservedPages := x.reservedPages - (t.reservation - keep) }).watchStore

/-! Release (R84). -/

/-- Releases a traverse (R84): its pages go to the tail of the pool, its entry goes, and the lead is
told. -/
def State.release (s : State) (t : Traverse) : State :=
  ((s.modStore fun x =>
    { x with pool := poolAppend x.pool t.pages
             directory := x.directory.filter fun u => u.id != t.id }).raise
      (.traverseReleased t.id t.target.kind t.pages.length)).watchStore

/-- Applies R84 to a traverse: a releasable one is released at once, or its release is pending while
it has readers or pages in write. -/
def State.testRelease (s : State) (id : Nat) : State :=
  match s.trav? id with
  | none => s
  | some t =>
    if t.archived && t.settled then
      if t.readers = 0 ∧ t.inWrite = 0 then s.release t
      else s.modTrav id fun t => { t with releasePending := true }
    else s

/-- Sets the settled flag of a live traverse and applies R84 (R83). -/
def State.settle (s : State) (id : Nat) : State :=
  match s.trav? id with
  | none => s
  | some t =>
    if t.settled then s
    else (s.modTrav id fun t => { t with settled := true }).testRelease id

/-- Makes a COMPLETE inspection traverse INVALIDATED, which settles it (R73); any other is left, and
an id that names no live traverse is passed over. -/
def State.invalidate (s : State) (id : Nat) : State :=
  match s.trav? id with
  | none => s
  | some t =>
    if t.state = .complete ∧ t.target.kind = .inspection then
      (s.modTrav id fun t => { t with state := .invalidated }).settle id
    else s

/-! Page assembly buffers and write lanes (R64, R77). -/

/-- A buffer of a channel. -/
def Channel.buf (c : Channel) : BufId → PageBuffer
  | .a => c.bufA
  | .b => c.bufB

/-- Changes a buffer of a channel. -/
def Channel.modBuf (c : Channel) (i : BufId) (f : PageBuffer → PageBuffer) : Channel :=
  match i with
  | .a => { c with bufA := f c.bufA }
  | .b => { c with bufB := f c.bufB }

/-- The other buffer. -/
def BufId.other : BufId → BufId
  | .a => .b
  | .b => .a

/-- A lane entry for a buffer's page (R65, R77). -/
def laneEntryOf (i : BufId) (b : PageBuffer) (last aborted : Bool) : LaneEntry :=
  { buf := i, traverse := b.traverse, samples := b.samples.length, last := last, aborted := aborted
    lostWithin := b.samples.any (·.marks.lostBefore), soFar := b.soFar }

/-! The store arbiter (R78, R79). -/

/-- The channels in the order that begins after the one last granted a write (R78). -/
def chansAfter (last : Chan) : List Chan := [last + 1, last + 2, last + 3, last]

/-- The stations in the order that begins after the one last granted a fetch (R78). -/
def stnsAfter (last : Stn) : List Stn := [last + 1, last + 2, last]

/-- The lane the arbiter chooses (R78). -/
def Store.nextLane (x : Store) : Option Chan :=
  (chansAfter x.lastWrite).find? fun ch => !(x.lanes.get ch).isEmpty

/-- Whether a read port has a fetch request waiting at the arbiter (R173). -/
def StationLink.fetchWaiting (x : StationLink) : Bool :=
  match x.stream with
  | none => false
  | some r => r.fetch == .waiting

/-- The read port the arbiter chooses (R78). -/
def State.nextFetch (s : State) : Option Stn :=
  (stnsAfter s.store.lastFetch).find? fun st => (s.stn st).fetchWaiting

/-- Grants the page write at the head of a lane (R79): a page leaves the pool and joins the
traverse's page list, a page of its reservation is used up, and the page is built. A lane entry of a
traverse that is not live, which no run from reset has, takes no page from the pool. -/
def State.grantWrite (s : State) (ch : Chan) : State :=
  match s.store.lanes.get ch with
  | [] => s
  | e :: rest =>
    match poolPop s.store.pool, s.trav? e.traverse with
    | some (page, pool), some t =>
      let bytes := pageImage t t.pages.length e ((s.chan ch).buf e.buf) s.time
      (s.modTrav e.traverse fun t =>
        { t with pages := t.pages ++ [page], reservation := t.reservation - 1 }).modStore fun x =>
          { x with pool := pool, reservedPages := x.reservedPages - 1
                   lanes := x.lanes.set ch rest, lastWrite := ch
                   port := .write ch e.buf (some e.traverse) page bytes }
    | _, _ => s

/-- Changes the stream of a station, if one runs. -/
def State.modStream (s : State) (st : Stn) (f : Stream → Stream) : State :=
  s.modStn st fun x => { x with stream := x.stream.map f }

/-- Grants a waiting page fetch (R78, R173): its page number is that of the traverse's page list. -/
def State.grantFetch (s : State) (st : Stn) : State :=
  match (s.stn st).stream with
  | none => s
  | some r =>
    let page := ((s.trav? r.traverse).bind fun t => t.pages[r.next]?).getD 0
    (s.modStream st fun r => { r with fetch := .fetching }).modStore fun x =>
      { x with port := .fetch st page r.next true, lastFetch := st }

/-- The arbiter (R78): it grants when the port is free and a request waits, writes first. -/
def State.arbitrate (s : State) : State :=
  match s.store.port with
  | .free =>
    match s.store.nextLane with
    | some ch => s.grantWrite ch
    | none =>
      match s.nextFetch with
      | some st => s.grantFetch st
      | none => s
  | _ => s

/-- Hands a buffer's page over to its channel's lane (R64, R65, R77), and lets the arbiter grant. -/
def State.handOver (s : State) (ch : Chan) (i : BufId) (last aborted : Bool) : State :=
  let b := (s.chan ch).buf i
  let s1 := s.modChan ch fun c => c.modBuf i fun b => { b with state := .inWrite }
  let s2 := s1.modTrav b.traverse fun t => { t with inWrite := t.inWrite + 1 }
  (s2.modStore fun x =>
    { x with lanes := x.lanes.set ch (x.lanes.get ch ++ [laneEntryOf i b last aborted]) }).arbitrate

/-- Gives the last-page flag, and at an abort the aborted flag, to the last page of a traverse in a
lane (R65). -/
def markLast (id : Nat) (aborted : Bool) : List LaneEntry → List LaneEntry
  | [] => []
  | e :: rest =>
    if rest.any fun f => f.traverse == id then e :: markLast id aborted rest
    else if e.traverse = id then { e with last := true, aborted := e.aborted || aborted } :: rest
    else e :: markLast id aborted rest

/-- Whether a buffer holds samples of a traverse that have not been handed over (R65). -/
def PageBuffer.pendingFor (b : PageBuffer) (id : Nat) : Bool :=
  (b.state == .filling || b.state == .held) && b.traverse == id

/-- Hands over the final page of a traverse at the end of its pull (R65), or marks the page handed
over last if its write has not begun. -/
def State.finalPage (s : State) (ch : Chan) (id : Nat) (aborted : Bool) : State :=
  let c := s.chan ch
  if c.bufA.pendingFor id then s.handOver ch .a true aborted
  else if c.bufB.pendingFor id then s.handOver ch .b true aborted
  else s.modStore fun x => { x with lanes := x.lanes.set ch (markLast id aborted (x.lanes.get ch)) }

/-! Aborts (R72). -/

/-- Makes a traverse ABORTED (R72): one page of its reservation is kept for each of its pages not yet
granted, the rest returns, and the abort settles it (R83). A COMPLETE calibration traverse keeps its
end time; a traverse in any other state is left. -/
def State.abortTraverse (s : State) (id : Nat) : State :=
  match s.trav? id with
  | none => s
  | some t =>
    match t.state with
    | .recording | .paused | .finishing =>
      let waiting := ((s.store.lanes.get t.channel).filter fun e => e.traverse == id).length
      ((s.modTrav id fun t => { t with state := .aborted, endTime := some s.time }).returnReservation
        id waiting).settle id
    | .complete =>
      if t.target.kind = .calibration then
        (s.modTrav id fun t => { t with state := .aborted }).settle id
      else s
    | _ => s

/-- Reports an ended abort to the channel of an inspection traverse (R72): TRAVERSE_DONE is sent for
a traverse the channel still has to report, once no page of it is in write. -/
def State.reportAbort (s : State) (id : Nat) : State :=
  match s.trav? id with
  | none => s
  | some t =>
    if t.state = .aborted ∧ t.inWrite = 0 ∧ id ∈ (s.chan t.channel).reports then
      (s.modChan t.channel fun c => { c with reports := c.reports.filter (· != id) }).sendProbe
        t.channel (.traverseDone t.id t.stored t.lost t.flags true)
    else s

/-! Readers (R86). -/

/-- Registers a read port with a traverse (R86). -/
def State.register (s : State) (id : Nat) : State :=
  s.modTrav id fun t => { t with readers := t.readers + 1 }

/-- Deregisters a read port, which may let a pending release complete (R84, R86). -/
def State.deregister (s : State) (id : Nat) : State :=
  (s.modTrav id fun t => { t with readers := t.readers - 1 }).testRelease id

/-- The answer to a fetch request (R87). -/
inductive FetchAnswer | passed | notWritten | pastEnd
  deriving DecidableEq, Repr

/-- The controller's answer to a request for a page of a traverse (R87). -/
def fetchAnswer (t : Traverse) (seq : Nat) : FetchAnswer :=
  if seq < t.written then .passed
  else
    match t.state with
    | .recording | .paused | .finishing => .notWritten
    | .aborted => if t.inWrite = 0 then .pastEnd else .notWritten
    | .complete | .invalidated => .pastEnd

end Sys2Proof.Machine
end

