-- ==== Sys2Proof/Machine/Tubes.lean ====
section
/-! DEFINITION. The Tube Table Unit (chapters 1 and 2): the counters, the changes of a tube's state,
the tests of a claim and the ends of a claim. -/

namespace Sys2Proof.Machine

/-! Table order and the counters (R20; section 3.4 of 00_scope.md). -/

/-- Whether a position comes before another in table order. -/
def Pos.before (p q : Pos) : Bool := decide (p.row < q.row ∨ (p.row = q.row ∧ p.col < q.col))

/-- The position after one in table order; absent after (255, 255) (R41). -/
def Pos.next (p : Pos) : Option Pos :=
  if p.col < 255 then some ⟨p.row, p.col + 1⟩
  else if p.row < 255 then some ⟨p.row + 1, 1⟩
  else none

/-- The counter of a tube state. -/
def TubeCounts.get (c : TubeCounts) : TubeState → Nat
  | .pending => c.pending
  | .claimed => c.claimed
  | .acquired => c.acquired
  | .resolution => c.resolution
  | .final => c.final
  | .plugRecommended => c.plugRecommended
  | .retest => c.retest
  | .restricted => c.restricted
  | .plugged => c.plugged

/-- The counters with that of a tube state replaced. -/
def TubeCounts.set (c : TubeCounts) (t : TubeState) (v : Nat) : TubeCounts :=
  match t with
  | .pending => { c with pending := v }
  | .claimed => { c with claimed := v }
  | .acquired => { c with acquired := v }
  | .resolution => { c with resolution := v }
  | .final => { c with final := v }
  | .plugRecommended => { c with plugRecommended := v }
  | .retest => { c with retest := v }
  | .restricted => { c with restricted := v }
  | .plugged => { c with plugged := v }

/-- The nine counters at 0 (R1). -/
def TubeCounts.zero : TubeCounts := ⟨0, 0, 0, 0, 0, 0, 0, 0, 0⟩

/-- Adds entries of a state (R6). -/
def TubeCounts.add (c : TubeCounts) (t : TubeState) (n : Nat) : TubeCounts := c.set t (c.get t + n)

/-- Takes entries of a state away (R6, R7). -/
def TubeCounts.sub (c : TubeCounts) (t : TubeState) (n : Nat) : TubeCounts := c.set t (c.get t - n)

/-- Moves one entry from a state to another; a move to the same state leaves the counters (R20). -/
def TubeCounts.move (c : TubeCounts) (old new : TubeState) : TubeCounts :=
  if old = new then c else (c.sub old 1).add new 1

/-- Takes the entries of a list away, each from the counter of its state (R6, R7). -/
def TubeCounts.drop (c : TubeCounts) (gone : List TubeEntry) : TubeCounts :=
  gone.foldl (fun c t => c.sub t.state 1) c

/-! Entries. -/

/-- The entries of the open session's table, in table order; none with no session (R21). -/
def State.tubes (s : State) : List TubeEntry :=
  match s.session with
  | none => []
  | some x => x.tubes

/-- The entry of a defined position. -/
def State.tube? (s : State) (p : Pos) : Option TubeEntry := s.tubes.find? fun t => t.pos == p

/-- Changes the entry of a position, its state not moved (R21). -/
def State.modTube (s : State) (p : Pos) (f : TubeEntry → TubeEntry) : State :=
  s.modSession fun x => { x with tubes := x.tubes.map fun t => if t.pos = p then f t else t }

/-- Moves the entry of a position to a state (R20, R21): the fields change as `f` gives, the last
change time is set and the counters follow. -/
def State.moveTube (s : State) (p : Pos) (new : TubeState) (f : TubeEntry → TubeEntry) : State :=
  match s.tube? p with
  | none => s
  | some t =>
    (s.modTube p fun t => { f t with pos := t.pos, state := new, changed := s.time }).modSession
      fun x => { x with counts := x.counts.move t.state new }

/-- Discards the calls of an entry (R18). -/
def TubeEntry.dropCalls (t : TubeEntry) : TubeEntry :=
  { t with primary := none, secondary := none, finalCall := none }

/-- A new entry as DEFINE_TUBES makes it (R6). -/
def newTube (p : Pos) (cls : Nat) (cond : Condition) (time : Nat) : TubeEntry :=
  { pos := p, cls := cls
    state := match cond with
      | .inService => .pending
      | .plugged => .plugged
    preClaim := none, holder := none, attempts := 0, traverse := none, bracket := none
    primary := none, secondary := none, finalCall := none, cause := none, changed := time }

/-- Whether a position lies in the run (row, col1) to (row, col2). -/
def inRun (row col1 col2 : Nat) (p : Pos) : Bool :=
  decide (p.row = row ∧ col1 ≤ p.col ∧ p.col ≤ col2)

/-- The positions of a run in table order. -/
def runOf (row col1 col2 : Nat) : List Pos :=
  (List.range' col1 (col2 + 1 - col1)).map fun c => ⟨row, c⟩

/-- The geometry class `c`, if it is defined (R3). -/
def State.geometry? (s : State) (c : Nat) : Option Geometry :=
  match s.session with
  | none => none
  | some x => (x.plan.classes[c]?).join

/-! Eligibility of a position for a claim (R15). -/

/-- Whether a position lies inside a rectangle or a window (R15). -/
def rectHolds (w : Rect) (p : Pos) : Bool :=
  decide (w.rowLo ≤ p.row ∧ p.row ≤ w.rowHi ∧ w.colLo ≤ p.col ∧ p.col ≤ w.colHi)

/-- Whether the exclusion list excludes a position (R15). -/
def Exclusions.excludes (e : Exclusions) (p : Pos) : Bool :=
  let inside := e.rects.any fun r => rectHolds r p
  if e.complement then !inside else inside

/-- The steps of R22 that look at the tube's state (7 to 10). -/
def tubeRefusal (t : TubeEntry) : Option ProbeReason :=
  match t.state with
  | .plugged => some .plugged
  | .claimed => some .alreadyClaimed
  | .acquired | .resolution | .final | .plugRecommended => some .notClaimable
  | .pending | .retest | .restricted =>
    if t.attempts = Config.maxAttempts then some .attemptsExhausted else none

/-- The check of a CLAIM (R22): the reason of the first step that fails, or none. -/
def State.claimRefusal (s : State) (ch : Chan) (p : Pos) : Option ProbeReason :=
  match s.session with
  | none => some .noSession
  | some x =>
    if !x.plan.locked then some .planNotLocked
    else
      match (s.chan ch).state with
      | .needsCal | .due => some .calRequired
      | .offline | .claimed | .recording | .paused | .calibrating | .evaluating => some .channelBusy
      | .ready =>
        match s.tube? p with
        | none => some .noSuchTube
        | some t =>
          if !rectHolds (x.plan.windows.get ch) p then some .outOfWindow
          else if x.plan.exclusions.excludes p then some .excluded
          else
            match tubeRefusal t with
            | some r => some r
            | none => s.storeRefusal

/-- Grants a claim (R24): the tube becomes CLAIMED, the reservation is taken, the channel enters
CLAIMED with its expiry timer and sends CLAIM_REPLY(granted), then PERMIT. -/
def State.grantClaim (s : State) (ch : Chan) (p : Pos) : State :=
  let s1 := s.moveTube p .claimed fun t => { t with preClaim := some t.state, holder := some ch }
  let s2 := s1.reserve
  let s3 := s2.modChan ch fun c =>
    { c with claim := some p, claimDue := some (s.time + Config.claimSeconds) }
  let s4 := s3.setChan ch .claimed
  (s4.sendProbe ch (.claimReply none p.row p.col)).refreshPermit ch

/-- Ends a claim before its pull (R26, R27): the tube returns to its pre-claim state, or to
RESTRICTED for ABANDON(RESTRICTION); the reservation is returned and the timer stopped. The
channel's new state is the caller's. -/
def State.endClaim (s : State) (ch : Chan) (restriction : Bool) : State :=
  match (s.chan ch).claim with
  | none => s
  | some p =>
    let back := if restriction then TubeState.restricted
      else ((s.tube? p).bind (·.preClaim)).getD .pending
    let s1 := s.moveTube p back fun t =>
      { t with preClaim := none, holder := none, cause := if back = .retest then t.cause else none }
    s1.unreserve.modChan ch fun c => { c with claim := none, claimDue := none }

/-- Raises TUBE_RETEST for a tube as it stands (R30, R32, R35, R36, R160). -/
def State.raiseRetest (s : State) (p : Pos) : State :=
  match s.tube? p with
  | none => s
  | some t => s.raise (.tubeRetest p (t.cause.getD .lead) t.attempts)

/-- The tube side of an aborted pull (R30): RESTRICTED, or RETEST with cause ABORT and TUBE_RETEST. -/
def State.abortTube (s : State) (p : Pos) (restriction : Bool) : State :=
  if restriction then
    s.moveTube p .restricted fun t => { t with preClaim := none, holder := none, cause := none }
  else
    (s.moveTube p .retest fun t =>
      { t with preClaim := none, holder := none, cause := some .abort }).raiseRetest p

/-- Sends a tube to RETEST with its calls discarded (R32, R33, R36): the traverse named, if any, is made
INVALIDATED and then TUBE_RETEST is raised, in the order in which these rules name the two, so that a
TRAVERSE_RELEASED or STORE_OK of the invalidation stands before the TUBE_RETEST (the model's choice
where no rule orders them, log entry 21). -/
def State.retestTube (s : State) (p : Pos) (cause : RetestCause) (reset : Bool)
    (traverse : Option Nat) : State :=
  let s1 := s.moveTube p .retest fun t =>
    { t.dropCalls with cause := some cause, attempts := if reset then 0 else t.attempts }
  let s2 := match traverse with
    | none => s1
    | some id => s1.invalidate id
  s2.raiseRetest p

/-- The plug rule (R158): the greatest depth of an INDICATIONS final call against the plug limit. -/
def greatestDepth (entries : List CallEntry) : Nat := entries.foldl (fun d e => max d e.depth) 0

/-- The state a final call puts a tube in (R158). -/
def decidedState (plug : Nat) (kind : CallKind) (entries : List CallEntry) : TubeState :=
  if kind = .indications ∧ plug ≤ greatestDepth entries then .plugRecommended else .final

/-- Stores a final call (R33, R158, R162): the tube moves by the plug rule, TUBE_FINAL is raised and
its traverse is settled (R34). -/
def State.decideTube (s : State) (p : Pos) (call : Call) : State :=
  let new := decidedState s.limits.plug call.kind call.entries
  let s1 := s.moveTube p new fun t => { t with finalCall := some call }
  let depth := if call.kind = .indications then some (greatestDepth call.entries) else none
  (s1.raise (.tubeFinal p call.traverse new call.kind depth)).settle call.traverse

end Sys2Proof.Machine
end

