-- ==== Sys2Proof/Machine/Calibration.lean ====
section
/-! DEFINITION. The Calibration Unit (chapter 7): standards, the check of CAL_START, the evaluation
of a calibration traverse, the closing comparison, brackets and sweeps. -/

namespace Sys2Proof.Machine

/-! Standards (R120). -/

/-- Whether the values of a list are all different. -/
def allDistinct : List Nat → Bool
  | [] => true
  | d :: rest => !rest.contains d && allDistinct rest

/-- Whether a standard's content meets R120. -/
def Standard.good (x : Standard) : Bool :=
  decide (3 ≤ x.depths.length ∧ x.depths.length ≤ 6)
    && x.depths.all (fun d => decide (1 ≤ d ∧ d ≤ 100))
    && allDistinct x.depths && x.depths.contains 100
    && decide (1 ≤ x.freq ∧ x.freq ≤ 4) && decide (50 ≤ x.threshold ∧ x.threshold ≤ 30000)

/-! Starting a calibration (R122, R123). -/

/-- The number of attempts in hand (R123). -/
def Calibration.inHand (x : Calibration) : Nat :=
  (if x.attempts.c0.isSome then 1 else 0) + (if x.attempts.c1.isSome then 1 else 0)
    + (if x.attempts.c2.isSome then 1 else 0) + (if x.attempts.c3.isSome then 1 else 0)

/-- The check of a CAL_START (R122): the reason of the first step that fails, or none. -/
def State.calRefusal (s : State) (ch : Chan) (std : Nat) : Option ProbeReason :=
  match s.session with
  | none => some .noSession
  | some x =>
    if !x.plan.locked then some .planNotLocked
    else if (s.standard? std).isNone then some .noSuchStandard
    else
      match (s.chan ch).state with
      | .claimed | .recording | .paused | .calibrating | .evaluating => some .channelBusy
      | .offline | .needsCal | .ready | .due =>
        if (s.openBracket ch).any fun b => b.standard != std then some .standardMismatch
        else if s.cal.log.length + s.cal.inHand = Config.logCapacity then some .logFull
        else s.storeRefusal

/-- Whether an evaluation of a channel is in hand in the sense of R45, R46 and R60: an attempt whose
traverse is FINISHING, or in stage EVALUATING (R123). -/
def State.evaluationInHand (s : State) (ch : Chan) : Option Attempt :=
  match s.attempt? ch with
  | none => none
  | some a =>
    match a.stage with
    | .evaluating => some a
    | .pulling =>
      if ((s.trav? a.traverse).map (·.state)) = some .finishing then some a else none

/-! The evaluation (R124 to R126). -/

/-- The figures of an accepted evaluation (R126). -/
structure Figures where
  flaws : List Flaw
  rho : Nat
  aRef : Nat
  deriving DecidableEq, Repr

/-- Puts a flaw into a list in order of depth ascending. -/
def insertFlaw (f : Flaw) : List Flaw → List Flaw
  | [] => [f]
  | g :: rest => if f.depth < g.depth then f :: g :: rest else g :: insertFlaw f rest

/-- The flaws in order of depth ascending (R115). -/
def byDepth (fs : List Flaw) : List Flaw := fs.foldl (fun acc f => insertFlaw f acc) []

/-- Whether rotated phases fall by at least 30 at each step (R125). -/
def falling : List Flaw → Bool
  | [] => true
  | [_] => true
  | f :: g :: rest => decide (g.theta + Config.leastFall ≤ f.theta) && falling (g :: rest)

/-- The flaw of a depth and its indication, with a calibration's own rotation and reference (R126). -/
def flawOf (rho aRef : Nat) (x : Nat × Indication) : Flaw :=
  { depth := x.1, phase := x.2.rawPhase, amp := x.2.rawAmp, theta := rotate rho x.2.rawPhase
    calAmp := calibratedAmplitude aRef x.2.rawAmp }

/-- The verdict of an evaluation (R125): the first reason that applies, or the figures. -/
def evaluate (std : Standard) (t : Traverse) : Except CalReject Figures :=
  let found := (t.indications.map fun l => l.records.map (·.ind)).getD []
  let excess := (t.indications.map (·.excess)).getD 0
  if t.flags.truncated then .error .truncated
  else if 0 < t.lost then .error .lostSamples
  else if found.length ≠ std.depths.length ∨ 0 < excess then .error .count
  else
    let pairs := std.depths.zip found
    match pairs.find? fun x => x.1 == 100 with
    | none => .error .count
    | some ref =>
      let aRef := ref.2.rawAmp
      if aRef < Config.weakReference then .error .weakReference
      else
        let rho := rotationOf ref.2.rawPhase
        let flaws := pairs.map (flawOf rho aRef)
        if flaws.any fun f => decide (1800 ≤ f.theta) then .error .outOfSector
        else if !falling (byDepth flaws) then .error .notMonotone
        else .ok ⟨flaws, rho, aRef⟩

/-- The sizing figures that the traverses of an entry's bracket take from it (R91, R115). -/
def LogEntry.calRef (e : LogEntry) : CalRef :=
  { aRef := e.aRef, rho := e.rho, points := (byDepth e.flaws).map fun f => (f.depth, f.theta) }

/-! The closing comparison (R136). -/

/-- The drifts of one flaw: its circular difference, and its amplitude change over its opening
amplitude as a numerator and a denominator. -/
structure Drift where
  phase : Nat
  num : Nat
  den : Nat
  deriving DecidableEq, Repr

/-- The drifts of a flaw between the opening and the closing calibration (R136). -/
def driftOf (rhoOpen : Nat) (o c : Flaw) : Drift :=
  { phase := circularDiff (rotate rhoOpen c.phase) o.theta
    num := (c.amp - o.amp) + (o.amp - c.amp), den := o.amp }

/-- Whether a flaw passes on phase and on amplitude (R136). -/
def Drift.passes (d : Drift) : Bool :=
  decide (d.phase ≤ Config.phaseDriftLimit ∧ d.num * 10 ≤ d.den)

/-- Whether a flaw's amplitude ratio is greater than another's (R136): a change from 0 ranks above
every ratio with a positive denominator, and 0 over 0 is 0. -/
def Drift.ampAbove (d e : Drift) : Bool :=
  let den := fun x : Drift => if x.num = 0 ∧ x.den = 0 then 1 else x.den
  decide (e.num * den d < d.num * den e)

/-- The worst amplitude drift as written (R136): tenths of a percent, held at 65,535. -/
def Drift.ampFigure (d : Drift) : Nat :=
  if d.den = 0 then (if d.num = 0 then 0 else 65535)
  else min 65535 (roundDiv (d.num * 1000) d.den)

/-- The first element that no other exceeds, with its position counted from 1. -/
def worstOf (above : Drift → Drift → Bool) : Nat → List Drift → Option (Nat × Drift) →
    Option (Nat × Drift)
  | _, [], best => best
  | k, d :: rest, best =>
    let next := match best with
      | none => some (k, d)
      | some b => if above d b.2 then some (k, d) else some b
    worstOf above (k + 1) rest next

/-- The closing comparison of an opening entry's flaws with a closing calibration's (R136). -/
def closingComparison (number rhoOpen : Nat) (opening closing : List Flaw) : ClosedInfo :=
  let drifts := (opening.zip closing).map fun x => driftOf rhoOpen x.1 x.2
  let wp := worstOf (fun d e => decide (e.phase < d.phase)) 1 drifts none
  let wa := worstOf Drift.ampAbove 1 drifts none
  { number := number, good := drifts.all (·.passes)
    phaseDrift := (wp.map (·.2.phase)).getD 0, phaseAt := (wp.map (·.1)).getD 0
    ampDrift := (wa.map (·.2.ampFigure)).getD 0, ampAt := (wa.map (·.1)).getD 0 }

/-! Brackets (R132, R137, R138) and sweeps (R139). -/

/-- A bracket as an accepted calibration opens it (R132). -/
def newBracket (e : LogEntry) (capacity : Nat) : Bracket :=
  { number := e.number, channel := e.channel, openingLog := e.number, standard := e.standard
    openedAt := e.time, capacity := capacity, traverses := [], state := .opened, calDue := none
    cause := none, closedAt := none, sweep := .none, retests := none, toPresent := [] }

/-- Closes a bracket (R137, R138): its sweep state becomes RUNNING over its whole traverse list. -/
def State.closeBracket (s : State) (n : Nat) (good : Bool) (cause : ClosingCause) : State :=
  s.modBracket n fun b =>
    { b with state := if good then .closedGood else .closedFail, cause := some cause
             closedAt := some s.time, sweep := .running, retests := some 0
             toPresent := b.traverses }

/-- The traverses a sweep has still to present: ids of released traverses are passed over (R139). -/
def State.sweepLeft (s : State) (b : Bracket) : List Nat :=
  b.toPresent.dropWhile fun id => (s.trav? id).isNone

/-- Carries a running sweep past the ids that name no live entry; when nothing is left to present
the sweep is DONE and BRACKET_CLOSED is raised (R139). -/
def State.settleSweep (s : State) (n : Nat) : State :=
  match s.bracket? n with
  | none => s
  | some b =>
    if b.sweep = .running then
      match s.sweepLeft b with
      | [] =>
        (s.modBracket n fun b => { b with sweep := .done, toPresent := [] }).raise
          (.bracketClosed b.channel n (b.state == .closedGood) (b.retests.getD 0))
      | left => s.modBracket n fun b => { b with toPresent := left }
    else s

/-- Fails a channel's open bracket without a calibration (R138), with its sweep begun. -/
def State.failBracket (s : State) (ch : Chan) (cause : ClosingCause) : State :=
  match s.openBracket ch with
  | none => s
  | some b => (s.closeBracket b.number false cause).settleSweep b.number

/-! The end of an attempt (R127 to R129). -/

/-- Returns a Screening Unit bound to a traverse to IDLE (R90, R100). -/
def Screening.discard (x : Screening) (id : Nat) : Screening :=
  match x with
  | .idle => .idle
  | .active u => if u.traverse = id then .idle else .active u
  | .holding u => if u.traverse = id then .idle else .holding u

/-- Ends a channel's attempt as ABORTED (R129): the remaining samples are handed over, the traverse
becomes ABORTED, screening is discarded, the link-loss mark is cleared, CALIBRATION is raised and
CAL_RESULT is sent if the link is up. -/
def State.abortCalibration (s : State) (ch : Chan) : State :=
  match s.attempt? ch with
  | none => s
  | some a =>
    let s1 := (s.finalPage ch a.traverse true).abortTraverse a.traverse
    let s2 := s1.modChan ch fun c =>
      { c with screen := c.screen.discard a.traverse, traverse := none, expect := none
               pendingLost := false, linkLossMark := false }
    let s3 := (s2.setAttempt ch none).sendProbe ch (.calResult a.traverse (.rejected .aborted))
    s3.raise (.calRejected ch a.traverse .aborted)

/-- What a channel does when its evaluation ends with a verdict (R58): the link-loss mark is applied
to the bracket now open, CAL_RESULT is sent if the channel is in EVALUATING, and the channel comes to
rest. -/
def State.endEvaluation (s : State) (ch : Chan) (id : Nat) (v : CalVerdict) : State :=
  let s1 := s.setAttempt ch none
  let s2 := if (s1.chan ch).linkLossMark then s1.setCalDue ch .link else s1
  let s3 := s2.modChan ch fun c => { c with linkLossMark := false }
  if (s3.chan ch).state = .evaluating then
    let s4 := (s3.sendProbe ch (.calResult id v)).modChan ch fun c => { c with traverse := none }
    s4.moveChan ch (s4.restState ch)
  else s3

/-- A REJECTED verdict (R127). -/
def State.rejectCalibration (s : State) (ch : Chan) (a : Attempt) (reason : CalReject) : State :=
  let s1 := s.settle a.traverse
  (s1.endEvaluation ch a.traverse (.rejected reason)).raise (.calRejected ch a.traverse reason)

/-- The log entry of an accepted verdict (R131), with the closing comparison where the channel has an
open bracket. -/
def State.newLogEntry (s : State) (ch : Chan) (a : Attempt) (f : Figures) : LogEntry :=
  let n := s.cal.log.length + 1
  let closed := (s.openBracket ch).map fun b =>
    let o := s.logEntry? b.openingLog
    closingComparison b.number ((o.map (·.rho)).getD 0) ((o.map (·.flaws)).getD []) f.flaws
  { number := n, channel := ch, standard := a.standard, traverse := a.traverse, time := s.time
    probe := a.probe, flaws := f.flaws, rho := f.rho, aRef := f.aRef, closed := closed }

/-- An ACCEPTED verdict (R128), its seven steps in order. -/
def State.acceptCalibration (s : State) (ch : Chan) (a : Attempt) (f : Figures) : State :=
  let e := s.newLogEntry ch a f
  let s1 := s.modCal fun x => { x with log := x.log ++ [e] }
  let s2 := match e.closed with
    | none => s1
    | some i => s1.closeBracket i.number i.good (.calibration e.number)
  let s3 := s2.modCal fun x => { x with brackets := x.brackets ++ [newBracket e s.limits.capacity] }
  let s4 := (s3.modTrav a.traverse fun t => { t with bracket := some e.number }).settle a.traverse
  let outcome := match e.closed with
    | none => BracketOutcome.opened
    | some i => .closed i.number i.good
  let s5 := s4.endEvaluation ch a.traverse (.accepted e.number outcome)
  let s6 := s5.raise (.calAccepted ch a.traverse e.number)
  match e.closed with
  | none => s6
  | some i => s6.settleSweep i.number

/-- The session time at which a bracket reaches its age limit (R135). -/
def Bracket.ageDue (b : Bracket) (l : Limits) : Nat := b.openedAt + l.interval * 3600

end Sys2Proof.Machine
end

