-- ==== Sys2Proof/Machine/ConfigMem.lean ====
section
/-! DEFINITION. The Configuration Memory Controller (chapter 10): the configuration image, the
start-up load, and the steps of a running save. -/

namespace Sys2Proof.Machine

/-! The configuration image (R202). -/

/-- The code of a role (R200). -/
def roleCode : Role → Nat
  | .primary => 0
  | .secondary => 1
  | .lead => 2

/-- The role of a code; a code above 2 names none (R202). -/
def roleOf : Nat → Option Role
  | 0 => some .primary
  | 1 => some .secondary
  | 2 => some .lead
  | _ => none

/-- The nine limits in the order of the table of R8. -/
def Limits.toList (l : Limits) : List Nat :=
  [l.plug, l.reporting, l.depthTol, l.locTol, l.detection, l.landmark, l.gap, l.interval, l.capacity]

/-- The 16 bytes of a standard slot (R202). -/
def slotImage : Option Standard → List Byte
  | none => List.replicate 16 0
  | some x =>
    leBytes 1 1 ++ leBytes 1 x.depths.length
      ++ ((List.range 6).flatMap fun i => leBytes 1 ((x.depths[i]?).getD 0))
      ++ leBytes 1 x.freq ++ leBytes 2 x.threshold ++ List.replicate 5 0

/-- The sum of the little-endian words of a run of bytes (R185). -/
def wordSum : List Byte → Nat
  | b0 :: b1 :: rest => b0.toNat + 256 * b1.toNat + wordSum rest
  | _ => 0

/-- The image of a shadow without its checksum word: bytes 0 to 4093 (R202). -/
def imageBody (x : Shadow) : List Byte :=
  leBytes 2 0x5A3C ++ leBytes 1 (roleCode x.roles.s0) ++ leBytes 1 (roleCode x.roles.s1)
    ++ leBytes 1 (roleCode x.roles.s2) ++ leBytes 1 0 ++ x.limits.toList.flatMap (leBytes 2)
    ++ List.replicate 8 0 ++ ((List.range 8).flatMap fun i => slotImage (x.standards[i]?).join)
    ++ List.replicate 3934 0

/-- The checksum word that brings the sum of all words to 0 modulo 65536 (R185). -/
def checksumWord (body : List Byte) : Nat := (65536 - wordSum body % 65536) % 65536

/-- The 4,096-byte image of a shadow (R188, R202). -/
def imageOf (x : Shadow) : List Byte :=
  let body := imageBody x
  body ++ leBytes 2 (checksumWord body)

/-! The start-up load (R185, R186). -/

/-- The two tests of an image (R185): the reason of the first that fails. -/
def imageFault (image : List Byte) : Option DefaultReason :=
  if natAt image 0 2 ≠ 0x5A3C then some .signature
  else if wordSum image % 65536 ≠ 0 then some .checksum
  else none

/-- The roles of an image if they are one of each (R168, R186). -/
def imageRoles (image : List Byte) : Option (Three Role) :=
  match roleOf (natAt image 2 1), roleOf (natAt image 3 1), roleOf (natAt image 4 1) with
  | some a, some b, some c => if a ≠ b ∧ a ≠ c ∧ b ≠ c then some ⟨a, b, c⟩ else none
  | _, _, _ => none

/-- The nine limits of an image as they stand (R186). -/
def imageLimits (image : List Byte) : Limits :=
  let v := fun i => natAt image (6 + 2 * i) 2
  { plug := v 0, reporting := v 1, depthTol := v 2, locTol := v 3, detection := v 4, landmark := v 5
    gap := v 6, interval := v 7, capacity := v 8 }

/-- Whether an image marks a standard slot defined (R202). -/
def slotMarked (image : List Byte) (id : Nat) : Bool := natAt image (32 + 16 * id) 1 == 1

/-- The standard of a slot, present when the slot is marked defined and meets R120 (R186, R202). -/
def slotStandard (image : List Byte) (id : Nat) : Option Standard :=
  let base := 32 + 16 * id
  let n := natAt image (base + 1) 1
  let x : Standard :=
    { depths := (bytesAt image (base + 2) 6).take n |>.map (·.toNat)
      freq := natAt image (base + 8) 1, threshold := natAt image (base + 9) 2 }
  if slotMarked image id && decide (n ≤ 6) && x.good then some x else none

/-- The ids of the slots marked defined that break R120 (R186). -/
def rejectedSlots (image : List Byte) : List Nat :=
  (List.range 8).filter fun id => slotMarked image id && (slotStandard image id).isNone

/-- The shadow and the configuration status that an image gives (R185, R186). -/
def loadImage (image : List Byte) : Shadow × ConfigStatus :=
  match imageFault image with
  | some r => (Shadow.factory, .defaulted r)
  | none =>
    let roles := imageRoles image
    ({ roles := roles.getD Shadow.factory.roles, limits := imageLimits image
       standards := (List.range 8).map (slotStandard image) },
     .loaded roles.isNone (rejectedSlots image))

/-- Ends loading (R184, R186): the shadow is complete, with the standards of the image or none in place of
those that were there (R120, R121), the controller is READY and each station takes its role. -/
def State.endLoading (s : State) (image : List Byte) : State :=
  let l := loadImage image
  { s with
    config := { s.config with phase := .ready, shadow := l.1, status := some l.2 }
    stations := ⟨{ s.stations.s0 with role := some l.1.roles.s0 },
                 { s.stations.s1 with role := some l.1.roles.s1 },
                 { s.stations.s2 with role := some l.1.roles.s2 }⟩ }

/-! The flash (R189). -/

/-- The 4,096 bytes the flash holds at offset 0. -/
def ConfigMem.flashImage (x : ConfigMem) : List Byte :=
  Memory.readBlock Config.flashUnwritten x.flash 0 Config.imageBytes

/-- Writes bytes of the flash. -/
def ConfigMem.writeFlash (x : ConfigMem) (base : Nat) (bytes : List Byte) : ConfigMem :=
  { x with flash := Memory.writeBlock Config.flashUnwritten x.flash base bytes }

/-- The sector erased: 4,096 bytes of FFh (R185, R189). -/
def ConfigMem.eraseFlash (x : ConfigMem) : ConfigMem :=
  x.writeFlash 0 (List.replicate Config.imageBytes 0xFF)

/-- Program `k` done: image bytes 256k to 256k + 255 (R189). -/
def ConfigMem.programFlash (x : ConfigMem) (snapshot : Shadow) (k : Nat) : ConfigMem :=
  x.writeFlash (256 * k) (((imageOf snapshot).drop (256 * k)).take 256)

/-! The save (R188 to R190). -/

/-- Sets how far the running save has come; the wait for not busy starts again. -/
def State.setSave (s : State) (snapshot : Shadow) (step : SaveStep) : State :=
  s.modConfig fun x => { x with save := .running snapshot step 0 }

/-- The end of a save (R189): the result is set, the state returns to IDLE, and CONFIG_SAVED is
raised to the lead. -/
def State.endSave (s : State) (r : SaveResult) : State :=
  (s.modConfig fun x => { x with save := .idle, lastSave := some r }).raise (.configSaved r)

/-- Starts a save (R188): the shadow is its snapshot, nothing is issued yet (log entry 11), and no rise of
CFG_PROTECT has come during it (log entry 47). -/
def State.startSave (s : State) : State :=
  s.modConfig fun x => { x with save := .running x.shadow .start 0, protectRose := false }

/-- Whether the test before a write enable ends the save (R190): the pin is high, or it has risen during
the save, which a fall since then does not undo (log entry 47). -/
def ConfigMem.barred (x : ConfigMem) : Bool := x.cfgProtect || x.protectRose

/-- Issues the write enable that goes before an erase or a program, after the test of CFG_PROTECT
(R190). -/
def State.issueEnable (s : State) (snapshot : Shadow) (t : FlashTarget) : State :=
  if s.config.barred then s.endSave (.failed (.cfgProtect t))
  else s.setSave snapshot (.writeEnable t)

/-- The command that follows a write enable that is shown enabled (R189). -/
def FlashTarget.step : FlashTarget → SaveStep
  | .erase => .erase
  | .program k => .program k

/-- The offset of the first byte in which two runs differ, counted from `k` (R189). -/
def firstDiff : Nat → List Byte → List Byte → Option Nat
  | _, [], _ => none
  | _, _, [] => none
  | k, a :: as, b :: bs => if a = b then firstDiff (k + 1) as bs else some k

/-- The end of a save by its read-back (R189): the first differing byte fails it, and none ends it
OK. -/
def State.verified (s : State) (differs : Option Nat) : State :=
  match differs with
  | some off => s.endSave (.failed (.verify off))
  | none => s.endSave .ok

/-- The end of the flash command in progress (R189). `shown` is what a status read shows: writing
enabled, after a write enable, and not busy, in a wait; a wait whose status read shows the flash busy
goes on with another. `upset` lists the bytes of the read-back that are not those that were programmed;
the flash holds them as they are read, so that a VERIFY failure leaves an image with those bytes in it (log
entries 5 and 33). A save of which nothing is issued yet issues its first write enable. The sector holds
FFh from the end of the erase command on, and the bytes of a program once the flash is not busy after it
(log entry 33). -/
def State.saveCommandEnd (s : State) (shown : Bool) (upset : List Host.Cell) : State :=
  match s.config.save with
  | .idle => s
  | .running snapshot step _ =>
    match step with
    | .start => s.issueEnable snapshot .erase
    | .writeEnable t =>
      if shown then s.setSave snapshot t.step else s.endSave (.failed (.writeEnable t))
    | .erase => (s.modConfig ConfigMem.eraseFlash).setSave snapshot .eraseWait
    | .eraseWait => if shown then s.issueEnable snapshot (.program 0) else s
    | .program k => s.setSave snapshot (.programWait k)
    | .programWait k =>
      if shown then
        let s1 := s.modConfig fun x => x.programFlash snapshot k
        if k < 15 then s1.issueEnable snapshot (.program (k + 1)) else s1.setSave snapshot .readBack
      else s
    | .readBack =>
      let image := overlay upset s.config.flashImage
      (s.modConfig fun x => x.writeFlash 0 image).verified (firstDiff 0 image (imageOf snapshot))

/-- The flash is still busy 5 s after the end of the erase (R189): the save fails, and the sector is
erased, so that the image fails test 1 of R185. -/
def State.eraseTimedOut (s : State) : State :=
  match s.config.save with
  | .running _ .eraseWait _ => s.endSave (.failed .eraseTimeout)
  | _ => s

/-- The flash is still busy 5 s after the end of program `k` (R189): the save fails, and the bytes of
that program are not in the flash (log entry 33). -/
def State.programTimedOut (s : State) : State :=
  match s.config.save with
  | .running _ (.programWait k) _ => s.endSave (.failed (.programTimeout k))
  | _ => s

end Sys2Proof.Machine
end

