-- ==== Sys2Proof/Machine/Agreement.lean ====
section
/-! DEFINITION. The Agreement Unit (chapter 8): malformed calls, the test that starts a comparison,
the comparison itself and its outcomes. -/

namespace Sys2Proof.Machine

/-! Submitted calls (R148). -/

/-- Whether an entry of a submitted call is well formed (R148). -/
def goodEntry (e : CallEntry) : Bool :=
  decide (1 ≤ e.classCode ∧ e.classCode ≤ 15 ∧ e.depth ≤ 100 ∧ e.offset ≤ Config.maxOffset)
    && match e.landmark with
      | none => true
      | some l => decide (1 ≤ l ∧ l ≤ Config.maxLandmarks)

/-- Whether a submitted call is well formed (R148). -/
def goodCall (c : SubmittedCall) : Bool :=
  match c.kind with
  | .notUsable => false
  | .indications =>
    decide (1 ≤ c.entries.length ∧ c.entries.length ≤ Config.maxCallEntries)
      && c.entries.all goodEntry
  | .ndd | .retestRequired => c.entries.isEmpty

/-- A submitted call as the part stores it (R149, R162). -/
def acceptCall (c : SubmittedCall) (source : CallSource) (time traverse : Nat) : Call :=
  { kind := c.kind, entries := c.entries, source := source, time := time, traverse := traverse }

/-! When a comparison runs (R146, R151). -/

/-- The second call of a tube (R146): the secondary call, or the automatic call of its current
traverse. -/
def State.secondCall (s : State) (t : TubeEntry) : Option Call :=
  match s.mode with
  | .analyst => t.secondary
  | .automatic => (t.traverse.bind s.trav?).bind (·.autoCall)

/-- The state of the bracket a tube's bracket number names. -/
def State.bracketState? (s : State) (t : TubeEntry) : Option BracketState :=
  (t.bracket.bind s.bracket?).map (·.state)

/-- The comparison that the test of R151 lets start on a tube: the tube is ACQUIRED, both calls are
present on its current traverse, and its bracket is CLOSED_GOOD. -/
def State.comparable (s : State) (t : TubeEntry) : Option Comparison :=
  match t.traverse, t.primary, s.secondCall t with
  | some id, some p, some q =>
    if t.state = .acquired ∧ p.traverse = id ∧ q.traverse = id
        ∧ s.bracketState? t = some .closedGood then
      some { pos := t.pos, traverse := id, primary := p, second := q, limits := s.limits }
    else none
  | _, _, _ => none

/-- The comparison of a tube in hand (R151). -/
def State.comparison? (s : State) (p : Pos) : Option Comparison :=
  s.comparisons.find? fun c => c.pos == p

/-- Abandons the comparison of a tube in hand (R152). -/
def State.dropComparison (s : State) (p : Pos) : State :=
  { s with comparisons := s.comparisons.filter fun c => c.pos != p }

/-- Begins a comparison (R152). -/
def State.beginComparison (s : State) (c : Comparison) : State :=
  { s with comparisons := s.comparisons ++ [c] }

/-- The test made by a hand-over or by the notice that a tube is ACQUIRED (R151): it begins a
comparison unless one of the tube is in hand. -/
def State.testComparison (s : State) (p : Pos) : State :=
  match s.tube? p with
  | none => s
  | some t =>
    match s.comparison? p, s.comparable t with
    | none, some c => s.beginComparison c
    | _, _ => s

/-! The comparison (R153 to R156). -/

/-- Whether an entry stands before another in pull order (R154). -/
def entryBefore (a b : CallEntry) : Bool :=
  match a.landmark, b.landmark with
  | none, some _ => true
  | some _, none => false
  | none, none => decide (a.offset < b.offset)
  | some l, some m => decide (l < m ∨ (l = m ∧ a.offset < b.offset))

/-- Puts an entry behind all that do not come after it. -/
def insertEntry (e : CallEntry) : List CallEntry → List CallEntry
  | [] => [e]
  | f :: rest => if entryBefore e f then e :: f :: rest else f :: insertEntry e rest

/-- The reportable entries of a call in pull order (R154). -/
def reportable (threshold : Nat) (entries : List CallEntry) : List CallEntry :=
  (entries.filter fun e => decide (threshold ≤ e.depth)).foldl (fun acc e => insertEntry e acc) []

/-- The difference of two offsets. -/
def offsetDiff (a b : CallEntry) : Nat := (a.offset - b.offset) + (b.offset - a.offset)

/-- Whether an entry of the second list is a candidate for a primary entry (R155). -/
def candidate (tol : Nat) (p q : CallEntry) : Bool :=
  decide (p.landmark = q.landmark ∧ offsetDiff p q ≤ tol)

/-- The candidate chosen for a primary entry, by its place in the second list (R155): the smallest
difference, the earliest on a tie. `k` is the place of the list's head. -/
def chooseFrom (tol : Nat) (p : CallEntry) : Nat → List CallEntry → Option (Nat × CallEntry) →
    Option (Nat × CallEntry)
  | _, [], best => best
  | k, q :: rest, best =>
    let next :=
      if candidate tol p q then
        match best with
        | none => some (k, q)
        | some b => if offsetDiff p q < offsetDiff p b.2 then some (k, q) else some b
      else best
    chooseFrom tol p (k + 1) rest next

/-- The result of the matching: the pairs in primary pull order, the primary entries left unmatched
and the second-list entries left unmatched. -/
structure Matching where
  pairs : List (CallEntry × CallEntry)
  lonePrimary : List CallEntry
  loneSecond : List CallEntry
  deriving DecidableEq, Repr

/-- The greedy matching in pull order (R155). -/
def matchEntries (tol : Nat) : List CallEntry → List CallEntry → Matching
  | [], second => ⟨[], [], second⟩
  | p :: rest, second =>
    match chooseFrom tol p 0 second none with
    | none =>
      let m := matchEntries tol rest second
      { m with lonePrimary := p :: m.lonePrimary }
    | some (k, q) =>
      let m := matchEntries tol rest (second.eraseIdx k)
      { m with pairs := (p, q) :: m.pairs }

/-- Whether a matched pair differs in depth by more than the tolerance (R156). -/
def tooDeep (tol : Nat) (x : CallEntry × CallEntry) : Bool :=
  decide (tol < (x.1.depth - x.2.depth) + (x.2.depth - x.1.depth))

/-- The entry of the final call that a matched pair gives (R157). -/
def agreedEntry (x : CallEntry × CallEntry) : CallEntry :=
  { x.1 with depth := max x.1.depth x.2.depth }

/-- Whether a call counts as RETEST_REQUIRED in a comparison (R153). -/
def asksRetest (c : Call) : Bool := c.kind == .retestRequired || c.kind == .notUsable

/-- The decision over the matched lists (R156, R157). -/
def decideMatching (depthTol : Nat) (m : Matching) : CompareOutcome :=
  match m.lonePrimary, m.loneSecond, m.pairs.find? (tooDeep depthTol) with
  | e :: _, _, _ => .disagreement (.unmatchedPrimary e)
  | [], e :: _, _ => .disagreement (.unmatchedSecond e)
  | [], [], some x => .disagreement (.depth x.1 x.1.depth x.2.depth)
  | [], [], none =>
    if m.pairs = [] then .agreement .ndd [] else .agreement .indications (m.pairs.map agreedEntry)

/-- The entries that a call brings to the matching (R154): an NDD call brings none. -/
def findings (threshold : Nat) (c : Call) : List CallEntry :=
  if c.kind = .indications then reportable threshold c.entries else []

/-- The outcome of a comparison (R153 to R157), worked on its snapshot. ONE_RETEST carries the source of
the call that counts as RETEST_REQUIRED: the role of that call, and AUTOMATIC for a NOT_USABLE automatic
call, which no role made (the model's choice, log entry 41). -/
def Comparison.outcome (c : Comparison) : CompareOutcome :=
  if asksRetest c.primary && asksRetest c.second then .bothRetest
  else if asksRetest c.primary then .disagreement (.oneRetest c.primary.source)
  else if asksRetest c.second then .disagreement (.oneRetest c.second.source)
  else
    decideMatching c.limits.depthTol
      (matchEntries c.limits.locTol (findings c.limits.reporting c.primary)
        (findings c.limits.reporting c.second))

/-- Applies the outcome of a comparison to the tube entry (R33, R157 to R160), if the tube is still
ACQUIRED on the traverse compared. On BOTH_RETEST the invalidation stands before TUBE_RETEST (log entry
21). -/
def State.applyOutcome (s : State) (c : Comparison) : State :=
  match s.tube? c.pos with
  | none => s
  | some t =>
    if t.state = .acquired ∧ t.traverse = some c.traverse then
      match c.outcome with
      | .agreement kind entries =>
        s.decideTube c.pos
          { kind := kind, entries := entries, source := .agreement, time := s.time
            traverse := c.traverse }
      | .disagreement d =>
        (s.moveTube c.pos .resolution id).raise (.tubeResolution c.pos c.traverse d)
      | .bothRetest => s.retestTube c.pos .bothRetest false (some c.traverse)
    else s

end Sys2Proof.Machine
end

