-- ==== Sys2Proof/Machine/Pulls.lean ====
section
/-! DEFINITION. The work of a probe channel (chapter 3): identity, the beginning, recording, end and
abort of a pull, completion, link loss and probe failure. -/

namespace Sys2Proof.Machine

/-! Beginning a pull (R29, R51, R56, R69, R91). -/

/-- A directory entry as it is created (R68, R69). -/
def newTraverse (id : Nat) (target : Target) (ch : Chan) (bracket : Option Nat) (time : Nat)
    (identity : Identity) : Traverse :=
  { id := id, target := target, channel := ch, bracket := bracket, state := .recording
    archived := false, settled := false, start := time, endTime := none, stored := 0, lost := 0
    flags := ⟨false, false, false, false⟩, identity := identity, pages := [], written := 0
    inWrite := 0, reservation := Config.reservation, landmarks := none, indications := none
    autoCall := none, readers := 0, releasePending := false, opened := 0, closed := 0 }

/-- The identity a traverse copies from its channel (R68). -/
def Channel.identityOr (c : Channel) : Identity := c.identity.getD ⟨0, ⟨0, 0, 0, 0, 0⟩⟩

/-- The next traverse id of the session (R67). -/
def State.nextTraverse (s : State) : Nat :=
  match s.session with
  | none => 0
  | some x => x.nextTraverse

/-- Creates a traverse (R69): it joins the directory and takes the next id. -/
def State.createTraverse (s : State) (t : Traverse) : State :=
  (s.modStore fun x => { x with directory := x.directory ++ [t] }).modSession fun x =>
    { x with nextTraverse := x.nextTraverse + 1 }

/-- Sets up a channel's sample state and its Screening Unit for a new traverse (R51, R63, R90). -/
def State.setUpPull (s : State) (ch : Chan) (id : Nat) (p : ScreenParams) : State :=
  s.modChan ch fun c =>
    { c with traverse := some id, expect := none, pendingLost := false
             screen := .active (ScreenState.start id p) }

/-- The screening parameters of an inspection traverse (R91, R93): those of the opening entry of its
bracket, the plan and the tube's class. -/
def State.inspectionParams (s : State) (b : Option Bracket) (p : Pos) : ScreenParams :=
  let e := b.bind fun b => s.logEntry? b.openingLog
  let std := e.bind fun e => s.standard? e.standard
  let l := s.limits
  { freq := (std.map (·.freq)).getD 1
    tRaw := rawThreshold l.detection ((e.map (·.aRef)).getD 0)
    landmark := some l.landmark, gap := l.gap, cal := e.map (·.calRef)
    expected := ((s.tube? p).bind fun t => s.geometry? t.cls).map (·.count)
    reporting := some l.reporting }

/-- The screening parameters of a calibration traverse (R91, R93): landmark detection is off. -/
def State.calibrationParams (s : State) (std : Standard) : ScreenParams :=
  { freq := std.freq, tRaw := std.threshold, landmark := none, gap := s.limits.gap, cal := none
    expected := none, reporting := none }

/-- Appends a traverse to a bracket's list; a list that reaches its capacity sets cal_due with cause
FULL (R133). -/
def State.joinBracket (s : State) (ch : Chan) (id : Nat) : State :=
  match s.openBracket ch with
  | none => s
  | some b =>
    let s1 := s.modBracket b.number fun b => { b with traverses := b.traverses ++ [id] }
    if b.traverses.length + 1 = b.capacity then s1.setCalDue ch .full else s1

/-- Begins the pull of a held claim (R29, R51). -/
def State.beginPull (s : State) (ch : Chan) (p : Pos) : State :=
  let id := s.nextTraverse
  let b := s.openBracket ch
  let n := b.map (·.number)
  let params := s.inspectionParams b p
  let t := newTraverse id (.tube p) ch n s.time (s.chan ch).identityOr
  let s1 := (s.createTraverse t).modStore fun x => { x with reservedSlots := x.reservedSlots - 1 }
  let s2 := s1.modTube p fun e =>
    { e with attempts := e.attempts + 1, traverse := some id, bracket := n }
  let s3 := (s2.setUpPull ch id params).modChan ch fun c => { c with claimDue := none }
  let s4 := (s3.setChan ch .recording).sendProbe ch (.pullReply false none id)
  (s4.joinBracket ch id).refreshPermit ch

/-- Begins a calibration pull (R56, R69, R123). -/
def State.beginCalibration (s : State) (ch : Chan) (id : Nat) (std : Standard) : State :=
  let n := s.nextTraverse
  let who := (s.chan ch).identityOr
  let t := newTraverse n (.standard id) ch none s.time who
  let s1 := (s.createTraverse t).modStore fun x =>
    { x with reservedPages := x.reservedPages + Config.reservation }
  let s2 := s1.watchStore.setAttempt ch (some ⟨n, id, who.probe, .pulling⟩)
  let s3 := (s2.setUpPull ch n (s.calibrationParams std)).setChan ch .calibrating
  (s3.sendProbe ch (.pullReply true none n)).refreshPermit ch

/-! Samples (R62 to R64). -/

/-- The state of the traverse in hand on a channel. -/
def State.inHand? (s : State) (ch : Chan) : Option Traverse :=
  (s.chan ch).traverse.bind s.trav?

/-- What the sequence check makes of a sample (R63). -/
inductive SeqCheck
  | inOrder
  | gap (missed : Nat)
  | behind
  deriving DecidableEq, Repr

/-- The sequence check (R63). -/
def seqCheck (expect : Option Nat) (seq : Nat) : SeqCheck :=
  match expect with
  | none => .inOrder
  | some e =>
    let d := (seq + 256 - e) % 256
    if d = 0 then .inOrder else if d ≤ 128 then .gap d else .behind

/-- The buffer a sample finds room in (R64): the filling buffer while it has fewer than 56 samples,
otherwise, where none is filling, a free one, the one that the filling role passes to first. -/
def Channel.room (c : Channel) : Option BufId :=
  if c.bufA.state = .filling then
    if c.bufA.samples.length < Config.samplesPerPage then some .a else none
  else if c.bufB.state = .filling then
    if c.bufB.samples.length < Config.samplesPerPage then some .b else none
  else if (c.buf c.nextBuf).state = .free then some c.nextBuf
  else if (c.buf c.nextBuf.other).state = .free then some c.nextBuf.other
  else none

/-- Counts lost samples on a channel and its traverse (R63, R64). -/
def State.countLost (s : State) (ch : Chan) (id n : Nat) : State :=
  (s.modTrav id fun t =>
    { t with lost := min Config.maxLost (t.lost + n)
             flags := { t.flags with lostSamples := true } }).modChan ch fun c =>
      { c with pendingLost := true }

/-- The state of an ACTIVE Screening Unit bound to a traverse. -/
def Screening.activeOn (x : Screening) (id : Nat) : Option ScreenState :=
  match x with
  | .active u => if u.traverse = id then some u else none
  | _ => none

/-- A buffer that takes a stored sample (R64). -/
def PageBuffer.put (b : PageBuffer) (id index : Nat) (x : StoredSample) (soFar : SoFar) :
    PageBuffer :=
  if b.state = .filling then { b with samples := b.samples ++ [x], soFar := soFar }
  else { state := .filling, traverse := id, firstIndex := index, samples := [x], soFar := soFar }

/-- Deals with a buffer that a sample was stored in (R64): a full one is handed over if the other is
free, and held while the other is in write; the filling role passes to the other buffer. -/
def State.passFull (s : State) (ch : Chan) (i : BufId) : State :=
  if ((s.chan ch).buf i).samples.length < Config.samplesPerPage then s
  else
    let s1 := s.modChan ch fun c => { c with nextBuf := i.other }
    if ((s1.chan ch).buf i.other).state = .free then s1.handOver ch i false false
    else s1.modChan ch fun c => c.modBuf i fun b => { b with state := .held }

/-- Steps 4 and 5 of R62: the sample is screened and stored in a buffer with its marks; the stored
count rises, and at 65,536 the traverse sets TRUNCATED. -/
def State.storeSample (s : State) (ch : Chan) (t : Traverse) (i : BufId) (r : Reading) : State :=
  let c := s.chan ch
  match c.screen.activeOn t.id with
  | none => s
  | some u =>
    let u1 := u.screen r
    let marks : Marks := ⟨u.params.landmarkMark r, u.params.detectionMark r, c.pendingLost⟩
    let soFar : SoFar := ⟨u1.opened, t.lost, u1.closed⟩
    let s1 := s.modChan ch fun c =>
      { c.modBuf i (fun b => b.put t.id t.stored ⟨r, marks⟩ soFar) with
        pendingLost := false, screen := .active u1 }
    let s2 := s1.modTrav t.id fun t =>
      { t with stored := t.stored + 1, opened := u1.opened, closed := u1.closed
               flags := { t.flags with
                 truncated := t.flags.truncated || decide (Config.maxSamples ≤ t.stored + 1) } }
    s2.passFull ch i

/-- A sample that has passed the sequence check (R62 to R64). -/
def State.takeSample (s : State) (ch : Chan) (id seq missed : Nat) (r : Reading) : State :=
  let s1 := if missed = 0 then s else s.countLost ch id missed
  let s2 := s1.modChan ch fun c => { c with expect := some ((seq + 1) % 256) }
  match (s2.chan ch).room, s2.trav? id with
  | some i, some t => s2.storeSample ch t i r
  | _, _ => s2.countLost ch id 1

/-- A sample offered to a traverse (R62): truncation, sequence, room, screening, storage. -/
def State.offerSample (s : State) (ch : Chan) (t : Traverse) (seq : Nat) (r : Reading) : State :=
  if t.flags.truncated then s
  else
    match seqCheck (s.chan ch).expect seq with
    | .behind => s
    | .inOrder => s.takeSample ch t.id seq 0 r
    | .gap n => s.takeSample ch t.id seq n r

/-! Completion (R71, R54, R31, R124). -/

/-- A Screening Unit's state, ACTIVE or HOLDING, for the finalisation of a traverse (R90). -/
def Screening.boundTo (x : Screening) (id : Nat) : Option ScreenState :=
  match x with
  | .idle => none
  | .active u => if u.traverse = id then some u else none
  | .holding u => if u.traverse = id then some u else none

/-- Writes finalisation's findings into a directory entry (R101 to R106) and makes it COMPLETE with
its end time (R71). -/
def Traverse.complete (t : Traverse) (f : Findings) (reporting : Option Nat) (time : Nat) : Traverse :=
  let flags : TraverseFlags :=
    { t.flags with landmarkMismatch := f.mismatch, indicationExcess := f.excess }
  { t with state := .complete, endTime := some time, flags := flags
           landmarks := some f.landmarks, indications := some f.indications
           opened := f.opened, closed := f.closed
           autoCall := match t.target with
             | .tube _ =>
               some (automaticCall (reporting.getD 0) flags f.indications.records time t.id)
             | .standard _ => none }

/-- The completion of an inspection traverse at its tube (R31). -/
def State.acquireTube (s : State) (p : Pos) (id : Nat) (ch : Chan) : State :=
  let s1 := s.moveTube p .acquired fun t =>
    { t.dropCalls with preClaim := none, holder := none, cause := none }
  (s1.raise (.tubeAcquired p id ch)).testComparison p

/-- Completes a FINISHING traverse (R71): it is finalised, its reservation returns, and the tube or
the Calibration Unit and the channel are told. -/
def State.completeTraverse (s : State) (t : Traverse) : State :=
  let ch := t.channel
  match (s.chan ch).screen.boundTo t.id with
  | none => s
  | some u =>
    let f := u.finalise
    let s1 := s.modTrav t.id fun t => t.complete f u.params.reporting s.time
    let s2 := (s1.modChan ch fun c => { c with screen := .idle }).returnReservation t.id 0
    match t.target with
    | .tube p =>
      let s3 := (s2.acquireTube p t.id ch).modChan ch fun c =>
        { c with claim := none, traverse := none, expect := none, pendingLost := false }
      let s4 := s3.setChan ch (s3.restState ch)
      let flags := ((s4.trav? t.id).map (·.flags)).getD t.flags
      (s4.sendProbe ch (.traverseDone t.id t.stored t.lost flags false)).refreshPermit ch
    | .standard _ =>
      s2.setAttempt ch ((s2.attempt? ch).map fun a => { a with stage := .evaluating })

/-- Whether a FINISHING traverse meets the condition of R71: no page of it in write, and no sample of
it left in a page assembly buffer. -/
def State.readyToComplete (s : State) (t : Traverse) : Bool :=
  let c := s.chan t.channel
  t.state == .finishing && t.inWrite == 0 && !c.bufA.pendingFor t.id && !c.bufB.pendingFor t.id

/-- Completes a traverse if it meets the condition of R71. -/
def State.tryComplete (s : State) (id : Nat) : State :=
  match s.trav? id with
  | none => s
  | some t => if s.readyToComplete t then s.completeTraverse t else s

/-- The end of a pull's recording (R54, R57): the traverse becomes FINISHING, the Screening Unit
HOLDING, the final page is handed over, and the traverse completes at once where nothing is
outstanding. -/
def State.finishPull (s : State) (ch : Chan) (id : Nat) (new : ChanState) : State :=
  let s1 := s.modTrav id fun t => { t with state := .finishing }
  let s2 := s1.modChan ch fun c =>
    { c with pauseDue := none
             screen := match c.screen with
               | .active u => .holding u
               | x => x }
  ((s2.moveChan ch new).finalPage ch id false).tryComplete id

/-! Aborts of an inspection pull (R30, R55, R72). -/

/-- Aborts the inspection pull in hand on a channel: final page, traverse ABORTED, tube to RETEST or
RESTRICTED, screening discarded, timers stopped. `report` says whether TRAVERSE_DONE will follow. The
channel's new state is the caller's. The traverse becomes ABORTED before the tube side is dealt with, so
that a STORE_OK of the returned reservation stands before TUBE_RETEST, though R30 names the return last
(the model's choice, log entry 21). -/
def State.abortPull (s : State) (ch : Chan) (restriction report : Bool) : State :=
  match (s.chan ch).traverse, (s.chan ch).claim with
  | some id, some p =>
    let s1 := (s.finalPage ch id true).abortTraverse id
    let s2 := s1.modChan ch fun c =>
      { c with claim := none, claimDue := none, pauseDue := none, traverse := none, expect := none
               pendingLost := false, screen := c.screen.discard id
               reports := if report then c.reports ++ [id] else c.reports }
    s2.abortTube p restriction
  | _, _ => s

/-- Reports the aborts of a channel that have ended (R72). -/
def State.reportAborts (s : State) (ch : Chan) : State :=
  (s.chan ch).reports.foldl (fun s id => s.reportAbort id) s

/-- Aborts the inspection pull in hand on an up channel, which comes to rest (R53, R55). -/
def State.abortAndRest (s : State) (ch : Chan) (restriction : Bool) : State :=
  let s1 := s.abortPull ch restriction true
  (s1.moveChan ch (s1.restState ch)).reportAborts ch

/-! Link loss and link up (R45, R46, R59, R61). -/

/-- The work in hand at a link loss (R59), the channel already OFFLINE. -/
def State.loseWork (s : State) (ch : Chan) (was : ChanState) : State :=
  match was with
  | .claimed => s.endClaim ch false
  | .recording | .paused => s.abortPull ch false false
  | .calibrating => s.abortCalibration ch
  | .evaluating => s.modChan ch fun c => { c with linkLossMark := true, traverse := none }
  | .offline | .needsCal | .ready | .due => s

/-- The loss of a probe link (R59). CHANNEL_CHANGE stands before the events of the work in hand, in the
order of the rule's sentences (the model's choice, log entry 21). -/
def State.loseLink (s : State) (ch : Chan) : State :=
  let was := (s.chan ch).state
  let s1 := s.modChan ch fun c =>
    { c with state := .offline, silenceMs := 0, quietMs := 0, identity := none, permit := none
             claimDue := none, pauseDue := none }
  ((s1.raise (.channelChange ch .offline none)).loseWork ch was).setCalDue ch .link

/-- The first state of a channel whose link comes up (R45). -/
def State.linkUpState (s : State) (ch : Chan) : ChanState :=
  if (s.evaluationInHand ch).isSome then .evaluating
  else if (s.openBracket ch).isSome then .due
  else .needsCal

/-- The probe identity that a bracket is bound to: that of its opening calibration (R46). -/
def State.bracketProbe (s : State) (b : Bracket) : Option ProbeId :=
  (s.logEntry? b.openingLog).map (·.probe)

/-- Whether an identity differs from that of the evaluation in hand (R46). -/
def State.evaluationChanged (s : State) (ch : Chan) (id : ProbeId) : Bool :=
  (s.evaluationInHand ch).any fun a => a.probe != id

/-- Whether an identity differs from that of the open bracket (R46). -/
def State.bracketChanged (s : State) (ch : Chan) (id : ProbeId) : Bool :=
  (s.openBracket ch).any fun b => (s.bracketProbe b).any fun q => q != id

/-- The identity check of a HELLO (R46): a changed identity abandons an evaluation in hand and fails
the open bracket. -/
def State.checkIdentity (s : State) (ch : Chan) (id : ProbeId) : State :=
  let failing := s.bracketChanged ch id
  let s1 :=
    if (s.evaluationChanged ch id || failing) && (s.evaluationInHand ch).isSome then
      s.abortCalibration ch
    else s
  if failing then s1.failBracket ch .probeChanged else s1

/-- A HELLO taken on an OFFLINE link (R45, R46): the identity is recorded, the channel takes its
state, the identity is checked, CHANNEL_CHANGE is raised and PERMIT is sent whatever its values. -/
def State.linkUp (s : State) (ch : Chan) (id : Identity) : State :=
  let changed := s.evaluationChanged ch id.probe || s.bracketChanged ch id.probe
  let new := if changed then .needsCal else s.linkUpState ch
  let s1 := s.modChan ch fun c =>
    { c with state := new, identity := some id, silenceMs := 0, quietMs := 0
             traverse := if new = .evaluating then (s.evaluationInHand ch).map (·.traverse) else none }
  let s2 := s1.checkIdentity ch id.probe
  let p := permitOf s2.session new
  let s3 := s2.raise (.channelChange ch new (some p))
  (s3.modChan ch fun c => { c with permit := some p }).sendProbe ch (.permit p)

/-! Probe failure (R60). -/

/-- The work in hand at a probe failure (R60). -/
def State.failWork (s : State) (ch : Chan) : State :=
  match (s.chan ch).state with
  | .claimed => s.endClaim ch false
  | .recording | .paused => s.abortPull ch false true
  | .calibrating => s.abortCalibration ch
  | .evaluating | .offline =>
    if (s.evaluationInHand ch).isSome then s.abortCalibration ch else s
  | .needsCal | .ready | .due => s

/-- PROBE_FAILED or DECLARE_PROBE_FAILED on a channel (R60): the work in hand ends, the open bracket
fails, and an up channel enters NEEDS_CAL. At a pull whose traverse has no page in write, PERMIT is sent
before TRAVERSE_DONE(…, ABORTED), in the order of R55, which R60's table names, though R60 deals with the
work in hand first and sends PERMIT last (the model's choice, log entry 21). -/
def State.failProbe (s : State) (ch : Chan) : State :=
  let s1 := (s.failWork ch).failBracket ch .probeFailed
  if (s1.chan ch).state = .offline then s1
  else (s1.moveChan ch .needsCal).reportAborts ch

end Sys2Proof.Machine
end

