-- ==== Sys2Proof/Machine/Stations.lean ====
section
/-! DEFINITION. The Station Link Controllers (chapter 9): the link, the request queue and the choice
of the next frame, the answering of requests, page streams, and the loss of a link. -/

namespace Sys2Proof.Machine

/-! The link (R166). -/

/-- A valid frame taken on a station link: a DOWN link comes UP, and the silence timer restarts. The time
without a sent frame, which stands at 0 on a DOWN link, is counted from the rise (log entry 29). -/
def StationLink.heard (x : StationLink) : StationLink := { x with link := .up, silenceMs := 0 }

/-- A valid frame taken on the link of `st`. -/
def State.stationFrame (s : State) (st : Stn) : State := s.modStn st StationLink.heard

/-! The choice of the next frame (R170). -/

/-- Puts a frame on the line; the time since the last sent frame starts again (R166). -/
def StationLink.put (x : StationLink) (f : StationOut) : StationLink :=
  { x with line := some f, quietMs := 0 }

/-- Chooses the next frame of an idle line (R170): the oldest unsent QUEUE_FULL response, then the
next frame of the request in hand. -/
def StationLink.schedule (x : StationLink) : StationLink :=
  if x.line.isSome then x
  else
    match x.queueFull, x.reply, x.stream with
    | q :: rest, _, _ => { x with queueFull := rest }.put (.queueFull q.1 q.2)
    | [], some f, _ => { x with reply := none }.put f
    | [], none, some r =>
      match r.output with
      | some p => x.put (.pageData r.tag p.1 p.2)
      | none => x
    | [], none, none => x

/-- Chooses the next frame of the link of `st`. -/
def State.schedule (s : State) (st : Stn) : State := s.modStn st StationLink.schedule

/-! The request queue (R169). -/

/-- The name code of a request (R199): its place in the table of R168. -/
def requestCode : Request → Nat
  | .openSession _ => 1
  | .closeSession _ => 2
  | .saveConfig => 3
  | .defineGeometry _ _ _ => 4
  | .defineTubes _ _ _ _ _ => 5
  | .removeTubes _ _ _ => 6
  | .setLimits _ => 7
  | .setSecondOpinion _ => 8
  | .lockPlan => 9
  | .setWindow _ _ => 10
  | .setExclusions _ _ => 11
  | .defineStandard _ _ _ _ => 12
  | .requestRetest _ _ _ => 13
  | .confirmPlug _ _ => 14
  | .submitFinal _ _ _ _ => 15
  | .markArchived _ => 16
  | .declareProbeFailed _ => 17
  | .submitCall _ _ _ _ => 18
  | .readStatus => 19
  | .getEvents _ => 20
  | .readPages _ _ _ => 21
  | .readTube _ _ => 22
  | .scanTubes _ _ _ _ => 23
  | .readTraverse _ => 24
  | .readChannel _ => 25
  | .readCalLog _ => 26
  | .readBracket _ => 27
  | .readConfig => 28
  | .unreadable name => name

/-- Places an arriving request at the tail of the queue, or keeps a QUEUE_FULL response to it, or
leaves it unanswered (R169). -/
def StationLink.place (x : StationLink) (r : QueuedRequest) : StationLink :=
  if x.queue.length < Config.queuePlaces then { x with queue := x.queue ++ [r] }
  else if x.queueFull.length < Config.queuePlaces then
    { x with queueFull := x.queueFull ++ [(r.tag, requestCode r.req)] }.schedule
  else x

/-- A REQUEST frame taken on the link of `st` (R166, R169). -/
def State.arrive (s : State) (st : Stn) (r : QueuedRequest) : State :=
  (s.stationFrame st).modStn st fun x => x.place r

/-- Whether the controller of `st` may begin a request (R169): loading has ended, no request is in
hand, and the request stands at the head of the queue. -/
def State.begins (s : State) (st : Stn) (r : QueuedRequest) : Bool :=
  s.config.phase == .ready && !(s.stn st).inHand && (s.stn st).queue.head? == some r

/-- Carries a request to its execution. One that the controller may begin is taken from the queue's
head; any other is an arrival, which is begun at once where it then stands at the head with no
request in hand, and waits in the queue otherwise (log entry 12). `run` executes it. -/
def State.takeRequest (s : State) (st : Stn) (tag : Nat) (req : Request) (run : State → State) :
    Host.Outcome State Fault Refusal :=
  s.act fun s =>
    let r : QueuedRequest := ⟨tag, req⟩
    let s1 := if s.begins st r then s else s.arrive st r
    if s1.begins st r then run (s1.modStn st fun x => { x with inHand := true }) else s1

/-! Answers (R170). -/

/-- An OK answer with its content. -/
def Reply.ok (c : Content) : Reply := ⟨.ok, c⟩

/-- A refusal without content. -/
def Reply.refuse (r : Status) : Reply := ⟨r, .none⟩

/-- Produces the RESPONSE of the request in hand and sends it when the line is free (R170). -/
def State.respond (s : State) (st : Stn) (tag name : Nat) (r : Reply) : State :=
  s.modStn st fun x => { x with reply := some (.response tag name r.status r.content) }.schedule

/-- Executes a request that is answered by one RESPONSE: `body` gives the state it leaves and its
answer (R170). -/
def State.request (s : State) (st : Stn) (tag : Nat) (req : Request)
    (body : State → State × Reply) : Host.Outcome State Fault Refusal :=
  s.takeRequest st tag req fun s =>
    let r := body s
    r.1.respond st tag (requestCode req) r.2

/-- The role check that comes first in a request allowed to one role only (R168). -/
def State.forRole (s : State) (st : Stn) (allowed : Role → Bool) (body : State → State × Reply) :
    State × Reply :=
  if (s.stn st).role.any allowed then body s else (s, .refuse .wrongRole)

/-- The role check of a lead request (R168). -/
def State.forLead (s : State) (st : Stn) (body : State → State × Reply) : State × Reply :=
  s.forRole st (· == .lead) body

/-- A lead request whose body runs after its role check. -/
def State.leadRequest (s : State) (st : Stn) (tag : Nat) (req : Request)
    (body : State → State × Reply) : Host.Outcome State Fault Refusal :=
  s.request st tag req fun s => s.forLead st body

/-- The check for an open session, with the session for what follows it (R170). -/
def State.withSession (s : State) (body : Session → State × Reply) : State × Reply :=
  match s.session with
  | none => (s, .refuse .noSession)
  | some x => body x

/-- The check for a defined position, with its entry for what follows it (R170). -/
def State.withTube (s : State) (p : Pos) (body : TubeEntry → State × Reply) : State × Reply :=
  match s.tube? p with
  | none => (s, .refuse .noSuchTube)
  | some t => body t

/-! Page streams (R172 to R176). -/

/-- The read port's move to output (R173). -/
def Stream.moveOut (r : Stream) : Stream :=
  match r.fetch, r.output with
  | .full bytes, none => { r with output := some (r.next, bytes), next := r.next + 1, fetch := .empty }
  | _, _ => r

/-- The read port's fetch request (R173, R87), against its traverse as it stands. -/
def Stream.ask (r : Stream) (t : Option Traverse) : Stream :=
  if r.fetch = .empty ∧ r.ending = none ∧ r.next < r.first + r.count then
    match t.map fun t => fetchAnswer t r.next with
    | some .passed => { r with fetch := .waiting }
    | _ => { r with ending := some .short }
  else r

/-- Whether a stream ends (R174): its ending is decided and its output buffer is empty. -/
def Stream.over (r : Stream) : Bool :=
  r.output.isNone && (r.ending.isSome || r.sent == r.count)

/-- The STREAM_END frame of a stream (R174). -/
def Stream.endFrame (r : Stream) : StationOut :=
  .streamEnd r.tag (r.ending.getD .ok) r.sent (r.first + r.sent)

/-- Carries a read port on as far as it goes in one act (R173, R174): the move to output, the fetch
request, and the end of the stream with its STREAM_END and deregistration. -/
def State.pump (s : State) (st : Stn) : State :=
  match (s.stn st).stream with
  | none => s.schedule st
  | some r =>
    let r1 := r.moveOut.ask (s.trav? r.traverse)
    if r1.over then
      let s1 := s.modStn st fun x => { x with stream := none, reply := some r1.endFrame }.schedule
      if r1.registered then s1.deregister r1.traverse else s1
    else (s.modStn st fun x => { x with stream := some r1 }.schedule).arbitrate

/-- Takes the pages of a port's transfer away from the read port they were fetched for (R176). -/
def Port.undeliver (p : Port) (st : Stn) : Port :=
  match p with
  | .fetch t page seq d => if t = st then .fetch t page seq false else .fetch t page seq d
  | p => p

/-- A stream with ending ABORTED (R176): whatever its fetch buffer held is gone. -/
def Stream.abort (r : Stream) : Stream := { r with ending := some .aborted, fetch := .empty }

/-- Aborts the running stream of a station (R176): a waiting fetch is withdrawn, one on the store port
is not delivered, and a full page is discarded. -/
def State.abortStream (s : State) (st : Stn) : State :=
  match (s.stn st).stream with
  | none => s
  | some _ =>
    ((s.modStream st Stream.abort).modStore fun x => { x with port := x.port.undeliver st }).pump st

/-- A new stream as READ_PAGES starts it (R172). -/
def newStream (tag traverse first count : Nat) : Stream :=
  { tag := tag, traverse := traverse, first := first, count := count, next := first, sent := 0
    fetch := .empty, output := none, ending := none, registered := true }

/-! The ends of sends (R170, R173). -/

/-- The end of the send of a frame that is not PAGE_DATA (R170): a RESPONSE or STREAM_END takes its
request out of the queue. -/
def StationLink.frameSent (x : StationLink) (f : StationOut) : StationLink :=
  let x1 := { x with line := none, quietMs := 0, delivered := x.delivered ++ [f] }
  match f with
  | .response _ _ _ _ | .streamEnd _ _ _ _ =>
    { x1 with queue := x1.queue.tail, inHand := false }.schedule
  | _ => x1.schedule

/-- The end of the send of a PAGE_DATA frame (R173): pages sent rise and the output buffer empties. -/
def StationLink.pageSent (x : StationLink) (f : StationOut) : StationLink :=
  { x with
    line := none, quietMs := 0, delivered := x.delivered ++ [f]
    stream := x.stream.map fun r => { r with sent := r.sent + 1, output := none } }

/-! The loss of a station link (R167). -/

/-- What the loss of its link does to a Station Link Controller (R167). The time without a sent frame
returns to 0, where it stands until the link comes UP (log entry 29). -/
def StationLink.lost (x : StationLink) : StationLink :=
  { x with
    link := .down, silenceMs := 0, quietMs := 0, queue := [], inHand := false, queueFull := []
    reply := none, line := none, stream := none, events := [], eventsLost := true, attn := false }

/-- The loss of the link of `st` (R167): a stream in progress ends with no frame and its read port
deregisters; then the queues are emptied, with an event that the deregistration raised, and the
attention line falls. -/
def State.loseStation (s : State) (st : Stn) : State :=
  let s1 := match (s.stn st).stream with
    | none => s
    | some r =>
      let s1 := (s.modStn st fun x => { x with stream := none }).modStore fun x =>
        { x with port := x.port.undeliver st }
      if r.registered then s1.deregister r.traverse else s1
  s1.modStn st StationLink.lost

end Sys2Proof.Machine
end

