-- ==== Sys2Proof/Machine/Time.lean ====
section
/-! DEFINITION. What the part does when no command waits (log entry 1): it queues the arrivals that
its own timers and request queues have made due, and when none is due one millisecond of its own
time passes. -/

namespace Sys2Proof.Machine

/-- The step that takes a station's request for execution (R169). -/
def requestInstr (st : Stn) (r : QueuedRequest) : Instr :=
  match r.req with
  | .openSession wall => .openSession st r.tag wall
  | .closeSession force => .closeSession st r.tag force
  | .saveConfig => .saveConfig st r.tag
  | .defineGeometry cls count length => .defineGeometry st r.tag cls count length
  | .defineTubes row col1 col2 cls cond => .defineTubes st r.tag row col1 col2 cls cond
  | .removeTubes row col1 col2 => .removeTubes st r.tag row col1 col2
  | .setLimits v => .setLimits st r.tag v
  | .setSecondOpinion mode => .setSecondOpinion st r.tag mode
  | .lockPlan => .lockPlan st r.tag
  | .setWindow ch w => .setWindow st r.tag ch w
  | .setExclusions complement rects => .setExclusions st r.tag complement rects
  | .defineStandard id depths freq threshold => .defineStandard st r.tag id depths freq threshold
  | .requestRetest row col reset => .requestRetest st r.tag row col reset
  | .confirmPlug row col => .confirmPlug st r.tag row col
  | .submitFinal row col traverse call => .submitFinal st r.tag row col traverse call
  | .markArchived traverse => .markArchived st r.tag traverse
  | .declareProbeFailed ch => .declareProbeFailed st r.tag ch
  | .submitCall row col traverse call => .submitCall st r.tag row col traverse call
  | .readStatus => .readStatus st r.tag
  | .getEvents count => .getEvents st r.tag count
  | .readPages traverse first count => .readPages st r.tag traverse first count
  | .readTube row col => .readTube st r.tag row col
  | .scanTubes row col states count => .scanTubes st r.tag row col states count
  | .readTraverse traverse => .readTraverse st r.tag traverse
  | .readChannel ch => .readChannel st r.tag ch
  | .readCalLog first => .readCalLog st r.tag first
  | .readBracket number => .readBracket st r.tag number
  | .readConfig => .readConfig st r.tag
  | .unreadable name => .unreadableRequest st r.tag name

/-- The request a controller is to begin (R169): loading has ended and none is in hand. -/
def State.dueRequest (s : State) (st : Stn) : List Instr :=
  match (s.stn st).queue with
  | [] => []
  | r :: _ => if s.begins st r then [requestInstr st r] else []

/-- Whether a time of the session clock has come; never with no session. -/
def State.reached (s : State) (due : Option Nat) : Bool :=
  match s.time?, due with
  | some now, some d => decide (d ≤ now)
  | _, _ => false

/-- The session time at which the age limit of a channel's open bracket is reached; absent once its
cal_due is set (R134, R135). -/
def State.ageDue (s : State) (ch : Chan) : Option Nat :=
  match s.openBracket ch with
  | none => none
  | some b => if b.calDue.isSome then none else some (b.ageDue s.limits)

/-- The timers of a channel that have run out (R28, R43, R44, R53, R135). -/
def State.dueChannel (s : State) (ch : Chan) : List Instr :=
  let c := s.chan ch
  let up := c.state != .offline
  (if up && decide (Config.probeSilenceMs ≤ c.silenceMs) then [.probeLinkLoss ch] else [])
    ++ (if up && decide (Config.probeQuietMs ≤ c.quietMs) then [.probeIdleSend ch] else [])
    ++ (if s.reached c.claimDue then [.claimExpiry ch] else [])
    ++ (if s.reached c.pauseDue then [.pauseExpiry ch] else [])
    ++ (if s.reached (s.ageDue ch) then [.bracketAgeLimit ch] else [])

/-- The timers of a station link that have run out (R166). -/
def State.dueStation (s : State) (st : Stn) : List Instr :=
  let x := s.stn st
  let up := x.link == .up
  (if up && decide (Config.stationSilenceMs ≤ x.silenceMs) then [.stationLinkLoss st] else [])
    ++ (if up && x.line.isNone && decide (Config.stationQuietMs ≤ x.quietMs) then
          [.stationIdleSend st] else [])

/-- The flash limit that has run out (R189). -/
def State.dueFlash (s : State) : List Instr :=
  match s.config.save with
  | .running _ .eraseWait ms => if Config.flashBusyMs ≤ ms then [.eraseTimeout] else []
  | .running _ (.programWait _) ms => if Config.flashBusyMs ≤ ms then [.programTimeout] else []
  | _ => []

/-- The session clock's second, when it is complete (R191). -/
def State.dueSecond (s : State) : List Instr :=
  match s.session with
  | none => []
  | some x => if 1000 ≤ x.subMs then [.sessionSecondTick] else []

/-- Every arrival that is due (log entry 1). -/
def State.due (s : State) : List Instr :=
  s.dueRequest 0 ++ s.dueRequest 1 ++ s.dueRequest 2 ++ s.dueSecond
    ++ s.dueChannel 0 ++ s.dueChannel 1 ++ s.dueChannel 2 ++ s.dueChannel 3
    ++ s.dueStation 0 ++ s.dueStation 1 ++ s.dueStation 2 ++ s.dueFlash

/-- One millisecond on the timers of a channel whose link is up. -/
def Channel.tick (c : Channel) : Channel :=
  if c.state = .offline then c
  else { c with silenceMs := c.silenceMs + 1, quietMs := c.quietMs + 1 }

/-- One millisecond on the timers of a station link that is UP; the time without a sent frame does not
run on a DOWN link, so that it is counted from the rise (log entry 29). -/
def StationLink.tick (x : StationLink) : StationLink :=
  if x.link = .down then x else { x with silenceMs := x.silenceMs + 1, quietMs := x.quietMs + 1 }

/-- One millisecond of a running save: the wait for not busy goes on. -/
def Save.tick : Save → Save
  | .running x .eraseWait ms => .running x .eraseWait (ms + 1)
  | .running x (.programWait k) ms => .running x (.programWait k) (ms + 1)
  | x => x

/-- One millisecond of the part's own time. A save of which nothing is issued yet issues its first
write enable (log entry 11). -/
def State.tick (s : State) : State :=
  let c := s.channels
  let x := s.stations
  let s1 : State :=
    { s with
      session := s.session.map fun x => { x with subMs := x.subMs + 1 }
      channels := ⟨c.c0.tick, c.c1.tick, c.c2.tick, c.c3.tick⟩
      stations := ⟨x.s0.tick, x.s1.tick, x.s2.tick⟩
      config := { s.config with save := s.config.save.tick } }
  match s1.config.save with
  | .running snapshot .start _ => s1.issueEnable snapshot .erase
  | _ => s1

/-- What the part does when no command waits: nothing while RESET_N is low (R184); otherwise the
arrivals that are due are queued, and when none is, a millisecond passes. -/
def State.idle (s : State) : State :=
  if s.config.phase = .inReset then s
  else
    match s.due with
    | [] => s.tick
    | d => { s with pending := s.pending ++ d }

end Sys2Proof.Machine
end

