-- ==== Sys2Proof/Machine/CalEvents.lean ====
section
/-! DEFINITION. The meanings of the ends of the work of the Calibration Unit and the Agreement Unit
(chapters 7 and 8). An end of work that is not in hand changes nothing (log entry 14). -/

namespace Sys2Proof.Machine

/-- CALIBRATION_VERDICT (R124 to R128): the evaluation in hand on a channel ends with its verdict. -/
def execCalibrationVerdict (ch : Chan) (s : State) : Host.Outcome State Fault Refusal :=
  s.act fun s =>
    match s.attempt? ch with
    | none => s
    | some a =>
      match a.stage, s.trav? a.traverse, s.standard? a.standard with
      | .evaluating, some t, some std =>
        match evaluate std t with
        | .error r => s.rejectCalibration ch a r
        | .ok f => s.acceptCalibration ch a f
      | _, _, _ => s

/-- BRACKET_AGE_LIMIT (R134, R135): the clock of a channel's open bracket has reached its interval,
and cal_due is set with cause AGE. Before that time, and on a bracket that is already due, there is
no age limit to take (log entry 14). -/
def execBracketAgeLimit (ch : Chan) (s : State) : Host.Outcome State Fault Refusal :=
  s.act fun s => if s.reached (s.ageDue ch) then s.setCalDue ch .age else s

/-- The tube that a sweep presents with a traverse: the one the live traverse was pulled on, if that
tube is ACQUIRED with this traverse current (R32, R140). -/
def State.presented (s : State) (id : Nat) : Option Traverse :=
  match s.trav? id with
  | none => none
  | some t =>
    match t.target with
    | .standard _ => none
    | .tube p =>
      match s.tube? p with
      | none => none
      | some e => if e.state = .acquired ∧ e.traverse = some id then some t else none

/-- One presentation of a CLOSED_FAIL sweep (R32, R141): a tube still ACQUIRED on the traverse goes to
RETEST with cause BRACKET_FAIL, its traverse is made INVALIDATED and TUBE_RETEST is raised, in that order
(log entry 21), and the retest count rises. -/
def State.presentFail (s : State) (n id : Nat) : State :=
  match s.presented id with
  | none => s
  | some t =>
    match t.target with
    | .standard _ => s
    | .tube p =>
      (s.retestTube p .bracketFail false (some id)).modBracket n fun b =>
        { b with retests := some (b.retests.getD 0 + 1) }

/-- One hand-over of a CLOSED_GOOD sweep (R140): a tube ACQUIRED on the COMPLETE traverse is handed to
the Agreement Unit, which makes its test. -/
def State.presentGood (s : State) (id : Nat) : State :=
  match s.presented id with
  | none => s
  | some t =>
    match t.target with
    | .standard _ => s
    | .tube p => if t.state = .complete then s.testComparison p else s

/-- One presentation of the running sweep of bracket `n` whose verdict is `verdict` (R139): the next
id that names a live traverse leaves the list and is presented, and the sweep ends when none is
left. -/
def State.sweepStep (s : State) (n : Nat) (verdict : BracketState)
    (present : State → Nat → State) : State :=
  match s.bracket? n with
  | none => s
  | some b =>
    if b.sweep = .running ∧ b.state = verdict then
      match s.sweepLeft b with
      | [] => s.settleSweep n
      | id :: rest =>
        (present (s.modBracket n fun b => { b with toPresent := rest }) id).settleSweep n
    else s

/-- CLOSED_FAIL_PRESENTATION (R32, R139, R141). -/
def execClosedFailPresentation (bracket : Nat) (s : State) : Host.Outcome State Fault Refusal :=
  s.act fun s => s.sweepStep bracket .closedFail fun s id => s.presentFail bracket id

/-- CLOSED_GOOD_HANDOVER (R139, R140). -/
def execClosedGoodHandover (bracket : Nat) (s : State) : Host.Outcome State Fault Refusal :=
  s.act fun s => s.sweepStep bracket .closedGood State.presentGood

/-- COMPARISON_END (R33, R152, R156): the comparison of a tube in hand delivers its outcome. -/
def execComparisonEnd (row col : Nat) (s : State) : Host.Outcome State Fault Refusal :=
  s.act fun s =>
    match s.comparison? ⟨row, col⟩ with
    | none => s
    | some c => (s.dropComparison c.pos).applyOutcome c

end Sys2Proof.Machine
end

