-- ==== Sys2Proof/Machine/Operands.lean ====
section
/-! DEFINITION. The admitted values of request arguments, and the clamping of limits, windows and
rectangles (chapter 1, R40, R172). -/

namespace Sys2Proof.Machine

/-! Ranges. -/

/-- Whether a value lies from `lo` to `hi`. -/
def within (lo hi v : Nat) : Bool := decide (lo ≤ v ∧ v ≤ hi)

/-- The admitted arguments of DEFINE_GEOMETRY (R3). -/
def goodGeometry (cls count length : Nat) : Bool :=
  decide (cls ≤ 15) && within 2 40 count && within 1000 30000 length

/-- The admitted rows and columns of a run (R5, R7). -/
def goodRun (row col1 col2 : Nat) : Bool :=
  within 1 255 row && within 1 255 col1 && within 1 255 col2 && decide (col1 ≤ col2)

/-- The admitted arguments of DEFINE_TUBES (R5). -/
def goodTubes (row col1 col2 cls : Nat) : Bool := goodRun row col1 col2 && decide (cls ≤ 15)

/-- Whether the bounds of a window or rectangle stand in order, on the values as given (R13, R14). -/
def rectOrdered (w : Rect) : Bool := decide (w.rowLo ≤ w.rowHi ∧ w.colLo ≤ w.colHi)

/-- The channel a request names, if it is one of 0 to 3 (R13, R66, R171). -/
def chanOf (n : Nat) : Option Chan := if h : n < 4 then some ⟨n, h⟩ else none

/-- The admitted arguments of SCAN_TUBES (R40). -/
def goodScan (row col : Nat) (states : List TubeState) (count : Nat) : Bool :=
  decide (row ≠ 0 ∧ col ≠ 0 ∧ states ≠ []) && within 1 32 count

/-- The admitted arguments of READ_PAGES (R172). -/
def goodPages (first count : Nat) : Bool := within 1 256 count && decide (first ≤ 1170)

/-! Clamping (R8, R13, R14). -/

/-- A value moved to the nearest end of its range (R8). -/
def clampTo (lo hi v : Nat) : Nat := if v < lo then lo else if hi < v then hi else v

/-- A row or column bound clamped into 1 to 255 (R13). -/
def clampBound (v : Nat) : Nat := clampTo 1 255 v

/-- A window or rectangle with each bound clamped (R13, R14). -/
def clampRect (w : Rect) : Rect :=
  { rowLo := clampBound w.rowLo, rowHi := clampBound w.rowHi
    colLo := clampBound w.colLo, colHi := clampBound w.colHi }

/-- The nine limits clamped into their ranges (R8). -/
def Limits.clamp (l : Limits) : Limits :=
  { plug := clampTo 20 100 l.plug, reporting := clampTo 5 50 l.reporting
    depthTol := clampTo 5 20 l.depthTol, locTol := clampTo 5 100 l.locTol
    detection := clampTo 10 2000 l.detection, landmark := clampTo 100 30000 l.landmark
    gap := clampTo 1 64 l.gap, interval := clampTo 1 8 l.interval
    capacity := clampTo 16 512 l.capacity }

/-- The limits with the values present in a SET_LIMITS in place of those held (R9). -/
def Limits.present (l : Limits) (v : LimitArgs) : Limits :=
  { plug := v.plug.getD l.plug, reporting := v.reporting.getD l.reporting
    depthTol := v.depthTol.getD l.depthTol, locTol := v.locTol.getD l.locTol
    detection := v.detection.getD l.detection, landmark := v.landmark.getD l.landmark
    gap := v.gap.getD l.gap, interval := v.interval.getD l.interval
    capacity := v.capacity.getD l.capacity }

/-- The limits after an accepted SET_LIMITS (R9): each value present is clamped, each absent one
keeps the limit held. -/
def Limits.apply (l : Limits) (v : LimitArgs) : Limits :=
  let c := (l.present v).clamp
  { plug := if v.plug.isSome then c.plug else l.plug
    reporting := if v.reporting.isSome then c.reporting else l.reporting
    depthTol := if v.depthTol.isSome then c.depthTol else l.depthTol
    locTol := if v.locTol.isSome then c.locTol else l.locTol
    detection := if v.detection.isSome then c.detection else l.detection
    landmark := if v.landmark.isSome then c.landmark else l.landmark
    gap := if v.gap.isSome then c.gap else l.gap
    interval := if v.interval.isSome then c.interval else l.interval
    capacity := if v.capacity.isSome then c.capacity else l.capacity }

end Sys2Proof.Machine
end

