-- ==== Sys2Proof/Machine/Flags.lean ====
section
/-! DEFINITION. Flags and masks: the clamped flags of a response (R9, R192) and the flag bytes of
frames and records (R196, R198, R200). -/

namespace Sys2Proof.Machine

/-- Whether two values differ: the clamped flag of a limit. -/
def moved (given stored : Nat) : Bool := given != stored

/-- The clamped flags of limits copied from the shadow (R192). -/
def Limits.clampedFlags (l : Limits) : ClampFlags :=
  let c := l.clamp
  { plug := moved l.plug c.plug, reporting := moved l.reporting c.reporting
    depthTol := moved l.depthTol c.depthTol, locTol := moved l.locTol c.locTol
    detection := moved l.detection c.detection, landmark := moved l.landmark c.landmark
    gap := moved l.gap c.gap, interval := moved l.interval c.interval
    capacity := moved l.capacity c.capacity }

/-- The clamped flags of a SET_LIMITS (R9): an absent value is never clamped. -/
def Limits.appliedFlags (l : Limits) (v : LimitArgs) : ClampFlags :=
  let f := (l.present v).clampedFlags
  { plug := v.plug.isSome && f.plug, reporting := v.reporting.isSome && f.reporting
    depthTol := v.depthTol.isSome && f.depthTol, locTol := v.locTol.isSome && f.locTol
    detection := v.detection.isSome && f.detection, landmark := v.landmark.isSome && f.landmark
    gap := v.gap.isSome && f.gap, interval := v.interval.isSome && f.interval
    capacity := v.capacity.isSome && f.capacity }

/-- The clamped flags as their two-byte mask (R200). -/
def ClampFlags.mask (f : ClampFlags) : Nat :=
  flagBits [f.plug, f.reporting, f.depthTol, f.locTol, f.detection, f.landmark, f.gap, f.interval,
    f.capacity]

/-- The flags byte of a traverse in TRAVERSE_DONE (R198). -/
def TraverseFlags.byte (f : TraverseFlags) : Nat :=
  flagBits [f.truncated, f.lostSamples, f.landmarkMismatch, f.indicationExcess]

end Sys2Proof.Machine
end

