-- ==== Sys2Proof/Machine/SessionRequests.lean ====
section
/-! DEFINITION. The meanings of OPEN_SESSION, CLOSE_SESSION and SAVE_CONFIG, and of the session
clock's tick (chapter 10). -/

namespace Sys2Proof.Machine

/-- Recomputes the permit of every channel (R48). -/
def State.refreshPermits (s : State) : State :=
  (((s.refreshPermit 0).refreshPermit 1).refreshPermit 2).refreshPermit 3

/-! OPEN_SESSION (R1, R192). -/

/-- The window of the whole tubesheet (R1). -/
def wholeWindow : Rect := ⟨1, 255, 1, 255⟩

/-- The plan a session starts with (R1). -/
def newPlan (limits : Limits) : Plan :=
  { limits := limits, mode := .analyst, locked := false, classes := List.replicate 16 none
    windows := Four.all wholeWindow, exclusions := ⟨false, []⟩ }

/-- A session as it is opened (R192). -/
def newSession (wall : Nat) (limits : Limits) : Session :=
  { base := wall, seconds := 0, subMs := 0, plan := newPlan limits, tubes := []
    counts := TubeCounts.zero, nextTraverse := 1 }

/-- An accepted OPEN_SESSION (R192). -/
def State.openSession (s : State) (wall : Nat) : State × Reply :=
  let given := s.config.shadow.limits
  let s1 := { s with session := some (newSession wall given.clamp) }
  let s2 := s1.modStore fun x =>
    { x with directory := [], reservedSlots := 0, reservedPages := 0, pool := fullPool, low := false }
  let s3 := s2.modCal fun x => { x with log := [], brackets := [] }
  (s3.refreshPermits, .ok (.sessionOpened wall given.clamp given.clampedFlags))

/-- OPEN_SESSION (R192): WRONG_ROLE, then SESSION_OPEN. -/
def execOpenSession (st : Stn) (tag wall : Nat) (s : State) : Host.Outcome State Fault Refusal :=
  s.leadRequest st tag (.openSession wall) fun s =>
    if s.session.isSome then (s, .refuse .sessionOpen) else s.openSession wall

/-! CLOSE_SESSION (R193 to R195). -/

/-- Ends the stream of a station at a forced close (R177, R194 step 1): a page being sent goes to the
end of its frame and STREAM_END follows it, while the read port deregisters at once. -/
def State.closeStream (s : State) (st : Stn) : State :=
  let s1 := s.abortStream st
  match (s1.stn st).stream with
  | none => s1
  | some r =>
    if r.registered then
      (s1.modStream st fun r => { r with registered := false }).deregister r.traverse
    else s1

/-- Ends the claim of a channel in CLAIMED at a forced close (R27, R194 step 2). -/
def State.closeClaim (s : State) (ch : Chan) : State :=
  match (s.chan ch).state with
  | .claimed => s.endClaim ch false
  | .offline | .needsCal | .ready | .due | .recording | .paused | .calibrating | .evaluating => s

/-- The number of claims held before their pulls. -/
def State.claimsHeld (s : State) : Nat :=
  (if s.channels.c0.state = .claimed then 1 else 0) + (if s.channels.c1.state = .claimed then 1 else 0)
    + (if s.channels.c2.state = .claimed then 1 else 0)
    + (if s.channels.c3.state = .claimed then 1 else 0)

/-- Whether a traverse is in its pull: RECORDING, PAUSED or FINISHING. -/
def Traverse.inPull (t : Traverse) : Bool :=
  match t.state with
  | .recording | .paused | .finishing => true
  | .complete | .aborted | .invalidated => false

/-- Aborts one pull at a forced close (R194 step 3): the traverse becomes ABORTED without a final page,
and the tube of an inspection pull enters RETEST with cause ABORT. -/
def State.closePull (s : State) (t : Traverse) : State :=
  let s1 := s.abortTraverse t.id
  match t.target with
  | .tube p => s1.abortTube p false
  | .standard _ => s1

/-- Empties the write queue (R89). -/
def State.dropLanes (s : State) : State := s.modStore fun x => { x with lanes := Four.all [] }

/-- Whether a buffer's page is on the store port. -/
def Port.holds (p : Port) (ch : Chan) (i : BufId) : Bool :=
  match p with
  | .write c j _ _ _ => c == ch && j == i
  | .free | .fetch _ _ _ _ => false

/-- Discards the samples of a buffer, unless its page is on the store port (R194 step 3). -/
def Channel.dropBuffer (c : Channel) (ch : Chan) (port : Port) (i : BufId) : Channel :=
  if port.holds ch i then c else c.modBuf i fun _ => PageBuffer.empty

/-- Ends a calibration attempt at a forced close (R142, R194 step 4). -/
def State.closeAttempt (s : State) (ch : Chan) : State :=
  match s.attempt? ch with
  | none => s
  | some a => (s.abortTraverse a.traverse).setAttempt ch none

/-- The work a forced close ends (R194), its five steps in order. -/
def State.endWork (s : State) : State :=
  let s1 := ((s.closeStream 0).closeStream 1).closeStream 2
  let s2 := (((s1.closeClaim 0).closeClaim 1).closeClaim 2).closeClaim 3
  let s3 := (s2.store.directory.filter Traverse.inPull).foldl State.closePull s2.dropLanes
  let s4 := (((s3.closeAttempt 0).closeAttempt 1).closeAttempt 2).closeAttempt 3
  { s4 with comparisons := [] }

/-- A page transfer that outlives its session (R89): a write counts for no traverse, and a fetch is
not delivered. -/
def Port.orphan : Port → Port
  | .free => .free
  | .write ch i _ page bytes => .write ch i none page bytes
  | .fetch st page seq _ => .fetch st page seq false

/-- A channel without anything of the session that closes (R194, R195): its state is the caller's. A pull
aborted before the close whose TRAVERSE_DONE still waits on a page in write is dropped without a frame (the
model's choice, log entry 42). -/
def Channel.cleared (c : Channel) (ch : Chan) (port : Port) : Channel :=
  { (c.dropBuffer ch port .a).dropBuffer ch port .b with
    claim := none, claimDue := none, pauseDue := none, traverse := none, expect := none
    pendingLost := false, linkLossMark := false, screen := .idle, reports := [] }

/-- A channel's move at the clearing (R195): an up channel enters NEEDS_CAL and sends PERMIT. -/
def State.closeChannel (s : State) (ch : Chan) : State :=
  if (s.chan ch).state = .offline then s else s.moveChan ch .needsCal

/-- An event queue emptied at CLOSE_SESSION (R182). -/
def StationLink.dropEvents (x : StationLink) : StationLink := { x with events := [], attn := false }

/-- The clearing of the store, the calibration state and the channels' own work (R89, R142, R195). -/
def State.clearSession (s : State) : State :=
  let c := s.channels
  let port := s.store.port
  { s with
    session := none
    channels := ⟨c.c0.cleared 0 port, c.c1.cleared 1 port, c.c2.cleared 2 port, c.c3.cleared 3 port⟩
    store := { s.store with
      directory := [], reservedSlots := 0, reservedPages := 0, pool := fullPool
      lanes := Four.all [], port := port.orphan, low := false }
    cal := Calibration.reset
    comparisons := [] }

/-- The clearing that ends every CLOSE_SESSION (R195), with its SESSION_CLOSED event. -/
def State.finishClose (s : State) (e : Event) : State :=
  let s1 := s.clearSession
  let s2 := (((s1.closeChannel 0).closeChannel 1).closeChannel 2).closeChannel 3
  let x := s2.stations
  { s2 with stations := ⟨x.s0.dropEvents, x.s1.dropEvents, x.s2.dropEvents⟩ }.raise e

/-- An accepted CLOSE_SESSION (R193 to R195). -/
def State.closeSession (s : State) (x : Session) (force : Bool) : State × Reply :=
  if force then
    let aborted := (s.store.directory.filter Traverse.inPull).length
    let attempts := s.cal.inHand
    let claims := s.claimsHeld
    (s.endWork.finishClose (.sessionClosed x.base x.seconds true aborted attempts claims),
     .ok (.sessionEnded aborted attempts claims))
  else
    (s.finishClose (.sessionClosed x.base x.seconds false 0 0 0), .ok (.sessionEnded 0 0 0))

/-- CLOSE_SESSION (R193): WRONG_ROLE, NO_SESSION, and without force UNSETTLED. -/
def execCloseSession (st : Stn) (tag : Nat) (force : Bool) (s : State) :
    Host.Outcome State Fault Refusal :=
  s.leadRequest st tag (.closeSession force) fun s =>
    s.withSession fun x =>
      if force = false ∧ (s.store.directory ≠ [] ∨ 0 < s.store.reservedSlots) then
        (s, .refuse .unsettled)
      else s.closeSession x force

/-! SAVE_CONFIG (R188). -/

/-- SAVE_CONFIG (R188): WRONG_ROLE, PROTECTED, BUSY; an accepted one takes the snapshot and starts the
save in the background. -/
def execSaveConfig (st : Stn) (tag : Nat) (s : State) : Host.Outcome State Fault Refusal :=
  s.leadRequest st tag .saveConfig fun s =>
    if s.config.cfgProtect then (s, .refuse .cfgProtected)
    else if s.config.save ≠ .idle then (s, .refuse .busy)
    else (s.startSave, .ok .none)

/-! The session clock (R191). -/

/-- SESSION_SECOND_TICK (R191): the seconds counter of an open session rises by one and holds at its
greatest value. With no session there is no counter. -/
def execSessionSecondTick (s : State) : Host.Outcome State Fault Refusal :=
  s.act fun s => s.modSession fun x =>
    { x with seconds := min Config.maxSeconds (x.seconds + 1), subMs := x.subMs - 1000 }

end Sys2Proof.Machine
end

