-- ==== Sys2Proof/Machine/PlanRequests.lean ====
section
/-! DEFINITION. The meanings of the lead's requests on the plan (chapter 1) and of DEFINE_STANDARD
(R121). -/

namespace Sys2Proof.Machine

/-- Changes the plan of the open session. -/
def State.modPlan (s : State) (f : Plan → Plan) : State :=
  s.modSession fun x => { x with plan := f x.plan }

/-- An editing request (R2): WRONG_ROLE, NO_SESSION, PLAN_LOCKED and BAD_ARGUMENT come first, in this
order. -/
def State.editRequest (s : State) (st : Stn) (tag : Nat) (req : Request) (good : Bool)
    (body : State → Session → State × Reply) : Host.Outcome State Fault Refusal :=
  s.leadRequest st tag req fun s =>
    s.withSession fun x =>
      if x.plan.locked then (s, .refuse .planLocked)
      else if good then body s x
      else (s, .refuse .badArgument)

/-- DEFINE_GEOMETRY (R3). -/
def execDefineGeometry (st : Stn) (tag cls count length : Nat) (s : State) :
    Host.Outcome State Fault Refusal :=
  s.editRequest st tag (.defineGeometry cls count length) (goodGeometry cls count length)
    fun s _ =>
      let g : Geometry := ⟨count, length⟩
      (s.modPlan fun p => { p with classes := p.classes.set cls (some g) }, .ok (.geometry cls g))

/-! DEFINE_TUBES and REMOVE_TUBES (R5 to R7). -/

/-- Merges two lists of entries, each in table order, into one (R6). -/
def mergeTubes : List TubeEntry → List TubeEntry → List TubeEntry
  | [], ys => ys
  | x :: xs, ys =>
    ys.takeWhile (fun y => y.pos.before x.pos) ++ x :: mergeTubes xs
      (ys.dropWhile fun y => y.pos.before x.pos)

/-- The table and the counters with the run of a DEFINE_TUBES applied (R6). -/
def defineRun (x : Session) (row col1 col2 cls : Nat) (cond : Condition) : Session :=
  let run := inRun row col1 col2
  let fresh := (runOf row col1 col2).map fun p => newTube p cls cond x.seconds
  let state : TubeState := match cond with
    | .inService => .pending
    | .plugged => .plugged
  { x with
    tubes := mergeTubes (x.tubes.filter fun t => !run t.pos) fresh
    counts := (x.counts.drop (x.tubes.filter fun t => run t.pos)).add state fresh.length }

/-- DEFINE_TUBES (R5, R6). -/
def execDefineTubes (st : Stn) (tag row col1 col2 cls : Nat) (cond : Condition) (s : State) :
    Host.Outcome State Fault Refusal :=
  s.editRequest st tag (.defineTubes row col1 col2 cls cond) (goodTubes row col1 col2 cls)
    fun s x =>
      let n := x.tubes.length
      let old := (x.tubes.filter fun t => inRun row col1 col2 t.pos).length
      let k := (runOf row col1 col2).length - old
      if Config.tableCapacity < n + k then (s, ⟨.tableFull, .tableFull n⟩)
      else
        (s.modSession fun x => defineRun x row col1 col2 cls cond,
         .ok (.tubesDefined k old (n + k)))

/-- REMOVE_TUBES (R7). -/
def execRemoveTubes (st : Stn) (tag row col1 col2 : Nat) (s : State) :
    Host.Outcome State Fault Refusal :=
  s.editRequest st tag (.removeTubes row col1 col2) (goodRun row col1 col2) fun s x =>
    let gone := x.tubes.filter fun t => inRun row col1 col2 t.pos
    (s.modSession fun x =>
      { x with tubes := x.tubes.filter fun t => !inRun row col1 col2 t.pos
               counts := x.counts.drop gone },
     .ok (.tubesRemoved gone.length (x.tubes.length - gone.length)))

/-! Limits, mode and lock (R8 to R12). -/

/-- SET_LIMITS (R9): each value present is clamped, and the response carries all nine limits. -/
def execSetLimits (st : Stn) (tag : Nat) (v : LimitArgs) (s : State) :
    Host.Outcome State Fault Refusal :=
  s.editRequest st tag (.setLimits v) true fun s x =>
    let l := x.plan.limits.apply v
    (s.modPlan fun p => { p with limits := l }, .ok (.limits l (x.plan.limits.appliedFlags v)))

/-- SET_SECOND_OPINION (R10). -/
def execSetSecondOpinion (st : Stn) (tag : Nat) (mode : Mode) (s : State) :
    Host.Outcome State Fault Refusal :=
  s.editRequest st tag (.setSecondOpinion mode) true fun s _ =>
    (s.modPlan fun p => { p with mode := mode }, .ok (.mode mode))

/-- The first condition of LOCK_PLAN that fails (R11). -/
def State.lockFailure (s : State) : Option LockFailure :=
  match s.session with
  | none => some .session
  | some x =>
    if x.tubes = [] then some .noTubes
    else
      match x.tubes.find? fun t => (s.geometry? t.cls).isNone with
      | some t => some (.undefinedClass t.pos t.cls)
      | none =>
        if s.config.shadow.standards.any (·.isSome) then none else some .noStandard

/-- LOCK_PLAN (R11, R12): a locked plan answers OK; otherwise the conditions are tested in order. -/
def execLockPlan (st : Stn) (tag : Nat) (s : State) : Host.Outcome State Fault Refusal :=
  s.leadRequest st tag .lockPlan fun s =>
    if s.planLocked then (s, .ok .none)
    else
      match s.lockFailure with
      | some r => (s, ⟨.planIncomplete, .lockFailure r⟩)
      | none => ((s.modPlan fun p => { p with locked := true }).refreshPermits, .ok .none)

/-! Windows and exclusions (R13, R14). -/

/-- SET_WINDOW (R13). -/
def execSetWindow (st : Stn) (tag ch : Nat) (w : Rect) (s : State) :
    Host.Outcome State Fault Refusal :=
  s.leadRequest st tag (.setWindow ch w) fun s =>
    s.withSession fun _ =>
      match chanOf ch, rectOrdered w with
      | some c, true =>
        (s.modPlan fun p => { p with windows := p.windows.set c (clampRect w) },
         .ok (.window ch (clampRect w)))
      | _, _ => (s, .refuse .badArgument)

/-- SET_EXCLUSIONS (R14). -/
def execSetExclusions (st : Stn) (tag : Nat) (complement : Bool) (rects : List Rect) (s : State) :
    Host.Outcome State Fault Refusal :=
  s.leadRequest st tag (.setExclusions complement rects) fun s =>
    s.withSession fun _ =>
      if rects.length ≤ Config.maxRects ∧ rects.all rectOrdered = true then
        let e : Exclusions := ⟨complement, rects.map clampRect⟩
        (s.modPlan fun p => { p with exclusions := e }, .ok (.exclusions e))
      else (s, .refuse .badArgument)

/-! DEFINE_STANDARD (R121). -/

/-- DEFINE_STANDARD (R121): WRONG_ROLE, PLAN_LOCKED, BAD_ARGUMENT; nothing is clamped. -/
def execDefineStandard (st : Stn) (tag id : Nat) (depths : List Nat) (freq threshold : Nat)
    (s : State) : Host.Outcome State Fault Refusal :=
  s.leadRequest st tag (.defineStandard id depths freq threshold) fun s =>
    let x : Standard := ⟨depths, freq, threshold⟩
    if s.planLocked then (s, .refuse .planLocked)
    else if id ≤ 7 ∧ x.good = true then
      (s.modConfig fun c =>
        { c with shadow := { c.shadow with standards := c.shadow.standards.set id (some x) } },
       .ok (.standard x))
    else (s, .refuse .badArgument)

end Sys2Proof.Machine
end

