-- ==== Sys2Proof/Machine/ProbeFrames.lean ====
section
/-! DEFINITION. The meanings of the frames of a probe unit (chapter 3, and the claim check of
chapter 2). -/

namespace Sys2Proof.Machine

/-! HELLO, IDLE and discarded frames. -/

/-- HELLO (R45, R46, R61): a HELLO on an up link is a loss of the link and a HELLO on the OFFLINE
link, in one act. -/
def execHello (ch : Chan) (id : Identity) (s : State) : Host.Outcome State Fault Refusal :=
  s.act fun s =>
    let s1 := if (s.chan ch).state = .offline then s else s.loseLink ch
    s1.linkUp ch id

/-- IDLE (R44): it restarts the link-silence timer and does nothing else. -/
def execProbeIdle (ch : Chan) (s : State) : Host.Outcome State Fault Refusal :=
  s.probeFrame ch id

/-- A frame that is not valid (R42): it has no effect on the channel or on the silence timer. -/
def execProbeFrameDiscarded (_ch : Chan) (_frame : List Byte) (s : State) :
    Host.Outcome State Fault Refusal :=
  s.act fun s => s

/-! Claims (R22 to R26, R50). -/

/-- CLAIM taken on an up link (R22, R24, R50): granted, or answered with the reason of the first
check that fails. -/
def State.takeClaim (s : State) (ch : Chan) (row col : Nat) : State :=
  match s.claimRefusal ch ⟨row, col⟩ with
  | some r => s.sendProbe ch (.claimReply (some r) row col)
  | none => s.grantClaim ch ⟨row, col⟩

/-- CLAIM (R22, R50). -/
def execClaim (ch : Chan) (row col : Nat) (s : State) : Host.Outcome State Fault Refusal :=
  s.probeFrame ch fun s => s.takeClaim ch row col

/-- Ends the claim of a channel and brings the channel to rest (R26). -/
def State.endClaimAndRest (s : State) (ch : Chan) (restriction : Bool) : State :=
  let s1 := s.endClaim ch restriction
  s1.moveChan ch (s1.restState ch)

/-- RELEASE_CLAIM (R26, R50): it ends the claim of a channel in CLAIMED and is ignored elsewhere. -/
def execReleaseClaim (ch : Chan) (s : State) : Host.Outcome State Fault Refusal :=
  s.probeFrame ch fun s =>
    match (s.chan ch).state with
    | .claimed => s.endClaimAndRest ch false
    | .offline | .needsCal | .ready | .due | .recording | .paused | .calibrating | .evaluating => s

/-! Pulls (R51 to R55). -/

/-- PULL_START taken on an up link (R51). -/
def State.takePullStart (s : State) (ch : Chan) : State :=
  match (s.chan ch).state with
  | .claimed =>
    match (s.chan ch).claim with
    | some p => s.beginPull ch p
    | none => s.sendProbe ch (.pullReply false (some .noClaim) 0)
  | .recording | .paused => s.sendProbe ch (.pullReply false (some .channelBusy) 0)
  | .offline | .needsCal | .ready | .due | .calibrating | .evaluating =>
    s.sendProbe ch (.pullReply false (some .noClaim) 0)

/-- PULL_START (R29, R51). -/
def execPullStart (ch : Chan) (s : State) : Host.Outcome State Fault Refusal :=
  s.probeFrame ch fun s => s.takePullStart ch

/-- The traverse in hand of a channel while it takes samples (R62): the channel is in RECORDING or
CALIBRATING and the traverse is RECORDING. -/
def State.sampling (s : State) (ch : Chan) : Option Traverse :=
  match (s.chan ch).state with
  | .recording | .calibrating =>
    match s.inHand? ch with
    | some t => if t.state = .recording then some t else none
    | none => none
  | .offline | .needsCal | .ready | .due | .claimed | .paused | .evaluating => none

/-- SAMPLE (R62 to R64): offered to the traverse in hand, or discarded without count. -/
def execSample (ch : Chan) (seq : Nat) (reading : Reading) (s : State) :
    Host.Outcome State Fault Refusal :=
  s.probeFrame ch fun s =>
    match s.sampling ch with
    | some t => s.offerSample ch t seq reading
    | none => s

/-- PAUSE (R52): taken in RECORDING while the traverse is RECORDING. -/
def execPause (ch : Chan) (s : State) : Host.Outcome State Fault Refusal :=
  s.probeFrame ch fun s =>
    match (s.chan ch).state, s.inHand? ch with
    | .recording, some t =>
      if t.state = .recording then
        let s1 := s.modTrav t.id fun t => { t with state := .paused }
        let s2 := s1.modChan ch fun c => { c with pauseDue := some (s.time + Config.pauseSeconds) }
        s2.moveChan ch .paused
      else s
    | _, _ => s

/-- RESUME (R52): taken in PAUSED; the sequence expectation becomes absent. -/
def execResume (ch : Chan) (s : State) : Host.Outcome State Fault Refusal :=
  s.probeFrame ch fun s =>
    match (s.chan ch).state, s.inHand? ch with
    | .paused, some t =>
      let s1 := s.modTrav t.id fun t => { t with state := .recording }
      let s2 := s1.modChan ch fun c => { c with pauseDue := none, expect := none }
      s2.moveChan ch .recording
    | _, _ => s

/-- PULL_END (R54, R57): the traverse becomes FINISHING; an inspection channel is in RECORDING, a
calibration channel enters EVALUATING. -/
def execPullEnd (ch : Chan) (s : State) : Host.Outcome State Fault Refusal :=
  s.probeFrame ch fun s =>
    match (s.chan ch).state, s.inHand? ch with
    | .recording, some t => if t.state = .recording then s.finishPull ch t.id .recording else s
    | .paused, some t => s.finishPull ch t.id .recording
    | .calibrating, some t => s.finishPull ch t.id .evaluating
    | _, _ => s

/-- ABANDON taken on an up link (R27, R55). -/
def State.takeAbandon (s : State) (ch : Chan) (restriction : Bool) : State :=
  match (s.chan ch).state with
  | .claimed => s.endClaimAndRest ch restriction
  | .recording | .paused => s.abortAndRest ch restriction
  | .calibrating =>
    let s1 := s.abortCalibration ch
    s1.moveChan ch (s1.restState ch)
  | .offline | .needsCal | .ready | .due | .evaluating => s

/-- ABANDON (R55). -/
def execAbandon (ch : Chan) (reason : AbandonReason) (s : State) :
    Host.Outcome State Fault Refusal :=
  s.probeFrame ch fun s => s.takeAbandon ch (reason == .restriction)

/-! Calibration and probe failure. -/

/-- CAL_START taken on an up link (R56, R122). -/
def State.takeCalStart (s : State) (ch : Chan) (std : Nat) : State :=
  match s.calRefusal ch std, s.standard? std with
  | some r, _ => s.sendProbe ch (.pullReply true (some r) 0)
  | none, some x => s.beginCalibration ch std x
  | none, none => s.sendProbe ch (.pullReply true (some .noSuchStandard) 0)

/-- CAL_START (R56, R122). -/
def execCalStart (ch : Chan) (std : Nat) (s : State) : Host.Outcome State Fault Refusal :=
  s.probeFrame ch fun s => s.takeCalStart ch std

/-- PROBE_FAILED (R60). -/
def execProbeFailed (ch : Chan) (s : State) : Host.Outcome State Fault Refusal :=
  s.probeFrame ch fun s => s.failProbe ch

end Sys2Proof.Machine
end

