-- ==== Sys2Proof/Machine/ProbeTimers.lean ====
section
/-! DEFINITION. The meanings of the timers of a probe channel (R28, R43, R44, R53). -/

namespace Sys2Proof.Machine

/-- PROBE_LINK_LOSS (R44, R59): 500 ms have passed on an up link without a valid frame (log entry
15). On an OFFLINE link the timer does not run. -/
def execProbeLinkLoss (ch : Chan) (s : State) : Host.Outcome State Fault Refusal :=
  s.act fun s => if (s.chan ch).state = .offline then s else s.loseLink ch

/-- PROBE_IDLE_SEND (R43): 100 ms have passed on an up link without a sent frame (log entry 15). -/
def execProbeIdleSend (ch : Chan) (s : State) : Host.Outcome State Fault Refusal :=
  s.act fun s => s.sendProbe ch .idle

/-- CLAIM_EXPIRY (R28): at session time grant + 600 the claim of a channel in CLAIMED ends as a
release. Before that time, and with no timer running, there is no expiry (log entry 14). -/
def execClaimExpiry (ch : Chan) (s : State) : Host.Outcome State Fault Refusal :=
  s.act fun s =>
    if (s.chan ch).state = .claimed ∧ s.reached (s.chan ch).claimDue = true then
      let s1 := s.endClaim ch false
      s1.moveChan ch (s1.restState ch)
    else s

/-- PAUSE_EXPIRY (R53): at session time pause + 300 the pull of a channel in PAUSED is aborted. -/
def execPauseExpiry (ch : Chan) (s : State) : Host.Outcome State Fault Refusal :=
  s.act fun s =>
    if (s.chan ch).state = .paused ∧ s.reached (s.chan ch).pauseDue = true then
      s.abortAndRest ch false
    else s

end Sys2Proof.Machine
end

