-- ==== Sys2Proof/Machine/ReadRequests.lean ====
section
/-! DEFINITION. The meanings of the requests that read (R39 to R41, R66, R88, R143, R144, R172, R181,
R183, R187). -/

namespace Sys2Proof.Machine

/-! READ_STATUS (R183). -/

/-- What READ_STATUS gives of a channel. -/
def Channel.status (c : Channel) : ChannelStatus :=
  { state := c.state, permit := if c.state = .offline then none else c.permit }

/-- The content of a READ_STATUS response (R183). -/
def State.statusReport (s : State) (st : Stn) : StatusReport :=
  { clock := s.session.map fun x => (x.seconds, x.base)
    locked := s.session.map (·.plan.locked)
    counts := s.session.map (·.counts)
    freePages := s.freePages
    reservedPages := s.store.reservedPages
    reservedSlots := s.store.reservedSlots
    live := s.live
    logEntries := s.cal.log.length
    openBrackets := (s.cal.brackets.filter fun b => b.state == .opened).length
    channels := ⟨s.channels.c0.status, s.channels.c1.status, s.channels.c2.status,
      s.channels.c3.status⟩
    links := ⟨s.stations.s0.link, s.stations.s1.link, s.stations.s2.link⟩
    config := s.config.status
    saving := s.config.save != .idle
    role := (s.stn st).role
    eventsLost := (s.stn st).eventsLost }

/-- READ_STATUS (R183): the picture of the part, and then the caller's EVENTS_LOST is cleared. -/
def execReadStatus (st : Stn) (tag : Nat) (s : State) : Host.Outcome State Fault Refusal :=
  s.request st tag .readStatus fun s =>
    (s.modStn st fun x => { x with eventsLost := false }, .ok (.status (s.statusReport st)))

/-! GET_EVENTS (R180, R181). -/

/-- Takes the oldest records out of an event queue; the attention line falls when it is left empty. -/
def StationLink.takeEvents (x : StationLink) (count : Nat) : StationLink :=
  let left := x.events.drop count
  { x with events := left, attn := !left.isEmpty }

/-- GET_EVENTS (R181). -/
def execGetEvents (st : Stn) (tag count : Nat) (s : State) : Host.Outcome State Fault Refusal :=
  s.request st tag (.getEvents count) fun s =>
    if within 1 16 count then
      let x := s.stn st
      (s.modStn st fun x => x.takeEvents count,
       .ok (.events (x.events.take count) (x.events.length - count) x.eventsLost))
    else (s, .refuse .badArgument)

/-! READ_PAGES (R172). -/

/-- The traverse a READ_PAGES may register with (R86): live, and its release not pending. -/
def State.readable (s : State) (id : Nat) : Option Traverse :=
  match s.trav? id with
  | none => none
  | some t => if t.releasePending then none else some t

/-- The execution of a READ_PAGES (R172): refused with a RESPONSE, or a stream that registers and makes
its first fetch request at once. -/
def State.runReadPages (s : State) (st : Stn) (tag traverse first count : Nat) : State :=
  let refuse := fun r : Status => s.respond st tag 21 (.refuse r)
  if s.session.isNone then refuse .noSession
  else if goodPages first count = false then refuse .badArgument
  else
    match s.readable traverse with
    | none => refuse .noSuchTraverse
    | some _ =>
      ((s.register traverse).modStn st fun x =>
        { x with stream := some (newStream tag traverse first count) }).pump st

/-- READ_PAGES (R172). -/
def execReadPages (st : Stn) (tag traverse first count : Nat) (s : State) :
    Host.Outcome State Fault Refusal :=
  s.takeRequest st tag (.readPages traverse first count) fun s =>
    s.runReadPages st tag traverse first count

/-! READ_TUBE and SCAN_TUBES (R39 to R41). -/

/-- READ_TUBE (R39). -/
def execReadTube (st : Stn) (tag row col : Nat) (s : State) : Host.Outcome State Fault Refusal :=
  s.request st tag (.readTube row col) fun s =>
    s.withSession fun _ => s.withTube ⟨row, col⟩ fun t => (s, .ok (.tube t (s.geometry? t.cls)))

/-- The entries from a position on, in table order (R41). -/
def State.tubesFrom (s : State) (p : Pos) : List TubeEntry :=
  s.tubes.dropWhile fun t => t.pos.before p

/-- The entries a scan returns (R41). -/
def scanHits (tubes : List TubeEntry) (states : List TubeState) (count : Nat) : List TubeEntry :=
  (tubes.filter fun t => states.contains t.state).take count

/-- The continuation of a scan (R41): the position after the last returned entry when the scan stopped
on its count before the last defined position, otherwise absent. -/
def scanNext (tubes hits : List TubeEntry) (count : Nat) : Option Pos :=
  match hits.getLast?, tubes.getLast? with
  | some h, some l => if hits.length = count ∧ h.pos ≠ l.pos then h.pos.next else none
  | _, _ => none

/-- SCAN_TUBES (R40, R41). -/
def execScanTubes (st : Stn) (tag row col : Nat) (states : List TubeState) (count : Nat)
    (s : State) : Host.Outcome State Fault Refusal :=
  s.request st tag (.scanTubes row col states count) fun s =>
    s.withSession fun _ =>
      if goodScan row col states count then
        let tubes := s.tubesFrom ⟨row, col⟩
        let hits := scanHits tubes states count
        (s, .ok (.tubes hits (scanNext tubes hits count)))
      else (s, .refuse .badArgument)

/-! READ_TRAVERSE (R88). -/

/-- The two window counts that READ_TRAVERSE carries in place of absent lists, as the trailer counts them
without saturation (R88): of a traverse in RECORDING, PAUSED or FINISHING those so far, and of one aborted
before finalisation those of the last page handed over, which its trailer keeps (R65, R107; log entry 8). -/
def Traverse.windowCounts (t : Traverse) : Option (Nat × Nat) :=
  if t.landmarks.isNone then some (t.opened, t.closed) else none

/-- The content of a READ_TRAVERSE response (R88): the page list gives way to its length, and the window
counts stand in for absent lists. -/
def Traverse.report (t : Traverse) : TraverseReport :=
  { entry := { t with pages := [] }
    pageCount := t.pages.length
    soFar := t.windowCounts }

/-- READ_TRAVERSE (R88). -/
def execReadTraverse (st : Stn) (tag traverse : Nat) (s : State) :
    Host.Outcome State Fault Refusal :=
  s.request st tag (.readTraverse traverse) fun s =>
    s.withSession fun _ =>
      match s.trav? traverse with
      | none => (s, .refuse .noSuchTraverse)
      | some t => (s, .ok (.traverse t.report))

/-! READ_CHANNEL (R66). -/

/-- The seconds left to a time of the session clock. -/
def State.left (s : State) (due : Option Nat) : Option Nat := due.map (· - s.time)

/-- What READ_CHANNEL gives of a traverse in hand (R66). -/
def Traverse.inHand (t : Traverse) : TraverseInHand :=
  { id := t.id, kind := t.target.kind, state := t.state, stored := t.stored, lost := t.lost }

/-- The content of a READ_CHANNEL response (R66). -/
def State.channelReport (s : State) (ch : Chan) : ChannelReport :=
  let c := s.chan ch
  { state := c.state
    permit := if c.state = .offline then none else c.permit
    identity := c.identity
    claim := c.claim
    claimLeft := s.left c.claimDue
    traverse := (s.inHand? ch).map Traverse.inHand
    pauseLeft := s.left c.pauseDue
    evaluation := (s.evaluationInHand ch).isSome
    linkLossMark := c.linkLossMark
    bufA := (c.bufA.state, c.bufA.samples.length)
    bufB := (c.bufB.state, c.bufB.samples.length)
    bracket := (s.openBracket ch).map fun b => (b.number, b.calDue)
    window := s.session.map fun x => x.plan.windows.get ch }

/-- READ_CHANNEL (R66). -/
def execReadChannel (st : Stn) (tag ch : Nat) (s : State) : Host.Outcome State Fault Refusal :=
  s.request st tag (.readChannel ch) fun s =>
    match chanOf ch with
    | none => (s, .refuse .badArgument)
    | some c => (s, .ok (.channel (s.channelReport c)))

/-! READ_CAL_LOG and READ_BRACKET (R143, R144). -/

/-- READ_CAL_LOG (R143). -/
def execReadCalLog (st : Stn) (tag first : Nat) (s : State) : Host.Outcome State Fault Refusal :=
  s.request st tag (.readCalLog first) fun s =>
    s.withSession fun _ =>
      if first = 0 then (s, .refuse .badArgument)
      else
        (s, .ok (.calLog ((s.cal.log.filter fun e => decide (first ≤ e.number)).take 16)
          s.cal.log.length))

/-- The seconds left to the age limit of a bracket, while it is OPEN with cal_due clear (R144). -/
def State.ageLeft (s : State) (b : Bracket) : Option Nat :=
  if b.state = .opened ∧ b.calDue = none then some (b.ageDue s.limits - s.time) else none

/-- READ_BRACKET (R144): a number is known if it is one of the brackets opened in the session. -/
def execReadBracket (st : Stn) (tag number : Nat) (s : State) : Host.Outcome State Fault Refusal :=
  s.request st tag (.readBracket number) fun s =>
    s.withSession fun _ =>
      match s.bracket? number with
      | none => (s, .refuse .badArgument)
      | some b =>
        let e := s.logEntry? b.openingLog
        (s, .ok (.bracket { b with toPresent := [] } (s.ageLeft b) ((e.map (·.rho)).getD 0)
          ((e.map (·.aRef)).getD 0)))

/-! READ_CONFIG (R187). -/

/-- The current step of a running save (R187). -/
def Save.step? : Save → Option SaveStep
  | .idle => none
  | .running _ step _ => some step

/-- READ_CONFIG (R187). -/
def execReadConfig (st : Stn) (tag : Nat) (s : State) : Host.Outcome State Fault Refusal :=
  s.request st tag .readConfig fun s =>
    let c := s.config
    (s, .ok (.config ⟨c.shadow, c.status, c.save.step?, c.lastSave, c.cfgProtect⟩))

end Sys2Proof.Machine
end

