-- ==== Sys2Proof/Machine/ResetEvents.lean ====
section
/-! DEFINITION. The meanings of the reset and start-up commands (R184 to R186). -/

namespace Sys2Proof.Machine

/-- POWER_ON_RESET (R184): every block takes its power-on reset state and stays in it while RESET_N is
low; a save in progress is cut off without CONFIG_SAVED. The two memories keep their contents and the
pin CFG_PROTECT its level (log entry 13). The standards stay in the shadow (R142) until the start-up load
that follows replaces them (R120, R121, R186; log entry 44); the rest of the shadow ends (R187). -/
def execPowerOnReset (s : State) : Host.Outcome State Fault Refusal :=
  .next { State.reset with
    pending := s.pending
    store := { Store.reset with ddr := s.store.ddr }
    config := { ConfigMem.reset with
      cfgProtect := s.config.cfgProtect, flash := s.config.flash
      shadow := { ConfigMem.reset.shadow with standards := s.config.shadow.standards } } }

/-- RESET_RELEASE (R184): RESET_N rises and the controller enters LOADING. With RESET_N already high
nothing rises and nothing changes (log entry 14). -/
def execResetRelease (s : State) : Host.Outcome State Fault Refusal :=
  if s.config.phase = .inReset then
    .next { s with config := { s.config with phase := .loading } }
  else .next s

/-- STARTUP_READ_END (R185, R186): the image read from the flash is tested, the shadow is loaded or
defaulted, the controller enters READY and the stations take their roles. Outside LOADING no start-up
read runs (log entry 14). -/
def execStartupReadEnd (upset : List Host.Cell) (s : State) : Host.Outcome State Fault Refusal :=
  if s.config.phase = .loading then
    .next (s.endLoading (overlay upset s.config.flashImage))
  else .next s

end Sys2Proof.Machine
end

