-- ==== Sys2Proof/Machine/SaveEvents.lean ====
section
/-! DEFINITION. The meanings of the arrivals that a running save takes, and of the pin CFG_PROTECT
(R189, R190). -/

namespace Sys2Proof.Machine

/-- SAVE_COMMAND_END (R189). With no save running no command ends (log entry 14). -/
def execSaveCommandEnd (shown : Bool) (upset : List Host.Cell) (s : State) :
    Host.Outcome State Fault Refusal :=
  s.act fun s => s.saveCommandEnd shown upset

/-- ERASE_TIMEOUT (R189): the flash is still busy 5 s after the end of the erase (log entry 15). -/
def execEraseTimeout (s : State) : Host.Outcome State Fault Refusal :=
  s.act State.eraseTimedOut

/-- PROGRAM_TIMEOUT (R189): the flash is still busy 5 s after the end of a program (log entry 15). -/
def execProgramTimeout (s : State) : Host.Outcome State Fault Refusal :=
  s.act State.programTimedOut

/-- CFG_PROTECT_RISE (R190): the pin is high, and the test before the next write enable of a running save
ends that save, though the pin fall before it (log entry 47). The pin moves whatever RESET_N is. -/
def execCfgProtectRise (s : State) : Host.Outcome State Fault Refusal :=
  .next (s.modConfig fun x => { x with cfgProtect := true, protectRose := true })

/-- CFG_PROTECT_FALL (R190): the pin is low, with no effect on a running save: a rise that came during it
stays (log entry 47). -/
def execCfgProtectFall (s : State) : Host.Outcome State Fault Refusal :=
  .next (s.modConfig fun x => { x with cfgProtect := false })

end Sys2Proof.Machine
end

