-- ==== Sys2Proof/Machine/StationEvents.lean ====
section
/-! DEFINITION. The meanings of the frames, timers and send ends of a station link (chapter 9). -/

namespace Sys2Proof.Machine

/-- STATION_REQUEST_FRAME (R166, R169): the request is queued, answered QUEUE_FULL, or left
unanswered. -/
def execStationRequestFrame (st : Stn) (tag : Nat) (req : Request) (s : State) :
    Host.Outcome State Fault Refusal :=
  s.act fun s => s.arrive st ⟨tag, req⟩

/-- ABORT_STREAM (R166, R176): acted on as it arrives; without effect on an IDLE read port. -/
def execAbortStream (st : Stn) (s : State) : Host.Outcome State Fault Refusal :=
  s.act fun s => (s.stationFrame st).abortStream st

/-- IDLE (R166): it brings the link UP and restarts the silence timer. -/
def execStationIdle (st : Stn) (s : State) : Host.Outcome State Fault Refusal :=
  s.act fun s => s.stationFrame st

/-- A frame that is not valid (R165): without reply and without effect. -/
def execStationFrameDiscarded (_st : Stn) (_frame : List Byte) (s : State) :
    Host.Outcome State Fault Refusal :=
  s.act fun s => s

/-- STATION_LINK_LOSS (R166, R167): 2 s have passed on an UP link without a valid frame (log entry
15). On a DOWN link the timer does not run. -/
def execStationLinkLoss (st : Stn) (s : State) : Host.Outcome State Fault Refusal :=
  s.act fun s => if (s.stn st).link = .up then s.loseStation st else s

/-- STATION_IDLE_SEND (R166, R170): 500 ms have passed on an UP link without a sent frame (log entry
15). A line that is sending a frame sends no IDLE. -/
def execStationIdleSend (st : Stn) (s : State) : Host.Outcome State Fault Refusal :=
  s.act fun s =>
    if (s.stn st).link = .up ∧ (s.stn st).line = none then s.modStn st fun x => x.put .idle else s

/-- FRAME_SEND_END (R169, R170): the send of a frame other than PAGE_DATA ends. -/
def execFrameSendEnd (st : Stn) (s : State) : Host.Outcome State Fault Refusal :=
  s.act fun s =>
    match (s.stn st).line with
    | none | some (.pageData _ _ _) => s
    | some f => s.modStn st fun x => x.frameSent f

/-- PAGE_SEND_END (R173, R174): the send of a PAGE_DATA frame ends. -/
def execPageSendEnd (st : Stn) (s : State) : Host.Outcome State Fault Refusal :=
  s.act fun s =>
    match (s.stn st).line with
    | some (.pageData t q b) => (s.modStn st fun x => x.pageSent (.pageData t q b)).pump st
    | _ => s

/-- UNREADABLE_REQUEST (R165): answered BAD_ARGUMENT with no further check and no effect. -/
def execUnreadableRequest (st : Stn) (tag name : Nat) (s : State) :
    Host.Outcome State Fault Refusal :=
  s.request st tag (.unreadable name) fun s => (s, .refuse .badArgument)

end Sys2Proof.Machine
end

