-- ==== Sys2Proof/Machine/StoreEvents.lean ====
section
/-! DEFINITION. The meanings of the ends of the store port's transfers (R64, R71, R72, R81, R84,
R87). -/

namespace Sys2Proof.Machine

/-- The address of a page in the DDR store: page numbers count blocks of 2,048 bytes (R74, R197). -/
def pageAddress (page : Nat) : Nat := page * Config.pageBytes

/-- The channel's part of the end of a write (R64, R81): the buffer becomes free, and a held buffer is
handed over at once. -/
def State.freeBuffer (s : State) (ch : Chan) (i : BufId) : State :=
  let s1 := s.modChan ch fun c => c.modBuf i fun _ => PageBuffer.empty
  if ((s1.chan ch).buf i.other).state = .held then s1.handOver ch i.other false false else s1

/-- The end of a page write (R81): the page is in the store, pages written rise and pages in write
fall, and the buffer and the port become free. The traverse may then complete (R71), report its abort
ended (R72) or be released (R84). -/
def State.writeEnded (s : State) (ch : Chan) (i : BufId) (traverse : Option Nat) (page : Nat)
    (bytes : List Byte) : State :=
  let s1 := s.modStore fun x =>
    { x with port := .free
             ddr := Memory.writeBlock Config.ddrUnwritten x.ddr (pageAddress page) bytes }
  match traverse with
  | none => (s1.freeBuffer ch i).arbitrate
  | some id =>
    let s2 := s1.modTrav id fun t => { t with written := t.written + 1, inWrite := t.inWrite - 1 }
    ((((s2.freeBuffer ch i).arbitrate).tryComplete id).reportAbort id).testRelease id

/-- PAGE_WRITE_END (R81). With no write on the store port nothing ends (log entry 14). -/
def execPageWriteEnd (s : State) : Host.Outcome State Fault Refusal :=
  if s.config.phase = .inReset then .next s
  else
    match s.store.port with
    | .write ch i traverse page bytes =>
      if Config.storePages ≤ page then .fault (.noSuchPage page)
      else .next (s.writeEnded ch i traverse page bytes)
    | .free | .fetch _ _ _ _ => .next s

/-- The 2,048 bytes of a store page. -/
def State.pageContents (s : State) (page : Nat) : List Byte :=
  Memory.readBlock Config.ddrUnwritten s.store.ddr (pageAddress page) Config.pageBytes

/-- What the end of a fetch brings a read port (R87, R173, R175): the page if its CRC agrees, and the
ending DATA_ERROR otherwise. -/
def Stream.fetched (r : Stream) (page seq : Nat) (bytes : List Byte) : Stream :=
  if crcGood bytes then { r with fetch := .full bytes }
  else { r with fetch := .empty, ending := some (.dataError seq page) }

/-- The end of a page fetch (R78, R87): the port becomes free, and a page that is still wanted is
checked and delivered. -/
def State.fetchEnded (s : State) (st : Stn) (page seq : Nat) (deliver : Bool) (bytes : List Byte) :
    State :=
  let s1 := s.modStore fun x => { x with port := .free }
  if deliver then ((s1.modStream st fun r => r.fetched page seq bytes).pump st).arbitrate
  else s1.arbitrate

/-- FETCH_END (R87): `upset` lists the bytes the store returns otherwise (log entry 5). With no fetch
on the store port nothing ends (log entry 14). -/
def execFetchEnd (upset : List Host.Cell) (s : State) : Host.Outcome State Fault Refusal :=
  if s.config.phase = .inReset then .next s
  else
    match s.store.port with
    | .fetch st page seq deliver =>
      if Config.storePages ≤ page then .fault (.noSuchPage page)
      else .next (s.fetchEnded st page seq deliver (overlay upset (s.pageContents page)))
    | .free | .write _ _ _ _ _ => .next s

end Sys2Proof.Machine
end

