-- ==== Sys2Proof/Machine/TubeRequests.lean ====
section
/-! DEFINITION. The meanings of the requests on tubes, calls and traverses (chapters 2, 4, 8 and
R171). -/

namespace Sys2Proof.Machine

/-! REQUEST_RETEST and CONFIRM_PLUG (R35 to R38). -/

/-- The answer to an accepted REQUEST_RETEST: the tube as it stands after it (R35). -/
def State.retestReply (s : State) (p : Pos) : Reply :=
  match s.tube? p with
  | none => .refuse .noSuchTube
  | some t => .ok (.retest t.state t.cause t.attempts)

/-- REQUEST_RETEST on a defined tube, by its state (R35, R36); the invalidation of R36 stands before its
TUBE_RETEST (log entry 21). The lock of the plan is not asked: a PENDING tube goes to RETEST under an
unlocked plan too, where R6 has only PENDING and PLUGGED ones (the model's choice, log entry 45). -/
def State.leadRetest (s : State) (t : TubeEntry) (reset : Bool) : State × Reply :=
  match t.state with
  | .claimed => (s, .refuse .tubeBusy)
  | .plugged => (s, .refuse .wrongState)
  | .pending | .retest | .restricted =>
    let s1 := if reset then s.retestTube t.pos .lead true none else s
    (s1, s1.retestReply t.pos)
  | .acquired | .resolution | .final | .plugRecommended =>
    let s1 := s.retestTube t.pos .lead reset t.traverse
    (s1, s1.retestReply t.pos)

/-- REQUEST_RETEST (R35, R36). -/
def execRequestRetest (st : Stn) (tag row col : Nat) (reset : Bool) (s : State) :
    Host.Outcome State Fault Refusal :=
  s.leadRequest st tag (.requestRetest row col reset) fun s =>
    s.withSession fun _ => s.withTube ⟨row, col⟩ fun t => s.leadRetest t reset

/-- CONFIRM_PLUG (R34, R38). -/
def execConfirmPlug (st : Stn) (tag row col : Nat) (s : State) :
    Host.Outcome State Fault Refusal :=
  s.leadRequest st tag (.confirmPlug row col) fun s =>
    s.withSession fun _ => s.withTube ⟨row, col⟩ fun t =>
      if t.state = .final ∨ t.state = .plugRecommended then
        let s1 := s.moveTube t.pos .plugged id
        let s2 := match t.traverse with
          | none => s1
          | some id => s1.settle id
        (s2, .ok (.tubeState t.pos .plugged))
      else (s, .refuse .wrongState)

/-! SUBMIT_FINAL (R161, R162). -/

/-- SUBMIT_FINAL (R161, R162). -/
def execSubmitFinal (st : Stn) (tag row col traverse : Nat) (call : SubmittedCall) (s : State) :
    Host.Outcome State Fault Refusal :=
  s.leadRequest st tag (.submitFinal row col traverse call) fun s =>
    s.withSession fun x =>
      if goodCall call = false ∨ call.kind = .retestRequired then (s, .refuse .badArgument)
      else
        s.withTube ⟨row, col⟩ fun t =>
          if t.state ≠ .resolution then (s, .refuse .wrongState)
          else if t.traverse ≠ some traverse then (s, .refuse .staleTraverse)
          else
            let c := acceptCall call .lead x.seconds traverse
            (s.decideTube t.pos c,
             .ok (.tubeState t.pos (decidedState s.limits.plug c.kind c.entries)))

/-! MARK_ARCHIVED (R82). -/

/-- The outcome of a MARK_ARCHIVED, read off the traverse after R84 was applied (R82). -/
def State.archiveOutcome (s : State) (id : Nat) : ArchiveOutcome :=
  match s.trav? id with
  | none => .released
  | some t => if t.settled then .pending else .kept

/-- MARK_ARCHIVED (R82). A traverse archived already is answered OK with the outcome as it stands. -/
def execMarkArchived (st : Stn) (tag traverse : Nat) (s : State) :
    Host.Outcome State Fault Refusal :=
  s.leadRequest st tag (.markArchived traverse) fun s =>
    s.withSession fun _ =>
      match s.trav? traverse with
      | none => (s, .refuse .noSuchTraverse)
      | some t =>
        match t.state with
        | .recording | .paused | .finishing => (s, .refuse .traverseBusy)
        | .complete | .aborted | .invalidated =>
          let s1 :=
            if t.archived then s
            else (s.modTrav traverse fun t => { t with archived := true }).testRelease traverse
          (s1, .ok (.archived traverse (s1.archiveOutcome traverse)))

/-! DECLARE_PROBE_FAILED (R171). -/

/-- DECLARE_PROBE_FAILED (R60, R171). -/
def execDeclareProbeFailed (st : Stn) (tag ch : Nat) (s : State) :
    Host.Outcome State Fault Refusal :=
  s.leadRequest st tag (.declareProbeFailed ch) fun s =>
    match chanOf ch with
    | none => (s, .refuse .badArgument)
    | some c =>
      let closed := (s.openBracket c).map (·.number)
      let s1 := s.failProbe c
      (s1, .ok (.probeFailed (s1.chan c).state closed))

/-! SUBMIT_CALL (R147 to R152). -/

/-- A tube entry with a call of a role in place (R149). -/
def TubeEntry.withCall (t : TubeEntry) (role : Role) (c : Call) : TubeEntry :=
  match role with
  | .primary => { t with primary := some c }
  | .secondary => { t with secondary := some c }
  | .lead => t

/-- The call a tube holds from a role (R149). -/
def TubeEntry.callOf (t : TubeEntry) : Role → Option Call
  | .primary => t.primary
  | .secondary => t.secondary
  | .lead => none

/-- The source of a call submitted by a role (R145). -/
def sourceOf : Role → CallSource
  | .primary => .primary
  | .secondary => .secondary
  | .lead => .lead

/-- The comparison status where no comparison starts (R149): the first of the list whose condition
holds. -/
def State.waitStatus (s : State) (t : TubeEntry) : CompareStatus :=
  if s.bracketState? t = some .closedFail then .bracketFailed
  else if t.primary.isNone ∨ (s.secondCall t).isNone then .waitingCall
  else .waitingBracket

/-- The comparison side of an accepted call (R149, R151, R152): a comparison in hand of the tube is
abandoned, and a new one begins if the test is met. -/
def State.startComparison (s : State) (p : Pos) : State × CompareStatus :=
  match s.tube? p with
  | none => (s, .waitingCall)
  | some t =>
    match s.comparable t with
    | some c => ((s.dropComparison p).beginComparison c, .started)
    | none => (s, s.waitStatus t)

/-- An accepted SUBMIT_CALL (R149). -/
def State.acceptSubmit (s : State) (role : Role) (t : TubeEntry) (c : Call) : State × Reply :=
  let s1 := s.modTube t.pos fun t => t.withCall role c
  let r := s1.startComparison t.pos
  (r.1, .ok (.callAccepted t.pos c.traverse (t.callOf role).isSome r.2))

/-- The checks of SUBMIT_CALL after the role check, in order (R147). -/
def State.submitCall (s : State) (role : Role) (p : Pos) (traverse : Nat) (call : SubmittedCall) :
    State × Reply :=
  s.withSession fun x =>
    if role = .secondary ∧ x.plan.mode = .automatic then (s, .refuse .roleDisabled)
    else if goodCall call = false then (s, .refuse .badArgument)
    else
      s.withTube p fun t =>
        if t.state ≠ .acquired then (s, .refuse .wrongState)
        else if t.traverse ≠ some traverse then (s, .refuse .staleTraverse)
        else s.acceptSubmit role t (acceptCall call (sourceOf role) x.seconds traverse)

/-- SUBMIT_CALL (R147 to R149): refused with WRONG_ROLE from the lead. -/
def execSubmitCall (st : Stn) (tag row col traverse : Nat) (call : SubmittedCall) (s : State) :
    Host.Outcome State Fault Refusal :=
  s.request st tag (.submitCall row col traverse call) fun s =>
    match (s.stn st).role with
    | some .primary => s.submitCall .primary ⟨row, col⟩ traverse call
    | some .secondary => s.submitCall .secondary ⟨row, col⟩ traverse call
    | some .lead | none => (s, .refuse .wrongRole)

end Sys2Proof.Machine
end

