-- ==== Sys2Proof/Machine/Dispatch.lean ====
section
/-! DEFINITION. The dispatch: one arm for each command, one direct call of its meaning. -/

namespace Sys2Proof.Machine

/-- The effect of a command on everything but the queue of commands. -/
def exec (i : Instr) (s : State) : Host.Outcome State Fault Refusal :=
  match i with
  | .powerOnReset => Sys2Proof.Machine.execPowerOnReset s
  | .resetRelease => Sys2Proof.Machine.execResetRelease s
  | .startupReadEnd upset => Sys2Proof.Machine.execStartupReadEnd upset s
  | .hello ch id => Sys2Proof.Machine.execHello ch id s
  | .probeIdle ch => Sys2Proof.Machine.execProbeIdle ch s
  | .probeFrameDiscarded ch frame => Sys2Proof.Machine.execProbeFrameDiscarded ch frame s
  | .claim ch row col => Sys2Proof.Machine.execClaim ch row col s
  | .releaseClaim ch => Sys2Proof.Machine.execReleaseClaim ch s
  | .pullStart ch => Sys2Proof.Machine.execPullStart ch s
  | .sample ch seq reading => Sys2Proof.Machine.execSample ch seq reading s
  | .pause ch => Sys2Proof.Machine.execPause ch s
  | .resume ch => Sys2Proof.Machine.execResume ch s
  | .pullEnd ch => Sys2Proof.Machine.execPullEnd ch s
  | .abandon ch reason => Sys2Proof.Machine.execAbandon ch reason s
  | .calStart ch std => Sys2Proof.Machine.execCalStart ch std s
  | .probeFailed ch => Sys2Proof.Machine.execProbeFailed ch s
  | .probeLinkLoss ch => Sys2Proof.Machine.execProbeLinkLoss ch s
  | .probeIdleSend ch => Sys2Proof.Machine.execProbeIdleSend ch s
  | .claimExpiry ch => Sys2Proof.Machine.execClaimExpiry ch s
  | .pauseExpiry ch => Sys2Proof.Machine.execPauseExpiry ch s
  | .pageWriteEnd => Sys2Proof.Machine.execPageWriteEnd s
  | .calibrationVerdict ch => Sys2Proof.Machine.execCalibrationVerdict ch s
  | .bracketAgeLimit ch => Sys2Proof.Machine.execBracketAgeLimit ch s
  | .closedFailPresentation bracket => Sys2Proof.Machine.execClosedFailPresentation bracket s
  | .closedGoodHandover bracket => Sys2Proof.Machine.execClosedGoodHandover bracket s
  | .comparisonEnd row col => Sys2Proof.Machine.execComparisonEnd row col s
  | .stationRequestFrame st tag req => Sys2Proof.Machine.execStationRequestFrame st tag req s
  | .abortStream st => Sys2Proof.Machine.execAbortStream st s
  | .stationIdle st => Sys2Proof.Machine.execStationIdle st s
  | .stationFrameDiscarded st frame => Sys2Proof.Machine.execStationFrameDiscarded st frame s
  | .stationLinkLoss st => Sys2Proof.Machine.execStationLinkLoss st s
  | .stationIdleSend st => Sys2Proof.Machine.execStationIdleSend st s
  | .frameSendEnd st => Sys2Proof.Machine.execFrameSendEnd st s
  | .pageSendEnd st => Sys2Proof.Machine.execPageSendEnd st s
  | .fetchEnd upset => Sys2Proof.Machine.execFetchEnd upset s
  | .unreadableRequest st tag name => Sys2Proof.Machine.execUnreadableRequest st tag name s
  | .openSession st tag wall => Sys2Proof.Machine.execOpenSession st tag wall s
  | .closeSession st tag force => Sys2Proof.Machine.execCloseSession st tag force s
  | .saveConfig st tag => Sys2Proof.Machine.execSaveConfig st tag s
  | .saveCommandEnd shown upset => Sys2Proof.Machine.execSaveCommandEnd shown upset s
  | .eraseTimeout => Sys2Proof.Machine.execEraseTimeout s
  | .programTimeout => Sys2Proof.Machine.execProgramTimeout s
  | .cfgProtectRise => Sys2Proof.Machine.execCfgProtectRise s
  | .cfgProtectFall => Sys2Proof.Machine.execCfgProtectFall s
  | .sessionSecondTick => Sys2Proof.Machine.execSessionSecondTick s
  | .defineGeometry st tag cls count length => Sys2Proof.Machine.execDefineGeometry st tag cls count length s
  | .defineTubes st tag row col1 col2 cls cond => Sys2Proof.Machine.execDefineTubes st tag row col1 col2 cls cond s
  | .removeTubes st tag row col1 col2 => Sys2Proof.Machine.execRemoveTubes st tag row col1 col2 s
  | .setLimits st tag v => Sys2Proof.Machine.execSetLimits st tag v s
  | .setSecondOpinion st tag mode => Sys2Proof.Machine.execSetSecondOpinion st tag mode s
  | .lockPlan st tag => Sys2Proof.Machine.execLockPlan st tag s
  | .setWindow st tag ch w => Sys2Proof.Machine.execSetWindow st tag ch w s
  | .setExclusions st tag complement rects => Sys2Proof.Machine.execSetExclusions st tag complement rects s
  | .defineStandard st tag id depths freq threshold => Sys2Proof.Machine.execDefineStandard st tag id depths freq threshold s
  | .requestRetest st tag row col reset => Sys2Proof.Machine.execRequestRetest st tag row col reset s
  | .confirmPlug st tag row col => Sys2Proof.Machine.execConfirmPlug st tag row col s
  | .submitFinal st tag row col traverse call => Sys2Proof.Machine.execSubmitFinal st tag row col traverse call s
  | .markArchived st tag traverse => Sys2Proof.Machine.execMarkArchived st tag traverse s
  | .declareProbeFailed st tag ch => Sys2Proof.Machine.execDeclareProbeFailed st tag ch s
  | .submitCall st tag row col traverse call => Sys2Proof.Machine.execSubmitCall st tag row col traverse call s
  | .readStatus st tag => Sys2Proof.Machine.execReadStatus st tag s
  | .getEvents st tag count => Sys2Proof.Machine.execGetEvents st tag count s
  | .readPages st tag traverse first count => Sys2Proof.Machine.execReadPages st tag traverse first count s
  | .readTube st tag row col => Sys2Proof.Machine.execReadTube st tag row col s
  | .scanTubes st tag row col states count => Sys2Proof.Machine.execScanTubes st tag row col states count s
  | .readTraverse st tag traverse => Sys2Proof.Machine.execReadTraverse st tag traverse s
  | .readChannel st tag ch => Sys2Proof.Machine.execReadChannel st tag ch s
  | .readCalLog st tag first => Sys2Proof.Machine.execReadCalLog st tag first s
  | .readBracket st tag number => Sys2Proof.Machine.execReadBracket st tag number s
  | .readConfig st tag => Sys2Proof.Machine.execReadConfig st tag s

end Sys2Proof.Machine
end

