-- ==== Sys2Proof/Machine/Frames.lean ====
section
/-! DEFINITION. The frames that arrive on the links, as bytes (R42, R165, R196, R198 to R201): which
command a run of bytes between two line gaps is, and the bytes that spell a command. The field widths
that R196 does not list are in log entry 16. -/

namespace Sys2Proof.Machine

/-! Probe link frames (R198). -/

/-- The bytes of a probe link frame of a kind with a payload. -/
def probeFrameBytes (kind : Nat) (payload : List Byte) : List Byte :=
  withCrc (leBytes 1 kind ++ leBytes 1 payload.length ++ payload)

/-- The kind and the payload of a probe link frame whose byte count and CRC agree (R198). -/
def openProbeFrame (bs : List Byte) : Option (Nat × List Byte) :=
  if 4 ≤ bs.length ∧ natAt bs 1 1 + 4 = bs.length ∧ crcGood bs = true then
    some (natAt bs 0 1, (bs.drop 2).take (bs.length - 4))
  else none

/-- The identity a HELLO payload carries (R198). -/
def identityAt (p : List Byte) : Identity :=
  ⟨natAt p 0 4, ⟨natAt p 4 4, natAt p 8 4, natAt p 12 4, natAt p 16 4, natAt p 20 4⟩⟩

/-- An X and a Y value of a sample (R197). -/
def xyAt (p : List Byte) (off : Nat) : XY :=
  ⟨int16Of (bytesAt p off 2), int16Of (bytesAt p (off + 2) 2)⟩

/-- The reading whose 35 bytes begin at an offset (R197). -/
def readingAt (p : List Byte) (off : Nat) : Reading :=
  { d1 := xyAt p off, a1 := xyAt p (off + 4), d2 := xyAt p (off + 8), a2 := xyAt p (off + 12)
    d3 := xyAt p (off + 16), a3 := xyAt p (off + 20), d4 := xyAt p (off + 24)
    a4 := xyAt p (off + 28), position := natAt p (off + 32) 3 }

/-- The command of a kind with a payload of its fixed length (R198); absent for an unknown kind, a
wrong length or an undefined code (R42). -/
def probeCommand (ch : Chan) (kind : Nat) (p : List Byte) : Option Instr :=
  match kind, p.length with
  | 1, 24 => some (.hello ch (identityAt p))
  | 2, 0 => some (.probeIdle ch)
  | 3, 2 => some (.claim ch (natAt p 0 1) (natAt p 1 1))
  | 4, 0 => some (.releaseClaim ch)
  | 5, 0 => some (.pullStart ch)
  | 6, 36 => some (.sample ch (natAt p 0 1) (readingAt p 1))
  | 7, 0 => some (.pause ch)
  | 8, 0 => some (.resume ch)
  | 9, 0 => some (.pullEnd ch)
  | 10, 1 =>
    match natAt p 0 1 with
    | 0 => some (.abandon ch .restriction)
    | 1 => some (.abandon ch .operator)
    | _ => none
  | 11, 1 => some (.calStart ch (natAt p 0 1))
  | 12, 0 => some (.probeFailed ch)
  | _, _ => none

/-- The command that the bytes between two gaps of probe link `ch` are: a frame that is not valid is
discarded (R42, R198). -/
def probeArrival (ch : Chan) (bs : List Byte) : Instr :=
  match openProbeFrame bs with
  | none => .probeFrameDiscarded ch bs
  | some (kind, p) =>
    match probeCommand ch kind p with
    | none => .probeFrameDiscarded ch bs
    | some i => i

/-- The code of an ABANDON reason (R198). -/
def abandonCode : AbandonReason → Nat
  | .restriction => 0
  | .operator => 1

/-- The 24 bytes of a HELLO payload (R198). -/
def identityBytes (x : Identity) : List Byte :=
  leBytes 4 x.unitSerial ++ leBytes 4 x.probe.serial ++ leBytes 4 x.probe.f1
    ++ leBytes 4 x.probe.f2 ++ leBytes 4 x.probe.f3 ++ leBytes 4 x.probe.f4

/-- The kind and payload of the frame that a command of a probe unit arrives in (R198); absent for
every other command. -/
def probeSpelling : Instr → Option (Nat × List Byte)
  | .hello _ x => some (1, identityBytes x)
  | .probeIdle _ => some (2, [])
  | .claim _ row col => some (3, leBytes 1 row ++ leBytes 1 col)
  | .releaseClaim _ => some (4, [])
  | .pullStart _ => some (5, [])
  | .sample _ seq r => some (6, leBytes 1 seq ++ readingBytes r)
  | .pause _ => some (7, [])
  | .resume _ => some (8, [])
  | .pullEnd _ => some (9, [])
  | .abandon _ reason => some (10, leBytes 1 (abandonCode reason))
  | .calStart _ std => some (11, leBytes 1 std)
  | .probeFailed _ => some (12, [])
  | _ => none

/-! Station link frames (R199 to R201). -/

/-- The bytes of a station link frame (R199). -/
def stationFrameBytes (kind tag name : Nat) (payload : List Byte) : List Byte :=
  withCrc (leBytes 1 kind ++ leBytes 1 tag ++ leBytes 1 name ++ leBytes 2 payload.length ++ payload)

/-- The kind, tag, name code and payload of a station link frame whose byte count and CRC agree
(R199). -/
def openStationFrame (bs : List Byte) : Option (Nat × Nat × Nat × List Byte) :=
  if 7 ≤ bs.length ∧ natAt bs 3 2 + 7 = bs.length ∧ crcGood bs = true then
    some (natAt bs 0 1, natAt bs 1 1, natAt bs 2 1, (bs.drop 5).take (bs.length - 7))
  else none

/-- A flag argument of a request (R200): one byte, 0 or 1. -/
def flagOf : Nat → Option Bool
  | 0 => some false
  | 1 => some true
  | _ => none

/-- The call kind of a code (R201). -/
def kindOf : Nat → Option CallKind
  | 0 => some .ndd
  | 1 => some .indications
  | 2 => some .retestRequired
  | 3 => some .notUsable
  | _ => none

/-- The code of a call kind (R201). -/
def kindCode : CallKind → Nat
  | .ndd => 0
  | .indications => 1
  | .retestRequired => 2
  | .notUsable => 3

/-- The entry of a call whose 6 bytes begin at an offset (R201): bit 0 of its flags byte marks the
landmark index present. Of an entry with that bit clear the landmark index byte is not examined: R201 gives
it as 0, and does not say what becomes of another value there (the model's choice, log entry 17). -/
def callEntryAt (p : List Byte) (off : Nat) : CallEntry :=
  { landmark := if natAt p off 1 % 2 = 1 then some (natAt p (off + 1) 1) else none
    offset := natAt p (off + 2) 2, depth := natAt p (off + 4) 1, classCode := natAt p (off + 5) 1 }

/-- The 6 bytes of a call entry (R201). -/
def callEntryBytes (e : CallEntry) : List Byte :=
  leBytes 1 (flagBits [e.landmark.isSome]) ++ leBytes 1 (e.landmark.getD 0) ++ leBytes 2 e.offset
    ++ leBytes 1 e.depth ++ leBytes 1 e.classCode

/-- The call in its submitted form that fills a payload from an offset to its end (R201). -/
def callAt (p : List Byte) (off : Nat) : Option SubmittedCall :=
  let n := natAt p (off + 1) 1
  match kindOf (natAt p off 1) with
  | none => none
  | some kind =>
    if p.length = off + 2 + 6 * n then
      some ⟨kind, (List.range n).map fun i => callEntryAt p (off + 2 + 6 * i)⟩
    else none

/-- The bytes of a call in its submitted form (R201). -/
def submittedBytes (c : SubmittedCall) : List Byte :=
  leBytes 1 (kindCode c.kind) ++ leBytes 1 c.entries.length ++ c.entries.flatMap callEntryBytes

/-- A rectangle whose four bytes begin at an offset: row low, row high, column low, column high
(R199). -/
def rectAt (p : List Byte) (off : Nat) : Rect :=
  ⟨natAt p off 1, natAt p (off + 1) 1, natAt p (off + 2) 1, natAt p (off + 3) 1⟩

/-- The four bytes of a window or rectangle (R199). -/
def rectBytes (w : Rect) : List Byte :=
  leBytes 1 w.rowLo ++ leBytes 1 w.rowHi ++ leBytes 1 w.colLo ++ leBytes 1 w.colHi

/-- The nine optional values of SET_LIMITS: a presence mask and nine two-byte values (R199). Bits 9 to
15 of the mask, and the bytes of a value marked absent, are not examined (the model's choice, log entry
17). -/
def limitArgsAt (p : List Byte) : LimitArgs :=
  let v := fun i =>
    if natAt p 0 2 / 2 ^ i % 2 = 1 then some (natAt p (2 + 2 * i) 2) else none
  { plug := v 0, reporting := v 1, depthTol := v 2, locTol := v 3, detection := v 4
    landmark := v 5, gap := v 6, interval := v 7, capacity := v 8 }

/-- The values of SET_LIMITS in the order of the table of R8. -/
def limitList (v : LimitArgs) : List (Option Nat) :=
  [v.plug, v.reporting, v.depthTol, v.locTol, v.detection, v.landmark, v.gap, v.interval, v.capacity]

/-- The tube states in the order of their codes (R200). -/
def tubeStates : List TubeState :=
  [.pending, .claimed, .acquired, .resolution, .final, .plugRecommended, .retest, .restricted,
    .plugged]

/-- The states a set of SCAN_TUBES marks (R200); its bits 9 to 15 are not examined (the model's
choice, log entry 17). -/
def statesOf (mask : Nat) : List TubeState :=
  (tubeStates.zipIdx.filter fun x => mask / 2 ^ x.2 % 2 == 1).map (·.1)

/-- The mask of a set of tube states (R200). -/
def statesMask (states : List TubeState) : Nat := flagBits (tubeStates.map fun t => states.contains t)

/-- The request of a name code with a payload, if its layout allows them (R165, R199, R200). -/
def readRequest (name : Nat) (p : List Byte) : Option Request :=
  let b := fun i => natAt p i 1
  match name, p.length with
  | 1, 4 => some (.openSession (natAt p 0 4))
  | 2, 1 => (flagOf (b 0)).map .closeSession
  | 3, 0 => some .saveConfig
  | 4, 4 => some (.defineGeometry (b 0) (b 1) (natAt p 2 2))
  | 5, 5 =>
    match b 4 with
    | 0 => some (.defineTubes (b 0) (b 1) (b 2) (b 3) .inService)
    | 1 => some (.defineTubes (b 0) (b 1) (b 2) (b 3) .plugged)
    | _ => none
  | 6, 3 => some (.removeTubes (b 0) (b 1) (b 2))
  | 7, 20 => some (.setLimits (limitArgsAt p))
  | 8, 1 =>
    match b 0 with
    | 0 => some (.setSecondOpinion .analyst)
    | 1 => some (.setSecondOpinion .automatic)
    | _ => none
  | 9, 0 => some .lockPlan
  | 10, 5 => some (.setWindow (b 0) (rectAt p 1))
  | 11, n =>
    if n = 2 + 4 * b 1 then
      (flagOf (b 0)).map fun f =>
        .setExclusions f ((List.range (b 1)).map fun i => rectAt p (2 + 4 * i))
    else none
  | 12, n =>
    if n = 5 + b 1 then
      some (.defineStandard (b 0) ((List.range (b 1)).map fun i => b (2 + i)) (b (2 + b 1))
        (natAt p (3 + b 1) 2))
    else none
  | 13, 3 => (flagOf (b 2)).map fun f => .requestRetest (b 0) (b 1) f
  | 14, 2 => some (.confirmPlug (b 0) (b 1))
  | 15, _ => (callAt p 6).map fun c => .submitFinal (b 0) (b 1) (natAt p 2 4) c
  | 16, 4 => some (.markArchived (natAt p 0 4))
  | 17, 1 => some (.declareProbeFailed (b 0))
  | 18, _ => (callAt p 6).map fun c => .submitCall (b 0) (b 1) (natAt p 2 4) c
  | 19, 0 => some .readStatus
  | 20, 1 => some (.getEvents (b 0))
  | 21, 8 => some (.readPages (natAt p 0 4) (natAt p 4 2) (natAt p 6 2))
  | 22, 2 => some (.readTube (b 0) (b 1))
  | 23, 5 => some (.scanTubes (b 0) (b 1) (statesOf (natAt p 2 2)) (b 4))
  | 24, 4 => some (.readTraverse (natAt p 0 4))
  | 25, 1 => some (.readChannel (b 0))
  | 26, 2 => some (.readCalLog (natAt p 0 2))
  | 27, 2 => some (.readBracket (natAt p 0 2))
  | 28, 0 => some .readConfig
  | _, _ => none

/-- The request of a REQUEST frame: one whose layout does not allow it is unreadable (R165). -/
def requestOf (name : Nat) (p : List Byte) : Request :=
  match readRequest name p with
  | some r => r
  | none => .unreadable name

/-- The payload that spells a request (R199 to R201); absent for an unreadable one. -/
def requestPayload : Request → Option (List Byte)
  | .openSession wall => some (leBytes 4 wall)
  | .closeSession force => some (leBytes 1 (flagBits [force]))
  | .saveConfig => some []
  | .defineGeometry cls count length =>
    some (leBytes 1 cls ++ leBytes 1 count ++ leBytes 2 length)
  | .defineTubes row col1 col2 cls cond =>
    some (leBytes 1 row ++ leBytes 1 col1 ++ leBytes 1 col2 ++ leBytes 1 cls
      ++ leBytes 1 (flagBits [cond == .plugged]))
  | .removeTubes row col1 col2 => some (leBytes 1 row ++ leBytes 1 col1 ++ leBytes 1 col2)
  | .setLimits v =>
    some (leBytes 2 (flagBits ((limitList v).map (·.isSome)))
      ++ (limitList v).flatMap fun x => leBytes 2 (x.getD 0))
  | .setSecondOpinion mode => some (leBytes 1 (flagBits [mode == .automatic]))
  | .lockPlan => some []
  | .setWindow ch w => some (leBytes 1 ch ++ rectBytes w)
  | .setExclusions complement rects =>
    some (leBytes 1 (flagBits [complement]) ++ leBytes 1 rects.length ++ rects.flatMap rectBytes)
  | .defineStandard id depths freq threshold =>
    some (leBytes 1 id ++ leBytes 1 depths.length ++ depths.flatMap (leBytes 1) ++ leBytes 1 freq
      ++ leBytes 2 threshold)
  | .requestRetest row col reset =>
    some (leBytes 1 row ++ leBytes 1 col ++ leBytes 1 (flagBits [reset]))
  | .confirmPlug row col => some (leBytes 1 row ++ leBytes 1 col)
  | .submitFinal row col traverse call =>
    some (leBytes 1 row ++ leBytes 1 col ++ leBytes 4 traverse ++ submittedBytes call)
  | .markArchived traverse => some (leBytes 4 traverse)
  | .declareProbeFailed ch => some (leBytes 1 ch)
  | .submitCall row col traverse call =>
    some (leBytes 1 row ++ leBytes 1 col ++ leBytes 4 traverse ++ submittedBytes call)
  | .readStatus => some []
  | .getEvents count => some (leBytes 1 count)
  | .readPages traverse first count =>
    some (leBytes 4 traverse ++ leBytes 2 first ++ leBytes 2 count)
  | .readTube row col => some (leBytes 1 row ++ leBytes 1 col)
  | .scanTubes row col states count =>
    some (leBytes 1 row ++ leBytes 1 col ++ leBytes 2 (statesMask states) ++ leBytes 1 count)
  | .readTraverse traverse => some (leBytes 4 traverse)
  | .readChannel ch => some (leBytes 1 ch)
  | .readCalLog first => some (leBytes 2 first)
  | .readBracket number => some (leBytes 2 number)
  | .readConfig => some []
  | .unreadable _ => none

/-- The command that the bytes between two gaps of station link `st` are (R165, R199): the tag and the
name code of ABORT_STREAM and IDLE are not examined. -/
def stationArrival (st : Stn) (bs : List Byte) : Instr :=
  match openStationFrame bs with
  | none => .stationFrameDiscarded st bs
  | some (kind, tag, name, p) =>
    match kind with
    | 1 => .stationRequestFrame st tag (requestOf name p)
    | 2 => .abortStream st
    | 3 => .stationIdle st
    | _ => .stationFrameDiscarded st bs

end Sys2Proof.Machine
end

