-- ==== Sys2Proof/Machine/Formats.lean ====
section
/-! DEFINITION. The frames the part sends to a probe unit, as bytes (R198), the payload of STREAM_END
(R199), and the records whose layout R201 gives. Responses and event records are in Responses.lean. -/

namespace Sys2Proof.Machine

/-! Codes (R170, R179, R198 to R200). -/

/-- The code of a refusal reason of CLAIM_REPLY and PULL_REPLY (R198). -/
def ProbeReason.code : ProbeReason → Nat
  | .noSession => 1
  | .planNotLocked => 2
  | .calRequired => 3
  | .channelBusy => 4
  | .noSuchTube => 5
  | .outOfWindow => 6
  | .excluded => 7
  | .plugged => 8
  | .alreadyClaimed => 9
  | .notClaimable => 10
  | .attemptsExhausted => 11
  | .directoryFull => 12
  | .storeFull => 13
  | .noClaim => 14
  | .noSuchStandard => 15
  | .standardMismatch => 16
  | .logFull => 17

/-- The result code of a reply: 0 means granted or accepted (R198). -/
def resultCode : Option ProbeReason → Nat
  | none => 0
  | some r => r.code

/-- The code of a rejection reason (R198). -/
def CalReject.code : CalReject → Nat
  | .aborted => 1
  | .truncated => 2
  | .lostSamples => 3
  | .count => 4
  | .weakReference => 5
  | .outOfSector => 6
  | .notMonotone => 7

/-- The code of a may-claim reason (R198). -/
def PermitReason.code : PermitReason → Nat
  | .none => 0
  | .noSession => 1
  | .planUnlocked => 2
  | .needsCal => 3
  | .calDue => 4
  | .busy => 5

/-- The code of a status (R199): its place in the table of R170. -/
def Status.code : Status → Nat
  | .ok => 0
  | .wrongRole => 1
  | .noSession => 2
  | .sessionOpen => 3
  | .planLocked => 4
  | .planNotLocked => 5
  | .planIncomplete => 6
  | .badArgument => 7
  | .noSuchTube => 8
  | .wrongState => 9
  | .tubeBusy => 10
  | .staleTraverse => 11
  | .noSuchTraverse => 12
  | .traverseBusy => 13
  | .tableFull => 14
  | .queueFull => 15
  | .busy => 16
  | .cfgProtected => 17
  | .roleDisabled => 18
  | .unsettled => 19

/-- The kind byte of an event record (R199). -/
def Event.code : Event → Nat
  | .tubeAcquired _ _ _ => 1
  | .tubeResolution _ _ _ => 2
  | .calAccepted _ _ _ | .calRejected _ _ _ => 3
  | .channelChange _ _ _ => 4
  | .storeLow _ => 5
  | .storeOk _ => 6
  | .traverseReleased _ _ _ => 7
  | .configSaved _ => 8
  | .tubeFinal _ _ _ _ _ => 9
  | .tubeRetest _ _ _ => 10
  | .bracketClosed _ _ _ _ => 11
  | .sessionClosed _ _ _ _ _ _ => 12

/-! Frames to a probe unit (R198). -/

/-- The 14 bytes of a CAL_RESULT payload (R198). -/
def calResultPayload (traverse : Nat) : CalVerdict → List Byte
  | .accepted log .opened =>
    leBytes 4 traverse ++ leBytes 1 0 ++ leBytes 1 0 ++ leBytes 2 log ++ leBytes 1 1 ++ leBytes 2 0
      ++ leBytes 3 0
  | .accepted log (.closed number good) =>
    leBytes 4 traverse ++ leBytes 1 0 ++ leBytes 1 0 ++ leBytes 2 log
      ++ leBytes 1 (if good then 2 else 3) ++ leBytes 2 number ++ leBytes 3 0
  | .rejected r =>
    leBytes 4 traverse ++ leBytes 1 1 ++ leBytes 1 r.code ++ leBytes 2 0 ++ leBytes 1 0
      ++ leBytes 2 0 ++ leBytes 3 0

/-- The bytes of a frame a channel sends (R198). -/
def ProbeOut.bytes : ProbeOut → List Byte
  | .claimReply r row col =>
    probeFrameBytes 0x81 (leBytes 1 (resultCode r) ++ leBytes 1 row ++ leBytes 1 col)
  | .pullReply cal r id =>
    probeFrameBytes 0x82
      (leBytes 1 (flagBits [cal]) ++ leBytes 1 (resultCode r) ++ leBytes 4 id)
  | .traverseDone id stored lost flags aborted =>
    probeFrameBytes 0x83
      (leBytes 4 id ++ leBytes 4 stored ++ leBytes 3 lost ++ leBytes 1 flags.byte
        ++ leBytes 1 (flagBits [aborted]))
  | .calResult id v => probeFrameBytes 0x84 (calResultPayload id v)
  | .permit p =>
    probeFrameBytes 0x85 (leBytes 1 (flagBits [p.mayClaim]) ++ leBytes 1 p.reason.code)
  | .idle => probeFrameBytes 0x86 []

/-! STREAM_END (R199). -/

/-- The code of an ending (R199). -/
def Ending.code : Ending → Nat
  | .ok => 0
  | .short => 1
  | .dataError _ _ => 2
  | .aborted => 3

/-- The 11 bytes of a STREAM_END payload (R199). -/
def streamEndPayload (e : Ending) (sent stopped : Nat) : List Byte :=
  let failing := match e with
    | .dataError seq page => leBytes 2 seq ++ leBytes 4 page
    | .ok | .short | .aborted => leBytes 2 0 ++ leBytes 4 0
  leBytes 1 e.code ++ leBytes 2 sent ++ leBytes 2 stopped ++ failing

/-! Records (R201). -/

/-- The class code of an indication (R201). -/
def IndClass.code : IndClass → Nat
  | .sized => 0
  | .atLandmark => 1
  | .distorted => 2

/-- The code of a limit flag (R201). -/
def LimitFlag.code : LimitFlag → Nat
  | .none => 0
  | .shallowLimit => 1
  | .deepLimit => 2

/-- The 32 bytes of an indication record (R201). -/
def IndicationRecord.bytes (r : IndicationRecord) : List Byte :=
  let i := r.ind
  let z : Sizing := r.sizing.getD ⟨0, 0, .sized, none, .none⟩
  leBytes 1 i.seq
    ++ leBytes 1 (flagBits [r.landmark.isSome, r.sizing.isSome, z.depth.isSome, i.capped])
    ++ leBytes 2 i.first ++ leBytes 2 i.last ++ leBytes 2 i.peak ++ leBytes 3 i.peakPos
    ++ leBytes 1 (r.landmark.getD 0) ++ leBytes 2 r.offset ++ leBytes 3 i.rawAmp
    ++ leBytes 2 i.rawPhase ++ leBytes 2 z.calAmp ++ leBytes 2 z.theta
    ++ leBytes 1 (z.depth.getD 0) ++ leBytes 1 z.cls.code ++ leBytes 1 z.limit.code
    ++ leBytes 2 i.pairI ++ leBytes 2 i.pairJ ++ leBytes 2 0

/-- The 16 bytes of a landmark record (R201). -/
def LandmarkRecord.bytes (r : LandmarkRecord) : List Byte :=
  leBytes 1 r.seq ++ leBytes 1 (flagBits [r.capped]) ++ leBytes 2 r.first ++ leBytes 2 r.last
    ++ leBytes 2 r.peak ++ leBytes 2 r.peakM ++ leBytes 3 r.position ++ leBytes 3 0

/-- The landmark list as READ_TRAVERSE carries it (R201). -/
def LandmarkList.bytes (l : LandmarkList) : List Byte :=
  leBytes 1 l.records.length ++ l.records.flatMap LandmarkRecord.bytes ++ leBytes 2 l.ignored

/-- The indication list as READ_TRAVERSE carries it (R201): the excess count saturates. -/
def IndicationList.bytes (l : IndicationList) : List Byte :=
  leBytes 1 l.records.length ++ l.records.flatMap IndicationRecord.bytes
    ++ leBytes 2 (min 65535 l.excess)

/-- The code of a call's source (R201). -/
def CallSource.code : CallSource → Nat
  | .primary => 0
  | .secondary => 1
  | .lead => 2
  | .automatic => 3
  | .agreement => 4

/-- The bytes of a call record (R201): an 11-byte header and 6 bytes per entry. -/
def Call.bytes (c : Call) : List Byte :=
  leBytes 1 (kindCode c.kind) ++ leBytes 1 c.source.code ++ leBytes 1 c.entries.length
    ++ leBytes 4 c.time ++ leBytes 4 c.traverse ++ c.entries.flatMap callEntryBytes

/-- A call of a READ_TUBE response (R201): an absent one is the single byte FFh. -/
def callFieldBytes : Option Call → List Byte
  | none => [0xFF]
  | some c => c.bytes

end Sys2Proof.Machine
end

