-- ==== Sys2Proof/WellFormed.lean ====
section
/-! DEFINITION. Well-formed commands: every operand within the width that its frame, record or block
gives it (R196 to R200). A value outside a request's admitted range is well formed; the request's own
rule refuses it. -/

namespace Sys2Proof

/-- A value of one byte. -/
def byteWf (v : Nat) : Bool := decide (v < 256)

/-- A value of two bytes. -/
def wordWf (v : Nat) : Bool := decide (v < 65536)

/-- A value of four bytes. -/
def longWf (v : Nat) : Bool := decide (v < 4294967296)

/-- A signed value of two bytes. -/
def signedWf (v : Int) : Bool := decide (-32768 ≤ v ∧ v ≤ 32767)

/-- The X and Y values of a signal channel. -/
def xyWf (v : XY) : Bool := signedWf v.x && signedWf v.y

/-- A reading: eight signal channels and a position of three bytes. -/
def readingWf (r : Reading) : Bool :=
  xyWf r.d1 && xyWf r.a1 && xyWf r.d2 && xyWf r.a2 && xyWf r.d3 && xyWf r.a3 && xyWf r.d4
    && xyWf r.a4 && decide (r.position < 16777216)

/-- An identity: six four-byte values. -/
def identityWf (x : Identity) : Bool :=
  longWf x.unitSerial && longWf x.probe.serial && longWf x.probe.f1 && longWf x.probe.f2
    && longWf x.probe.f3 && longWf x.probe.f4

/-- A window or rectangle: four bytes. -/
def rectWf (w : Rect) : Bool := byteWf w.rowLo && byteWf w.rowHi && byteWf w.colLo && byteWf w.colHi

/-- An optional value of two bytes. -/
def optWordWf (v : Option Nat) : Bool :=
  match v with
  | none => true
  | some n => wordWf n

/-- The nine values of SET_LIMITS. -/
def limitArgsWf (v : LimitArgs) : Bool :=
  optWordWf v.plug && optWordWf v.reporting && optWordWf v.depthTol && optWordWf v.locTol
    && optWordWf v.detection && optWordWf v.landmark && optWordWf v.gap && optWordWf v.interval
    && optWordWf v.capacity

/-- An entry of a submitted call. -/
def callEntryWf (e : CallEntry) : Bool :=
  (match e.landmark with
    | none => true
    | some l => byteWf l)
    && wordWf e.offset && byteWf e.depth && byteWf e.classCode

/-- A submitted call: at most 255 entries are carried (R201). -/
def submittedWf (c : SubmittedCall) : Bool := byteWf c.entries.length && c.entries.all callEntryWf

/-- The code of a tube state (R200). -/
def stateCode : TubeState → Nat
  | .pending => 0
  | .claimed => 1
  | .acquired => 2
  | .resolution => 3
  | .final => 4
  | .plugRecommended => 5
  | .retest => 6
  | .restricted => 7
  | .plugged => 8

/-- Whether numbers rise strictly. -/
def risingNats : List Nat → Bool
  | a :: b :: rest => decide (a < b) && risingNats (b :: rest)
  | _ => true

/-- A set of tube states, its members in the order of their codes. -/
def statesWf (states : List TubeState) : Bool := risingNats (states.map stateCode)

/-- Bytes that a memory device returns otherwise: offsets below the block's length, rising. -/
def upsetWf (n : Nat) (upset : List Host.Cell) : Bool :=
  risingNats (upset.map (·.1)) && upset.all fun c => decide (c.1 < n)

/-- A request with every field within its width. -/
def requestWf : Request → Bool
  | .openSession wall => longWf wall
  | .closeSession _ => true
  | .saveConfig => true
  | .defineGeometry cls count length => byteWf cls && byteWf count && wordWf length
  | .defineTubes row col1 col2 cls _ => byteWf row && byteWf col1 && byteWf col2 && byteWf cls
  | .removeTubes row col1 col2 => byteWf row && byteWf col1 && byteWf col2
  | .setLimits v => limitArgsWf v
  | .setSecondOpinion _ => true
  | .lockPlan => true
  | .setWindow ch w => byteWf ch && rectWf w
  | .setExclusions _ rects => byteWf rects.length && rects.all rectWf
  | .defineStandard id depths freq threshold =>
    byteWf id && byteWf depths.length && depths.all byteWf && byteWf freq && wordWf threshold
  | .requestRetest row col _ => byteWf row && byteWf col
  | .confirmPlug row col => byteWf row && byteWf col
  | .submitFinal row col traverse call =>
    byteWf row && byteWf col && longWf traverse && submittedWf call
  | .markArchived traverse => longWf traverse
  | .declareProbeFailed ch => byteWf ch
  | .submitCall row col traverse call =>
    byteWf row && byteWf col && longWf traverse && submittedWf call
  | .readStatus => true
  | .getEvents count => byteWf count
  | .readPages traverse first count => longWf traverse && wordWf first && wordWf count
  | .readTube row col => byteWf row && byteWf col
  | .scanTubes row col states count => byteWf row && byteWf col && statesWf states && byteWf count
  | .readTraverse traverse => longWf traverse
  | .readChannel ch => byteWf ch
  | .readCalLog first => wordWf first
  | .readBracket number => wordWf number
  | .readConfig => true
  | .unreadable name => byteWf name

/-- A command with every operand within its width. -/
def Instr.wf : Instr → Bool
  | .powerOnReset => true
  | .resetRelease => true
  | .startupReadEnd upset => upsetWf 4096 upset
  | .hello _ id => identityWf id
  | .probeIdle _ => true
  | .probeFrameDiscarded _ _ => true
  | .claim _ row col => byteWf row && byteWf col
  | .releaseClaim _ => true
  | .pullStart _ => true
  | .sample _ seq reading => byteWf seq && readingWf reading
  | .pause _ => true
  | .resume _ => true
  | .pullEnd _ => true
  | .abandon _ _ => true
  | .calStart _ std => byteWf std
  | .probeFailed _ => true
  | .probeLinkLoss _ => true
  | .probeIdleSend _ => true
  | .claimExpiry _ => true
  | .pauseExpiry _ => true
  | .pageWriteEnd => true
  | .calibrationVerdict _ => true
  | .bracketAgeLimit _ => true
  | .closedFailPresentation bracket => wordWf bracket
  | .closedGoodHandover bracket => wordWf bracket
  | .comparisonEnd row col => byteWf row && byteWf col
  | .stationRequestFrame _ tag req => byteWf tag && requestWf req
  | .abortStream _ => true
  | .stationIdle _ => true
  | .stationFrameDiscarded _ _ => true
  | .stationLinkLoss _ => true
  | .stationIdleSend _ => true
  | .frameSendEnd _ => true
  | .pageSendEnd _ => true
  | .fetchEnd upset => upsetWf 2048 upset
  | .unreadableRequest _ tag name => byteWf tag && requestWf (.unreadable name)
  | .openSession _ tag wall => byteWf tag && requestWf (.openSession wall)
  | .closeSession _ tag force => byteWf tag && requestWf (.closeSession force)
  | .saveConfig _ tag => byteWf tag && requestWf .saveConfig
  | .saveCommandEnd _ upset => upsetWf 4096 upset
  | .eraseTimeout => true
  | .programTimeout => true
  | .cfgProtectRise => true
  | .cfgProtectFall => true
  | .sessionSecondTick => true
  | .defineGeometry _ tag cls count length =>
    byteWf tag && requestWf (.defineGeometry cls count length)
  | .defineTubes _ tag row col1 col2 cls cond =>
    byteWf tag && requestWf (.defineTubes row col1 col2 cls cond)
  | .removeTubes _ tag row col1 col2 => byteWf tag && requestWf (.removeTubes row col1 col2)
  | .setLimits _ tag v => byteWf tag && requestWf (.setLimits v)
  | .setSecondOpinion _ tag mode => byteWf tag && requestWf (.setSecondOpinion mode)
  | .lockPlan _ tag => byteWf tag && requestWf .lockPlan
  | .setWindow _ tag ch w => byteWf tag && requestWf (.setWindow ch w)
  | .setExclusions _ tag complement rects =>
    byteWf tag && requestWf (.setExclusions complement rects)
  | .defineStandard _ tag id depths freq threshold =>
    byteWf tag && requestWf (.defineStandard id depths freq threshold)
  | .requestRetest _ tag row col reset => byteWf tag && requestWf (.requestRetest row col reset)
  | .confirmPlug _ tag row col => byteWf tag && requestWf (.confirmPlug row col)
  | .submitFinal _ tag row col traverse call =>
    byteWf tag && requestWf (.submitFinal row col traverse call)
  | .markArchived _ tag traverse => byteWf tag && requestWf (.markArchived traverse)
  | .declareProbeFailed _ tag ch => byteWf tag && requestWf (.declareProbeFailed ch)
  | .submitCall _ tag row col traverse call =>
    byteWf tag && requestWf (.submitCall row col traverse call)
  | .readStatus _ tag => byteWf tag && requestWf .readStatus
  | .getEvents _ tag count => byteWf tag && requestWf (.getEvents count)
  | .readPages _ tag traverse first count =>
    byteWf tag && requestWf (.readPages traverse first count)
  | .readTube _ tag row col => byteWf tag && requestWf (.readTube row col)
  | .scanTubes _ tag row col states count =>
    byteWf tag && requestWf (.scanTubes row col states count)
  | .readTraverse _ tag traverse => byteWf tag && requestWf (.readTraverse traverse)
  | .readChannel _ tag ch => byteWf tag && requestWf (.readChannel ch)
  | .readCalLog _ tag first => byteWf tag && requestWf (.readCalLog first)
  | .readBracket _ tag number => byteWf tag && requestWf (.readBracket number)
  | .readConfig _ tag => byteWf tag && requestWf .readConfig

end Sys2Proof
end

