-- ==== Sys2Proof/Machine/Responses.lean ====
section
/-! DEFINITION. The RESPONSE frames and the event records, as bytes (R196, R199 to R201): every content
in the order in which the rule of its request names its fields. The widths and the layouts that no table
gives are the model's (log entries 16 and 18). -/

namespace Sys2Proof.Machine

/-! Codes (R200), each the place of its name in the table. -/

/-- The code of a channel state. -/
def ChanState.code : ChanState → Nat
  | .offline => 0
  | .needsCal => 1
  | .ready => 2
  | .due => 3
  | .claimed => 4
  | .recording => 5
  | .paused => 6
  | .calibrating => 7
  | .evaluating => 8

/-- The code of a traverse state. -/
def TraverseState.code : TraverseState → Nat
  | .recording => 0
  | .paused => 1
  | .finishing => 2
  | .complete => 3
  | .aborted => 4
  | .invalidated => 5

/-- The code of a traverse kind. -/
def TraverseKind.code : TraverseKind → Nat
  | .inspection => 0
  | .calibration => 1

/-- The code of a second-opinion mode. -/
def modeCode : Mode → Nat
  | .analyst => 0
  | .automatic => 1

/-- The code of a retest cause. -/
def RetestCause.code : RetestCause → Nat
  | .bracketFail => 0
  | .lead => 1
  | .abort => 2
  | .bothRetest => 3

/-- The code of a page assembly buffer state. -/
def BufferState.code : BufferState → Nat
  | .free => 0
  | .filling => 1
  | .held => 2
  | .inWrite => 3

/-- The code of a cal_due cause. -/
def CalDue.code : CalDue → Nat
  | .age => 0
  | .full => 1
  | .link => 2

/-- The code of a bracket state. -/
def BracketState.code : BracketState → Nat
  | .opened => 0
  | .closedGood => 1
  | .closedFail => 2

/-- The code of the verdict of a closed bracket. -/
def verdictCode (good : Bool) : Nat := if good then 1 else 2

/-- The code of a sweep state. -/
def SweepState.code : SweepState → Nat
  | .none => 0
  | .running => 1
  | .done => 2

/-- The code of an outcome of MARK_ARCHIVED. -/
def ArchiveOutcome.code : ArchiveOutcome → Nat
  | .kept => 0
  | .released => 1
  | .pending => 2

/-- The code of a comparison status. -/
def CompareStatus.code : CompareStatus → Nat
  | .started => 0
  | .bracketFailed => 1
  | .waitingCall => 2
  | .waitingBracket => 3

/-- The code of a station link state. -/
def LinkState.code : LinkState → Nat
  | .down => 0
  | .up => 1

/-- The code of the reason of a defaulted configuration. -/
def DefaultReason.code : DefaultReason → Nat
  | .signature => 0
  | .checksum => 1

/-! Presence and lists (R196, R200). -/

/-- A flag of a response: bit 0 of a flags byte of its own (R196). -/
def flagByte (f : Bool) : List Byte := leBytes 1 (flagBits [f])

/-- An optional field of a response: a presence byte, and the field, as `width` zero bytes when absent
(R200). -/
def optionalBytes (width : Nat) : Option (List Byte) → List Byte
  | none => leBytes 1 0 ++ List.replicate width 0
  | some bs => leBytes 1 1 ++ bs

/-- A list: its count in one byte, then its items (R196). -/
def countedBytes (items : List (List Byte)) : List Byte := leBytes 1 items.length ++ items.flatten

/-- A tube position (R196). -/
def Pos.bytes (p : Pos) : List Byte := leBytes 1 p.row ++ leBytes 1 p.col

/-- The nine limits as two bytes each (R196). -/
def limitBytes (l : Limits) : List Byte := l.toList.flatMap (leBytes 2)

/-! The pieces of the contents. -/

/-- A definition of a standard as DEFINE_STANDARD carries it (R199). -/
def Standard.bytes (x : Standard) : List Byte :=
  countedBytes (x.depths.map (leBytes 1)) ++ leBytes 1 x.freq ++ leBytes 2 x.threshold

/-- May-claim and its reason (R198, R200). -/
def Permit.bytes (p : Permit) : List Byte := flagByte p.mayClaim ++ leBytes 1 p.reason.code

/-- A lock-failure reason with what it carries (R11, R200): the position and the class follow
UNDEFINED_CLASS, and no byte follows the other three (the model's choice, log entry 18). -/
def LockFailure.bytes : LockFailure → List Byte
  | .session => leBytes 1 0
  | .noTubes => leBytes 1 1
  | .undefinedClass p cls => leBytes 1 2 ++ p.bytes ++ leBytes 1 cls
  | .noStandard => leBytes 1 3

/-- The two bytes that say which write enable or program a failing step is of (R200). -/
def FlashTarget.bytes : FlashTarget → List Byte
  | .erase => leBytes 2 0xFFFF
  | .program k => leBytes 2 k

/-- A failing step with its two bytes (R200). -/
def FailStep.bytes : FailStep → List Byte
  | .writeEnable t => leBytes 1 0 ++ t.bytes
  | .eraseTimeout => leBytes 1 1 ++ leBytes 2 0
  | .programTimeout k => leBytes 1 2 ++ leBytes 2 k
  | .verify off => leBytes 1 3 ++ leBytes 2 off
  | .cfgProtect t => leBytes 1 4 ++ t.bytes

/-- The failing step of a failed save (R189). -/
def SaveResult.step? : SaveResult → Option FailStep
  | .ok => none
  | .failed f => some f

/-- The code of a save result (R200). -/
def SaveResult.code : SaveResult → Nat
  | .ok => 0
  | .failed _ => 1

/-- The current step of a save (R187): its number in the list of R189, and k in step 4 (the model's
choice, log entry 18). -/
def SaveStep.bytes : SaveStep → List Byte
  | .start | .writeEnable .erase => leBytes 1 1 ++ leBytes 2 0
  | .erase => leBytes 1 2 ++ leBytes 2 0
  | .eraseWait => leBytes 1 3 ++ leBytes 2 0
  | .writeEnable (.program k) | .program k | .programWait k => leBytes 1 4 ++ leBytes 2 k
  | .readBack => leBytes 1 5 ++ leBytes 2 0

/-- A disagreement reason with what it carries (R156, R200), the last argument of TUBE_RESOLUTION. After the
code of the reason stands only what that reason carries: a source byte, a call entry of 6 bytes, or a call
entry and two depths, with no presence byte and no zero bytes for what the other reasons carry, so that the
arguments vary in length (the model's choice, log entry 18). -/
def Disagreement.bytes : Disagreement → List Byte
  | .oneRetest source => leBytes 1 0 ++ leBytes 1 source.code
  | .unmatchedPrimary e => leBytes 1 1 ++ callEntryBytes e
  | .unmatchedSecond e => leBytes 1 2 ++ callEntryBytes e
  | .depth e a b => leBytes 1 3 ++ callEntryBytes e ++ leBytes 1 a ++ leBytes 1 b

/-- A tube entry (R18, R39): `cls` is what stands beside the class number. -/
def TubeEntry.bytes (t : TubeEntry) (cls : List Byte) : List Byte :=
  t.pos.bytes ++ leBytes 1 t.cls ++ cls ++ leBytes 1 (stateCode t.state)
    ++ optionalBytes 1 (t.preClaim.map fun x => leBytes 1 (stateCode x))
    ++ optionalBytes 1 (t.holder.map fun x => leBytes 1 x.val)
    ++ leBytes 1 t.attempts ++ optionalBytes 4 (t.traverse.map (leBytes 4))
    ++ optionalBytes 2 (t.bracket.map (leBytes 2))
    ++ callFieldBytes t.primary ++ callFieldBytes t.secondary ++ callFieldBytes t.finalCall
    ++ optionalBytes 1 (t.cause.map fun x => leBytes 1 x.code) ++ leBytes 4 t.changed

/-- The values of a class beside its number (R39): each absent if the class is undefined. -/
def classBytes (g : Option Geometry) : List Byte :=
  optionalBytes 1 (g.map fun x => leBytes 1 x.count)
    ++ optionalBytes 2 (g.map fun x => leBytes 2 x.length)

/-- The position of an inspection traverse (R68). -/
def Target.pos? : Target → Option Pos
  | .tube p => some p
  | .standard _ => none

/-- The standard id of a calibration traverse (R68). -/
def Target.standard? : Target → Option Nat
  | .tube _ => none
  | .standard id => some id

/-- The 11 zero bytes of an absent automatic call's header. -/
def absentCallWidth : Nat := 11

/-- The content of a READ_TRAVERSE response (R68, R88, R201). -/
def TraverseReport.bytes (r : TraverseReport) : List Byte :=
  let t := r.entry
  leBytes 4 t.id ++ leBytes 1 t.target.kindCode ++ leBytes 1 t.channel.val
    ++ optionalBytes 2 (t.target.pos?.map Pos.bytes)
    ++ optionalBytes 1 (t.target.standard?.map (leBytes 1))
    ++ optionalBytes 2 (t.bracket.map (leBytes 2)) ++ leBytes 1 t.state.code
    ++ flagByte t.archived ++ flagByte t.settled ++ leBytes 4 t.start
    ++ optionalBytes 4 (t.endTime.map (leBytes 4)) ++ leBytes 4 t.stored ++ leBytes 3 t.lost
    ++ leBytes 1 t.flags.byte ++ identityBytes t.identity
    ++ leBytes 2 r.pageCount ++ leBytes 2 t.written ++ leBytes 1 t.inWrite ++ leBytes 2 t.reservation
    ++ optionalBytes 3 (t.landmarks.map LandmarkList.bytes)
    ++ optionalBytes 3 (t.indications.map IndicationList.bytes)
    ++ optionalBytes absentCallWidth (t.autoCall.map Call.bytes)
    ++ leBytes 1 t.readers ++ flagByte t.releasePending
    ++ optionalBytes 4 (r.soFar.map fun x => leBytes 2 x.1 ++ leBytes 2 x.2)

/-- What READ_CHANNEL gives of the traverse in hand (R66). -/
def TraverseInHand.bytes (t : TraverseInHand) : List Byte :=
  leBytes 4 t.id ++ leBytes 1 t.kind.code ++ leBytes 1 t.state.code ++ leBytes 4 t.stored
    ++ leBytes 3 t.lost

/-- The cal_due flag of a bracket and its cause (R134): one byte is both the flag and the presence byte of
the cause, which follows it, zero when the flag is clear (the model's choice, log entry 18). -/
def calDueBytes (c : Option CalDue) : List Byte := optionalBytes 1 (c.map fun x => leBytes 1 x.code)

/-- The content of a READ_CHANNEL response (R66). -/
def ChannelReport.bytes (r : ChannelReport) : List Byte :=
  leBytes 1 r.state.code ++ optionalBytes 2 (r.permit.map Permit.bytes)
    ++ optionalBytes 24 (r.identity.map identityBytes)
    ++ optionalBytes 2 (r.claim.map Pos.bytes) ++ optionalBytes 2 (r.claimLeft.map (leBytes 2))
    ++ optionalBytes 13 (r.traverse.map TraverseInHand.bytes)
    ++ optionalBytes 2 (r.pauseLeft.map (leBytes 2)) ++ flagByte r.evaluation
    ++ flagByte r.linkLossMark ++ leBytes 1 r.bufA.1.code ++ leBytes 1 r.bufA.2
    ++ leBytes 1 r.bufB.1.code ++ leBytes 1 r.bufB.2
    ++ optionalBytes 4 (r.bracket.map fun b => leBytes 2 b.1 ++ calDueBytes b.2)
    ++ optionalBytes 4 (r.window.map rectBytes)

/-- One flaw of a log entry (R131, R196). -/
def Flaw.bytes (f : Flaw) : List Byte :=
  leBytes 1 f.depth ++ leBytes 2 f.phase ++ leBytes 3 f.amp ++ leBytes 2 f.theta
    ++ leBytes 2 f.calAmp

/-- The "bracket closed" group of a log entry (R131): each worst drift in two bytes with the pull
position of its flaw in one (R136). -/
def ClosedInfo.bytes (x : ClosedInfo) : List Byte :=
  leBytes 2 x.number ++ leBytes 1 (verdictCode x.good) ++ leBytes 2 x.phaseDrift
    ++ leBytes 1 x.phaseAt ++ leBytes 2 x.ampDrift ++ leBytes 1 x.ampAt

/-- A probe serial and four frequencies (R131, R196). -/
def probeBytes (p : ProbeId) : List Byte :=
  leBytes 4 p.serial ++ leBytes 4 p.f1 ++ leBytes 4 p.f2 ++ leBytes 4 p.f3 ++ leBytes 4 p.f4

/-- A calibration log entry (R131): the bracket it opened has its number. -/
def LogEntry.bytes (e : LogEntry) : List Byte :=
  leBytes 2 e.number ++ leBytes 1 e.channel.val ++ leBytes 1 e.standard ++ leBytes 4 e.traverse
    ++ leBytes 4 e.time ++ probeBytes e.probe ++ countedBytes (e.flaws.map Flaw.bytes)
    ++ leBytes 2 e.rho ++ leBytes 3 e.aRef ++ leBytes 2 e.number
    ++ optionalBytes 9 (e.closed.map ClosedInfo.bytes)

/-- A closing cause (R132) by its code of R200, with a log number in two bytes, which are zero, with no
presence byte, for PROBE_FAILED and PROBE_CHANGED (the model's choice, log entry 18). -/
def ClosingCause.bytes : ClosingCause → List Byte
  | .calibration log => leBytes 1 0 ++ leBytes 2 log
  | .probeFailed => leBytes 1 1 ++ leBytes 2 0
  | .probeChanged => leBytes 1 2 ++ leBytes 2 0

/-- A bracket record (R132): its traverse list, of up to 512 ids, has a count of two bytes. -/
def Bracket.bytes (b : Bracket) : List Byte :=
  leBytes 2 b.number ++ leBytes 1 b.channel.val ++ leBytes 2 b.openingLog ++ leBytes 1 b.standard
    ++ leBytes 4 b.openedAt ++ leBytes 2 b.capacity ++ leBytes 2 b.traverses.length
    ++ b.traverses.flatMap (leBytes 4) ++ leBytes 1 b.state.code ++ calDueBytes b.calDue
    ++ optionalBytes 3 (b.cause.map ClosingCause.bytes)
    ++ optionalBytes 4 (b.closedAt.map (leBytes 4)) ++ leBytes 1 b.sweep.code
    ++ optionalBytes 2 (b.retests.map (leBytes 2))

/-- The configuration status and the reason of a defaulted one (R183, R200). -/
def ConfigStatus.bytes : ConfigStatus → List Byte
  | .loaded _ _ => leBytes 1 0 ++ optionalBytes 1 none
  | .defaulted r => leBytes 1 1 ++ optionalBytes 1 (some (leBytes 1 r.code))

/-- The role-fallback flag and the rejected ids of a configuration status (R186, R187), clear and empty
for a DEFAULTED one (the model's choice, log entry 18). -/
def ConfigStatus.detail : ConfigStatus → List Byte
  | .loaded fallback rejected => flagByte fallback ++ countedBytes (rejected.map (leBytes 1))
  | .defaulted _ => flagByte false ++ countedBytes []

/-- The content of a READ_CONFIG response (R187); absent before loading has ended, when no request is
executed. -/
def ConfigReport.bytes? (r : ConfigReport) : Option (List Byte) :=
  r.status.map fun status =>
    let x := r.shadow
    leBytes 1 (roleCode x.roles.s0) ++ leBytes 1 (roleCode x.roles.s1)
      ++ leBytes 1 (roleCode x.roles.s2) ++ limitBytes x.limits
      ++ x.standards.flatMap (fun d => optionalBytes 4 (d.map Standard.bytes))
      ++ status.bytes ++ status.detail
      ++ flagByte r.step.isSome ++ optionalBytes 3 (r.step.map SaveStep.bytes)
      ++ optionalBytes 5 (r.lastSave.map fun x =>
          leBytes 1 x.code ++ optionalBytes 3 (x.step?.map FailStep.bytes))
      ++ flagByte r.cfgProtect

/-- The nine tube counters, in the order of the tube state codes (R20, R183). -/
def TubeCounts.bytes (c : TubeCounts) : List Byte :=
  tubeStates.flatMap fun t => leBytes 2 (c.get t)

/-- What READ_STATUS gives of one channel (R183). -/
def ChannelStatus.bytes (c : ChannelStatus) : List Byte :=
  leBytes 1 c.state.code ++ optionalBytes 2 (c.permit.map Permit.bytes)

/-- The content of a READ_STATUS response, in the order of the table of R183; absent before loading has
ended, when no request is executed. -/
def StatusReport.bytes? (r : StatusReport) : Option (List Byte) :=
  match r.config, r.role with
  | some status, some role =>
    some (flagByte r.clock.isSome
      ++ optionalBytes 8 (r.clock.map fun x => leBytes 4 x.1 ++ leBytes 4 x.2)
      ++ optionalBytes 1 (r.locked.map flagByte) ++ optionalBytes 18 (r.counts.map TubeCounts.bytes)
      ++ leBytes 4 r.freePages ++ leBytes 4 r.reservedPages ++ leBytes 2 r.reservedSlots
      ++ leBytes 2 r.live ++ leBytes 2 r.logEntries ++ leBytes 1 r.openBrackets
      ++ r.channels.c0.bytes ++ r.channels.c1.bytes ++ r.channels.c2.bytes ++ r.channels.c3.bytes
      ++ leBytes 1 r.links.s0.code ++ leBytes 1 r.links.s1.code ++ leBytes 1 r.links.s2.code
      ++ status.bytes ++ flagByte r.saving ++ leBytes 1 (roleCode role) ++ flagByte r.eventsLost)
  | _, _ => none

/-! Event records (R179, R199). -/

/-- The arguments of an event in the order of the table of R179. An argument that is absent is written
as zero: the greatest depth of a final call that is not INDICATIONS, the permit of a channel that went
OFFLINE, and the failing step of a save that ended OK. -/
def Event.args : Event → List Byte
  | .tubeAcquired p id ch => p.bytes ++ leBytes 4 id ++ leBytes 1 ch.val
  | .tubeResolution p id d => p.bytes ++ leBytes 4 id ++ d.bytes
  | .calAccepted ch id log => leBytes 1 ch.val ++ leBytes 4 id ++ leBytes 1 0 ++ leBytes 2 log
  | .calRejected ch id r => leBytes 1 ch.val ++ leBytes 4 id ++ leBytes 1 1 ++ leBytes 1 r.code
  | .channelChange ch state permit =>
    leBytes 1 ch.val ++ leBytes 1 state.code ++ ((permit.map Permit.bytes).getD (leBytes 2 0))
  | .storeLow v | .storeOk v => leBytes 4 v
  | .traverseReleased id kind freed => leBytes 4 id ++ leBytes 1 kind.code ++ leBytes 2 freed
  | .configSaved r =>
    leBytes 1 r.code ++ ((r.step?.map FailStep.bytes).getD (List.replicate 3 0))
  | .tubeFinal p id state kind depth =>
    p.bytes ++ leBytes 4 id ++ leBytes 1 (stateCode state) ++ leBytes 1 (kindCode kind)
      ++ leBytes 1 (depth.getD 0)
  | .tubeRetest p cause attempts => p.bytes ++ leBytes 1 cause.code ++ leBytes 1 attempts
  | .bracketClosed ch n good retests =>
    leBytes 1 ch.val ++ leBytes 2 n ++ leBytes 1 (verdictCode good) ++ leBytes 2 retests
  | .sessionClosed base time forced aborted attempts claims =>
    leBytes 4 base ++ leBytes 4 time ++ flagByte forced ++ leBytes 1 aborted ++ leBytes 1 attempts
      ++ leBytes 1 claims

/-- Whether the optional argument of an event is present: bit 1 of the flags byte of its record (log
entry 18). An event with no optional argument has the bit clear. -/
def Event.optionPresent : Event → Bool
  | .channelChange _ _ permit => permit.isSome
  | .tubeFinal _ _ _ _ depth => depth.isSome
  | .configSaved r => r.step?.isSome
  | .tubeAcquired _ _ _ | .tubeResolution _ _ _ | .calAccepted _ _ _ | .calRejected _ _ _
  | .storeLow _ | .storeOk _ | .traverseReleased _ _ _ | .tubeRetest _ _ _ | .bracketClosed _ _ _ _
  | .sessionClosed _ _ _ _ _ _ => false

/-- An event record of a GET_EVENTS response (R199): its kind, its flags, the session time (zero when
absent), the length of its arguments, and the arguments. -/
def EventRecord.bytes (r : EventRecord) : List Byte :=
  leBytes 1 r.event.code ++ leBytes 1 (flagBits [r.time.isSome, r.event.optionPresent])
    ++ leBytes 4 (r.time.getD 0) ++ leBytes 1 r.event.args.length ++ r.event.args

/-! Contents and frames (R199). -/

/-- The bytes of what a RESPONSE carries after its status (R199), in the order in which the rule of its
request names the fields. READ_STATUS and READ_CONFIG have none before loading has ended, when no
request is executed. -/
def Content.bytes? : Content → Option (List Byte)
  | .none => some []
  | .geometry cls g => some (leBytes 1 cls ++ leBytes 1 g.count ++ leBytes 2 g.length)
  | .tubesDefined new redefined defined =>
    some (leBytes 2 new ++ leBytes 2 redefined ++ leBytes 2 defined)
  | .tableFull defined => some (leBytes 2 defined)
  | .tubesRemoved removed defined => some (leBytes 2 removed ++ leBytes 2 defined)
  | .limits l f => some (limitBytes l ++ leBytes 2 f.mask)
  | .sessionOpened base l f => some (leBytes 4 base ++ limitBytes l ++ leBytes 2 f.mask)
  | .mode m => some (leBytes 1 (modeCode m))
  | .lockFailure r => some r.bytes
  | .window ch w => some (leBytes 1 ch ++ rectBytes w)
  | .exclusions e => some (flagByte e.complement ++ countedBytes (e.rects.map rectBytes))
  | .standard x => some x.bytes
  | .retest state cause attempts =>
    some (leBytes 1 (stateCode state) ++ optionalBytes 1 (cause.map fun x => leBytes 1 x.code)
      ++ leBytes 1 attempts)
  | .tubeState p state => some (p.bytes ++ leBytes 1 (stateCode state))
  | .archived id o => some (leBytes 4 id ++ leBytes 1 o.code)
  | .probeFailed state b => some (leBytes 1 state.code ++ optionalBytes 2 (b.map (leBytes 2)))
  | .callAccepted p id replaced o =>
    some (p.bytes ++ leBytes 4 id ++ flagByte replaced ++ leBytes 1 o.code)
  | .sessionEnded aborted attempts claims =>
    some (leBytes 1 aborted ++ leBytes 1 attempts ++ leBytes 1 claims)
  | .status r => r.bytes?
  | .events records left lost =>
    some (countedBytes (records.map EventRecord.bytes) ++ leBytes 1 left ++ flagByte lost)
  | .tube t g => some (t.bytes (classBytes g))
  | .tubes entries next =>
    some (countedBytes (entries.map fun t => t.bytes []) ++ optionalBytes 2 (next.map Pos.bytes))
  | .traverse r => some r.bytes
  | .channel r => some r.bytes
  | .calLog entries total =>
    some (countedBytes (entries.map LogEntry.bytes) ++ leBytes 2 total)
  | .bracket b ageLeft rho aRef =>
    some (b.bytes ++ optionalBytes 2 (ageLeft.map (leBytes 2)) ++ leBytes 2 rho ++ leBytes 3 aRef)
  | .config r => r.bytes?

/-- The bytes of a frame of a station link (R199). -/
def StationOut.bytes? : StationOut → Option (List Byte)
  | .response tag name status content =>
    content.bytes?.map fun c => stationFrameBytes 0x81 tag name (leBytes 1 status.code ++ c)
  | .queueFull tag name => some (stationFrameBytes 0x81 tag name (leBytes 1 Status.queueFull.code))
  | .pageData tag seq bytes => some (stationFrameBytes 0x82 tag 21 (leBytes 2 seq ++ bytes))
  | .streamEnd tag e sent stopped =>
    some (stationFrameBytes 0x83 tag 21 (streamEndPayload e sent stopped))
  | .idle => some (stationFrameBytes 0x84 0 0 [])

end Sys2Proof.Machine
end

