-- ==== Sys2Proof/Safety.lean ====
section
/-! DEFINITION. What a safe state of the part is: the laws that the manual calls the laws of the
device, as predicates of one state; and the words that the statements about commands share. -/

namespace Sys2Proof.Machine

/-! States in which an arrival acts. -/

/-- RESET_N is high, so that arrivals are taken (R184). -/
abbrev State.awake (s : State) : Prop := s.config.phase ≠ .inReset

/-- A probe link is up (R43). -/
abbrev State.probeUp (s : State) (ch : Chan) : Prop := s.awake ∧ (s.chan ch).state ≠ .offline

/-- The controller of `st` may begin this request (R169): loading has ended, no request is in hand, and
the request stands at the head of the queue. -/
abbrev State.mayBegin (s : State) (st : Stn) (tag : Nat) (req : Request) : Prop :=
  s.config.phase = .ready ∧ (s.stn st).inHand = false
    ∧ (s.stn st).queue.head? = some ⟨tag, req⟩

/-- The lead's station may begin this request. -/
abbrev State.leadBegins (s : State) (st : Stn) (tag : Nat) (req : Request) : Prop :=
  s.mayBegin st tag req ∧ (s.stn st).role = some .lead

/-! What every arrival does first, and the frames sent in answer. -/

/-- A valid frame restarts a probe link's silence timer (R44). -/
def State.hearProbe (s : State) (ch : Chan) : State :=
  { s with channels := s.channels.set ch { s.channels.get ch with silenceMs := 0 } }

/-- A frame sent on an up probe link (R43). -/
def State.sentOn (s : State) (ch : Chan) (f : ProbeOut) : State :=
  { s with channels :=
      s.channels.set ch { s.channels.get ch with sent := (s.channels.get ch).sent ++ [f], quietMs := 0 } }

/-- A valid frame brings a station link UP and restarts its silence timer (R166). -/
def State.hearStation (s : State) (st : Stn) : State :=
  { s with stations := s.stations.set st { s.stations.get st with link := .up, silenceMs := 0 } }

/-- The request at the head of a queue is in hand (R169). -/
def State.begun (s : State) (st : Stn) : State :=
  { s with stations := s.stations.set st { s.stations.get st with inHand := true } }

/-- A link whose request in hand has produced a frame (R170): the frame waits while another is being
sent or an older QUEUE_FULL response goes first, and is on the line otherwise. -/
def StationLink.withReply (x : StationLink) (f : StationOut) : StationLink :=
  if x.line.isSome then { x with reply := some f }
  else
    match x.queueFull with
    | q :: rest =>
      { x with reply := some f, queueFull := rest, line := some (.queueFull q.1 q.2), quietMs := 0 }
    | [] => { x with reply := none, line := some f, quietMs := 0 }

/-- The RESPONSE to the request in hand of `st` is produced (R170). -/
def State.answered (s : State) (st : Stn) (tag name : Nat) (status : Status) (content : Content) :
    State :=
  { s with stations :=
      s.stations.set st ((s.stations.get st).withReply (.response tag name status content)) }

/-- Events raised in order (R179). -/
def State.raiseAll (s : State) (es : List Event) : State := es.foldl State.raise s

/-- A traverse's entry replaced wherever its id stands in the directory. -/
def Store.updTrav (x : Store) (id : Nat) (f : Traverse → Traverse) : Store :=
  { x with directory := x.directory.map fun t => if t.id = id then f t else t }

/-- A tube's entry replaced, with the counters given (R18, R20). -/
def Session.updTube (x : Session) (p : Pos) (f : TubeEntry → TubeEntry) (counts : TubeCounts) :
    Session :=
  { x with tubes := x.tubes.map (fun t => if t.pos = p then f t else t), counts := counts }

/-- Whether an event is a TUBE_RETEST. -/
def Event.isRetest : Event → Bool
  | .tubeRetest _ _ _ => true
  | _ => false

/-- Whether an event is one of the Traverse Store Controller's: TRAVERSE_RELEASED, STORE_LOW or STORE_OK. -/
def Event.isStoreNews : Event → Bool
  | .traverseReleased _ _ _ | .storeLow _ | .storeOk _ => true
  | _ => false

/-! Release by an act (R83 to R86), from the state `s` before the act to the state `t` after it. -/

/-- Settling the traverse makes it releasable with nothing to wait for (R83, R84): it is archived and not
settled, and has no reader and no page in write. -/
def Traverse.freedBySettling (tr : Traverse) : Bool :=
  tr.archived && !tr.settled && tr.readers == 0 && tr.inWrite == 0

/-- The end of one reader leaves a releasable traverse nothing to wait for (R84, R86). -/
def Traverse.freedByReader (tr : Traverse) : Bool :=
  tr.archived && tr.settled && decide (tr.readers ≤ 1) && tr.inWrite == 0

/-- What settling leaves of the entry `tr` where it is not released (R83, R84): the flag is set, and a
release that must wait is pending. -/
def Traverse.settledTo (tr u : Traverse) : Prop :=
  u.settled = true ∧ (tr.archived = true → tr.settled = false → u.releasePending = true)

/-- What an act does to the traverse `tr`, of id `id`, that it may release (R84, R85), and to no other:
where `freed` holds the entry goes, its pages are at the tail of the pool, and the store-low flag follows
the new value; otherwise the pool and the flag stay, and the entry is as `stays` says. -/
def State.goesOrStays (s t : State) (id : Nat) (tr : Traverse) (freed : Bool)
    (stays : Traverse → Prop) : Prop :=
  let v := t.freePages - t.store.reservedPages
  (∀ n, n ≠ id → t.trav? n = s.trav? n) ∧ t.store.reservedPages = s.store.reservedPages
  ∧ (freed = true → t.trav? id = none ∧ t.store.pool = poolAppend s.store.pool tr.pages
      ∧ t.store.low = (if v < 65536 then true else if 131072 ≤ v then false else s.store.low))
  ∧ (freed = false → t.store.pool = s.store.pool ∧ t.store.low = s.store.low
      ∧ ∃ tr', t.trav? id = some tr' ∧ stays tr')

/-- What such an act raises of the Traverse Store Controller's events (R84, R85): TRAVERSE_RELEASED, and
STORE_LOW or STORE_OK where the value passes a bound of the flag. -/
def State.releaseNews (s t : State) (id : Nat) (tr : Traverse) (freed : Bool) : List Event :=
  let v := t.freePages - t.store.reservedPages
  if freed then
    .traverseReleased id tr.target.kind tr.pages.length ::
      (if v < 65536 ∧ s.store.low = false then [.storeLow v]
        else if 131072 ≤ v ∧ s.store.low = true then [.storeOk v] else [])
  else []

/-! What one act does to the store port and to a traverse, from the state `s` before the act to the state
`t` after it. -/

/-- How many channels stand before `ch` in the rotation that begins after the one last granted a write
(R78). -/
def writeTurn (last ch : Chan) : Nat := (ch.val + 3 - last.val) % 4

/-- How many stations stand before `st` in the rotation that begins after the one last granted a fetch
(R78). -/
def fetchTurn (last st : Stn) : Nat := (st.val + 2 - last.val) % 3

/-- The write lanes at the end of a page write from buffer `i` of `ch` (R64, R77): a page held in the other
buffer joins the end of its lane. -/
def State.lanesAfterWrite (s : State) (ch : Chan) (i : BufId) : Four (List LaneEntry) :=
  let other := (s.chan ch).buf i.other
  if other.state = .held then
    s.store.lanes.set ch (s.store.lanes.get ch ++ [laneEntryOf i.other other false false])
  else s.store.lanes

/-- With the lanes as given, the page of `e` is the one whose write the arbiter grants (R78): it is the
first of the lane of `ch`, before `rest`, and the lanes whose turn comes earlier are empty. -/
def State.writeDue (s : State) (lanes : Four (List LaneEntry)) (ch : Chan) (e : LaneEntry)
    (rest : List LaneEntry) : Prop :=
  lanes.get ch = e :: rest
    ∧ ∀ j, writeTurn s.store.lastWrite j < writeTurn s.store.lastWrite ch → lanes.get j = []

/-- The port after the end of a transfer (R78): with the lanes and the fetch requests as given, it takes
the write whose turn it is, with the page image of R79 and R80; with every lane empty, the fetch whose turn
it is; and it is free where nothing waits. The two rotation points follow the grant. -/
def State.portPassesOn (s t : State) (lanes : Four (List LaneEntry)) (waits : Stn → Bool) : Prop :=
  (∀ ch e rest page pool u, s.writeDue lanes ch e rest →
      poolPop s.store.pool = some (page, pool) → s.trav? e.traverse = some u →
      t.store.port = .write ch e.buf (some e.traverse) page
        (pageImage u u.pages.length e ((t.chan ch).buf e.buf) s.time)
      ∧ t.store.lanes = lanes.set ch rest ∧ t.store.lastWrite = ch
      ∧ t.store.lastFetch = s.store.lastFetch)
  ∧ ((∀ j, lanes.get j = []) → t.store.lanes = lanes ∧ t.store.lastWrite = s.store.lastWrite
      ∧ (∀ st, waits st = true →
          (∀ j, fetchTurn s.store.lastFetch j < fetchTurn s.store.lastFetch st → waits j = false) →
          t.store.lastFetch = st ∧ ∃ r, (t.stn st).stream = some r ∧ r.fetch = .fetching
            ∧ t.store.port = .fetch st
                (((s.trav? r.traverse).bind fun u => u.pages[r.next]?).getD 0) r.next true)
      ∧ ((∀ st, waits st = false) → t.store.port = .free ∧ t.store.lastFetch = s.store.lastFetch))

/-- What a granted write takes (R79), in an act that releases the pages `freed` and returns `returned`
reserved pages: the page at the head of the pool joins the traverse, and a page of its reservation is used
up. With every lane empty nothing is taken. -/
def State.pageTaken (s t : State) (lanes : Four (List LaneEntry)) (freed : List Nat)
    (returned : Nat) : Prop :=
  (∀ ch e rest page pool u, s.writeDue lanes ch e rest →
      poolPop s.store.pool = some (page, pool) → s.trav? e.traverse = some u →
      t.store.pool = poolAppend pool freed
      ∧ t.store.reservedPages = s.store.reservedPages - 1 - returned
      ∧ ∃ u', t.trav? e.traverse = some u' ∧ u'.pages = u.pages ++ [page]
          ∧ u'.reservation = u.reservation - 1)
  ∧ ((∀ j, lanes.get j = []) →
      t.store.pool = poolAppend s.store.pool freed
      ∧ t.store.reservedPages = s.store.reservedPages - returned)

/-- The station links are those of `s` with these events raised, but for the pages they fetch. -/
def State.raisedOnly (s t : State) (es : List Event) : Prop :=
  ∀ st, { t.stn st with stream := none } = { (s.raiseAll es).stn st with stream := none }

/-- The completion of an inspection pull (R31, R54, R71), of the traverse `tr` that `ch` has in hand with
its Screening Unit at `u`, on the tube `p`, in the session `x` and under the open bracket `b`: the
traverse is COMPLETE with the findings, the tube is ACQUIRED, and the channel comes to rest and sends
TRAVERSE_DONE, and PERMIT where its permit changed. `es` is what the act raises. -/
def State.inspectionCompleted (s t : State) (ch : Chan) (tr : Traverse) (u : ScreenState) (p : Pos)
    (x : Session) (b : Bracket) (es : List Event) : Prop :=
  let f := u.finalise
  let flags : TraverseFlags :=
    { tr.flags with landmarkMismatch := f.mismatch, indicationExcess := f.excess }
  let rest : ChanState := if b.calDue.isSome then .due else .ready
  let permit := permitOf s.session rest
  (∃ tr', t.trav? tr.id = some tr'
    ∧ tr'.state = .complete ∧ tr'.endTime = some x.seconds ∧ tr'.flags = flags
    ∧ tr'.landmarks = some f.landmarks ∧ tr'.indications = some f.indications
    ∧ tr'.autoCall = some (automaticCall (u.params.reporting.getD 0) flags f.indications.records
        x.seconds tr.id)
    ∧ tr'.reservation = 0 ∧ tr'.stored = tr.stored ∧ tr'.lost = tr.lost)
  ∧ t.session = some (x.updTube p (fun v =>
      { v with primary := none, secondary := none, finalCall := none, preClaim := none
               holder := none, cause := none, state := .acquired, changed := x.seconds })
      (x.counts.move .claimed .acquired))
  ∧ (t.chan ch).state = rest ∧ (t.chan ch).claim = none ∧ (t.chan ch).traverse = none
  ∧ (t.chan ch).expect = none ∧ (t.chan ch).pendingLost = false ∧ (t.chan ch).screen = .idle
  ∧ (t.chan ch).permit = some permit
  ∧ (t.chan ch).sent = (s.chan ch).sent ++ [.traverseDone tr.id tr.stored tr.lost flags false]
      ++ (if (s.chan ch).permit = some permit then [] else [.permit permit])
  ∧ es.count (.tubeAcquired p tr.id ch) = 1
  ∧ es.getLast? = some (.channelChange ch rest (some permit))
  ∧ (∀ k, k ≠ ch → t.chan k = s.chan k)
  ∧ t.cal = s.cal ∧ t.comparisons = s.comparisons ∧ t.config = s.config

/-- The completion of a calibration pull (R71, R124), of the traverse `tr` with the Screening Unit of `ch`
at `u`, in the session `x`: the traverse is COMPLETE with the findings and no call, and the attempt `a`
waits for its verdict. -/
def State.calibrationCompleted (s t : State) (ch : Chan) (tr : Traverse) (u : ScreenState)
    (x : Session) (a : Attempt) : Prop :=
  let f := u.finalise
  (∃ tr', t.trav? tr.id = some tr'
    ∧ tr'.state = .complete ∧ tr'.endTime = some x.seconds ∧ tr'.settled = tr.settled
    ∧ tr'.flags = { tr.flags with landmarkMismatch := f.mismatch, indicationExcess := f.excess }
    ∧ tr'.landmarks = some f.landmarks ∧ tr'.indications = some f.indications
    ∧ tr'.autoCall = none ∧ tr'.bracket = tr.bracket ∧ tr'.reservation = 0)
  ∧ t.attempt? ch = some { a with stage := .evaluating } ∧ (t.chan ch).screen = .idle
  ∧ (t.chan ch).traverse = (s.chan ch).traverse
  ∧ t.session = s.session ∧ t.cal.log = s.cal.log ∧ t.cal.brackets = s.cal.brackets
  ∧ (∀ k, k ≠ ch → t.chan k = s.chan k ∧ t.attempt? k = s.attempt? k)
  ∧ t.comparisons = s.comparisons ∧ t.config = s.config

/-- The clamped flags in the order of the table of R8. -/
def ClampFlags.toList (f : ClampFlags) : List Bool :=
  [f.plug, f.reporting, f.depthTol, f.locTol, f.detection, f.landmark, f.gap, f.interval, f.capacity]

/-- The range of each limit, in the order of the table of R8. -/
def limitRanges : List (Nat × Nat) :=
  [(20, 100), (5, 50), (5, 20), (5, 100), (10, 2000), (100, 30000), (1, 64), (1, 8), (16, 512)]

/-! The checks of the manual as tables: each step with its condition of failure. -/

/-- The first step of a table that fails. -/
def firstFailure {α : Type} (steps : List (Bool × α)) : Option α :=
  (steps.find? fun x => x.1).map (·.2)

/-- Whether the tube of a position is in one of some states. -/
def State.tubeIn (s : State) (p : Pos) (states : List TubeState) : Bool :=
  (s.tube? p).any fun t => states.contains t.state

/-- The claim check (R22). -/
def claimTable (s : State) (ch : Chan) (p : Pos) : List (Bool × ProbeReason) :=
  let c := (s.chan ch).state
  [(s.session.isNone, .noSession),
   (!s.planLocked, .planNotLocked),
   (c == .needsCal || c == .due, .calRequired),
   (c != .ready, .channelBusy),
   ((s.tube? p).isNone, .noSuchTube),
   (!(s.session.any fun x => rectHolds (x.plan.windows.get ch) p), .outOfWindow),
   (s.session.any fun x => x.plan.exclusions.excludes p, .excluded),
   (s.tubeIn p [.plugged], .plugged),
   (s.tubeIn p [.claimed], .alreadyClaimed),
   (s.tubeIn p [.acquired, .resolution, .final, .plugRecommended], .notClaimable),
   ((s.tube? p).any fun t => t.attempts == 8, .attemptsExhausted),
   (s.live + s.store.reservedSlots == 4096, .directoryFull),
   (decide (s.freePages - s.store.reservedPages < 1171), .storeFull)]

/-- The check of CAL_START (R122). -/
def calStartTable (s : State) (ch : Chan) (std : Nat) : List (Bool × ProbeReason) :=
  let c := (s.chan ch).state
  [(s.session.isNone, .noSession),
   (!s.planLocked, .planNotLocked),
   ((s.standard? std).isNone, .noSuchStandard),
   (c == .claimed || c == .recording || c == .paused || c == .calibrating || c == .evaluating,
    .channelBusy),
   ((s.openBracket ch).any fun b => b.standard != std, .standardMismatch),
   (s.cal.log.length + s.cal.inHand == 1024, .logFull),
   (s.live + s.store.reservedSlots == 4096, .directoryFull),
   (decide (s.freePages - s.store.reservedPages < 1171), .storeFull)]

/-- The reasons of a rejected calibration that its evaluation checks (R125), for a standard with a
depth of 100 whose flaws are paired with the kept indications in pull order. -/
def verdictTable (std : Standard) (t : Traverse) (found : List Indication) (excess : Nat)
    (ref : Indication) : List (Bool × CalReject) :=
  let rho := rotationOf ref.rawPhase
  let flaws := (std.depths.zip found).map (flawOf rho ref.rawAmp)
  [(t.flags.truncated, .truncated),
   (decide (0 < t.lost), .lostSamples),
   (found.length != std.depths.length || decide (0 < excess), .count),
   (decide (ref.rawAmp < 64), .weakReference),
   (flaws.any fun f => decide (1800 ≤ f.theta), .outOfSector),
   (!falling (byDepth flaws), .notMonotone)]

/-! The laws of the device. -/

/-- The tenth law, of one Station Link Controller: at most 8 requests, 8 unsent QUEUE_FULL responses
and 64 events (R169, R178), and the attention line follows the event queue (R180). -/
def StationLink.lawful (x : StationLink) : Bool :=
  decide (x.queue.length ≤ 8) && decide (x.queueFull.length ≤ 8) && decide (x.events.length ≤ 64)
    && x.attn == !x.events.isEmpty

/-- The tenth law. -/
def State.stationLaw (s : State) : Bool :=
  s.stations.s0.lawful && s.stations.s1.lawful && s.stations.s2.lawful

/-- The number of entries in a tube state. -/
def tubesIn (tubes : List TubeEntry) (t : TubeState) : Nat :=
  (tubes.filter fun e => e.state == t).length

/-- The tube table is in table order, one entry per position, and each counter is the number of the
entries in its state (R20). -/
def State.tubeLaw (s : State) : Prop :=
  ∀ x, s.session = some x →
    x.tubes.Pairwise (fun a b => a.pos.before b.pos = true)
      ∧ ∀ t, x.counts.get t = tubesIn x.tubes t

/-- The number of open brackets of a channel. -/
def openBrackets (brackets : List Bracket) (ch : Chan) : Nat :=
  (brackets.filter fun b => decide (b.channel = ch ∧ b.state = .opened)).length

/-- The fourth law and the first part of the fifth: the log is numbered from 1 in the order written and,
with the attempts in hand, never above 1,024; brackets are numbered with the log entries that
opened them, and a channel has at most one open (R123, R131, R132). -/
def State.calLaw (s : State) : Prop :=
  s.cal.log.map (·.number) = List.range' 1 s.cal.log.length
    ∧ s.cal.brackets.map (·.number) = s.cal.log.map (·.number)
    ∧ (∀ b ∈ s.cal.brackets, b.openingLog = b.number)
    ∧ (∀ ch, openBrackets s.cal.brackets ch ≤ 1)
    ∧ s.cal.log.length + s.cal.inHand ≤ 1024

/-- Each channel's permit is the one its state and the session give (R48), and an OFFLINE channel has
none. -/
def State.permitLaw (s : State) : Prop := ∀ ch, (s.chan ch).permit = s.permitNow ch

/-- The two memories are in their canonical form. -/
def State.memoryLaw (s : State) : Bool :=
  Memory.wf Config.ddrUnwritten s.store.ddr && Memory.wf Config.flashUnwritten s.config.flash

/-- The third law: live entries and reserved slots fit the directory, the reserved pages are free, and
every claim held before its pull has its reserved slot (R67, R75). -/
def State.storeLaw (s : State) : Bool :=
  decide (s.live + s.store.reservedSlots ≤ 4096) && decide (s.store.reservedPages ≤ s.freePages)
    && decide (s.claimsHeld ≤ s.store.reservedSlots)

/-- The page numbers that the pool and the page lists of the live traverses hold (R74). -/
def State.heldPages (s : State) : List Nat :=
  poolPages s.store.pool ++ s.store.directory.flatMap (·.pages)

/-- The second law: the pool and the page lists of the live traverses together hold each page number
of the store once (R74). -/
def State.pageLaw (s : State) : Prop := s.heldPages.Perm (List.range 1048576)

/-- The ninth law, of one traverse: at most 65,536 samples, and TRUNCATED at that number (R62). -/
def Traverse.sampleLaw (t : Traverse) : Bool :=
  decide (t.stored ≤ 65536) && (t.stored != 65536 || t.flags.truncated)

/-- The ninth law, of every live traverse. -/
def State.sampleLaw (s : State) : Prop := ∀ t ∈ s.store.directory, t.sampleLaw = true

/-- A depth curve with the properties of R115: 3 to 6 points, depths rising from at least 1 to 100,
rotated phases falling by at least 30 from below 1800 to 400. -/
def goodCurve (points : List (Nat × Nat)) : Prop :=
  3 ≤ points.length ∧ points.length ≤ 6
    ∧ points.Pairwise (fun a b => a.1 < b.1 ∧ b.2 + 30 ≤ a.2)
    ∧ (∀ p ∈ points, 1 ≤ p.1 ∧ p.2 < 1800)
    ∧ points.getLast? = some (100, 400)

/-- The traverse in hand of a channel, and those whose abort it has still to report, were pulled on
it. -/
def State.ownsWork (s : State) (ch : Chan) : Bool :=
  ((s.chan ch).traverse.toList ++ (s.chan ch).reports).all fun id =>
    (s.trav? id).all fun t => t.channel == ch

/-- The traverse ids of the work of a channel: the traverse in hand, the aborts it has still to report and
the calibration attempt. -/
def State.workIds (s : State) (ch : Chan) : List Nat :=
  (s.chan ch).traverse.toList ++ (s.chan ch).reports ++ (s.attempt? ch).toList.map (·.traverse)

/-- Traverse ids are given once (R67), and the work of a channel is its own and of the session: live
traverses have different ids below the next one, and each id of a channel's work is below the next one
and names no live traverse of another channel. With no session there is no next id, so no live traverse
and no work; then the pool is full, nothing is reserved, the log, the brackets and the comparisons are
empty, and each channel is OFFLINE or NEEDS_CAL (R74, R89, R142, R192). -/
def State.workLaw (s : State) : Prop :=
  (s.store.directory.map (·.id)).Nodup
    ∧ (∀ t ∈ s.store.directory, t.id < s.nextTraverse)
    ∧ (∀ ch, ∀ id ∈ s.workIds ch,
        id < s.nextTraverse ∧ ∀ t ∈ s.store.directory, t.id = id → t.channel = ch)
    ∧ (s.session = none →
        poolPages s.store.pool = List.range 1048576 ∧ s.store.reservedSlots = 0
          ∧ s.store.reservedPages = 0 ∧ s.cal.log = [] ∧ s.cal.brackets = [] ∧ s.comparisons = []
          ∧ ∀ ch, (s.chan ch).state = .offline ∨ (s.chan ch).state = .needsCal)

/-- A run is safe up to a state when the laws that one step keeps hold in it. -/
def State.safe (s : State) : Prop :=
  s.stationLaw = true ∧ s.tubeLaw ∧ s.calLaw ∧ s.permitLaw ∧ s.memoryLaw = true
    ∧ s.workLaw ∧ s.storeLaw = true ∧ s.pageLaw ∧ s.sampleLaw

end Sys2Proof.Machine
end

