-- ==== Sys2Proof/Certificates/Slice0/Obligations.lean ====
section
/-! DEFINITION. The statements about the model, for the provers. -/

open Sys2Proof Sys2Proof.Machine

/-! The whole machine. -/

/-- A step with a command waiting runs the command at the front of the queue on the state with the
queue's rest. -/
def Obligations.StepRunsFrontCommand : Prop :=
  ∀ (c : Instr) (s : State), step { s with pending := c :: s.pending } = exec c s

/-- A step with no command waiting (the model's choice, log entry 1): nothing in reset; the arrivals that
are due are queued; with none due, one millisecond passes on the session clock, on the timers of the links
that are up and on a wait for the flash, a save of which nothing is issued yet issues its first write
enable, or fails where the pin is high or has risen since the save began (the model's choices, log entries
11 and 47), and the rest stays. What is due: the request at the head of a queue, where loading has ended and
none is in hand, as its command (the model's choice, log entry 12); 500 ms of silence and 100 ms without a
sent frame on an up probe link, 2 s and 500 ms on an UP station link whose line is free (a busy line sends
no IDLE, and the count runs only on an UP link, the model's choice, log entry 29), the session times of a
claim's and a pause's expiry and of a bracket's age limit, 5 s of a busy flash from the end of the erase or
program, and the second of the session clock, held in milliseconds (the model's choice, log entry 6); and
nothing else. -/
def Obligations.IdleStepQueuesOrTicks : Prop :=
  (∀ s : State, s.pending = [] →
      (s.config.phase = .inReset → step s = .next s)
      ∧ (s.awake → s.due ≠ [] → step s = .next { s with pending := s.due })
      ∧ (s.awake → s.due = [] →
          ∃ t, step s = .next t ∧ t.pending = []
            ∧ t.session = s.session.map (fun x => { x with subMs := x.subMs + 1 })
            ∧ (∀ ch, t.chan ch =
                if (s.chan ch).state = .offline then s.chan ch
                else { s.chan ch with silenceMs := (s.chan ch).silenceMs + 1
                                      quietMs := (s.chan ch).quietMs + 1 })
            ∧ (∀ st,
                let y : StationLink := if (s.stn st).link = .down then s.stn st
                  else { s.stn st with silenceMs := (s.stn st).silenceMs + 1
                                       quietMs := (s.stn st).quietMs + 1 }
                (t.stn st).silenceMs = y.silenceMs ∧ (t.stn st).quietMs = y.quietMs
                  ∧ ((∀ x ms, s.config.save ≠ .running x .start ms) ∨ s.config.barred = false →
                      t.stn st = y))
            ∧ (∀ x ms, s.config.save = .running x .start ms →
                (s.config.cfgProtect = false → s.config.protectRose = false →
                  t.config = { s.config with save := .running x (.writeEnable .erase) 0 })
                ∧ (s.config.cfgProtect = true ∨ s.config.protectRose = true →
                  let r : SaveResult := .failed (.cfgProtect .erase)
                  t.config = { s.config with save := .idle, lastSave := some r }))
            ∧ (∀ x ms, s.config.save = .running x .eraseWait ms →
                t.config = { s.config with save := .running x .eraseWait (ms + 1) })
            ∧ (∀ x k ms, s.config.save = .running x (.programWait k) ms →
                t.config = { s.config with save := .running x (.programWait k) (ms + 1) })
            ∧ ((∀ x ms, s.config.save ≠ .running x .start ms ∧ s.config.save ≠ .running x .eraseWait ms
                  ∧ ∀ k, s.config.save ≠ .running x (.programWait k) ms) → t.config = s.config)
            ∧ t.store = s.store ∧ t.cal = s.cal ∧ t.comparisons = s.comparisons
            ∧ t.config.shadow = s.config.shadow ∧ t.config.flash = s.config.flash))
  ∧ (∀ (s : State),
        (∀ ch, (.probeLinkLoss ch ∈ s.due ↔ (s.chan ch).state ≠ .offline ∧ 500 ≤ (s.chan ch).silenceMs)
          ∧ (.probeIdleSend ch ∈ s.due ↔ (s.chan ch).state ≠ .offline ∧ 100 ≤ (s.chan ch).quietMs)
          ∧ (.claimExpiry ch ∈ s.due ↔
              ∃ x d, s.session = some x ∧ (s.chan ch).claimDue = some d ∧ d ≤ x.seconds)
          ∧ (.pauseExpiry ch ∈ s.due ↔
              ∃ x d, s.session = some x ∧ (s.chan ch).pauseDue = some d ∧ d ≤ x.seconds)
          ∧ (.bracketAgeLimit ch ∈ s.due ↔
              ∃ x b, s.session = some x ∧ s.openBracket ch = some b ∧ b.calDue = none
                ∧ b.openedAt + x.plan.limits.interval * 3600 ≤ x.seconds))
        ∧ (∀ st, (.stationLinkLoss st ∈ s.due ↔ (s.stn st).link = .up ∧ 2000 ≤ (s.stn st).silenceMs)
          ∧ (.stationIdleSend st ∈ s.due ↔
              (s.stn st).link = .up ∧ (s.stn st).line = none ∧ 500 ≤ (s.stn st).quietMs))
        ∧ (.eraseTimeout ∈ s.due ↔ ∃ x ms, s.config.save = .running x .eraseWait ms ∧ 5000 ≤ ms)
        ∧ (.programTimeout ∈ s.due ↔
          ∃ x k ms, s.config.save = .running x (.programWait k) ms ∧ 5000 ≤ ms)
        ∧ (.sessionSecondTick ∈ s.due ↔ ∃ x, s.session = some x ∧ 1000 ≤ x.subMs)
        ∧ (∀ st r, requestInstr st r ∈ s.due ↔ s.config.phase = .ready ∧ (s.stn st).inHand = false
            ∧ (s.stn st).queue.head? = some r)
        ∧ ∀ c ∈ s.due, (∃ st r, c = requestInstr st r)
          ∨ (∃ ch, c = .probeLinkLoss ch ∨ c = .probeIdleSend ch ∨ c = .claimExpiry ch
              ∨ c = .pauseExpiry ch ∨ c = .bracketAgeLimit ch)
          ∨ (∃ st, c = .stationLinkLoss st ∨ c = .stationIdleSend st)
          ∨ c = .eraseTimeout ∨ c = .programTimeout ∨ c = .sessionSecondTick)

/-- POWER_ON_RESET puts every block into its power-on reset state; the standards stay in the shadow, for the
start-up load to replace (log entry 44), and the two memories and the pin CFG_PROTECT keep what they hold
(the model's choice, log entry 13). -/
def Obligations.PowerOnResetState : Prop :=
  ∀ s : State, ∃ t, exec .powerOnReset s = .next t
    ∧ t.pending = s.pending ∧ t.session = none ∧ t.comparisons = []
    ∧ (∀ ch, (t.chan ch).state = .offline ∧ (t.chan ch).silenceMs = 0 ∧ (t.chan ch).identity = none
        ∧ (t.chan ch).permit = none ∧ (t.chan ch).claim = none ∧ (t.chan ch).traverse = none
        ∧ (t.chan ch).bufA.state = .free ∧ (t.chan ch).bufB.state = .free
        ∧ (t.chan ch).linkLossMark = false ∧ (t.chan ch).screen = .idle)
    ∧ t.store.directory = [] ∧ t.store.reservedSlots = 0 ∧ t.store.reservedPages = 0
    ∧ poolPages t.store.pool = List.range 1048576 ∧ (∀ ch, t.store.lanes.get ch = [])
    ∧ t.store.port = .free ∧ t.store.lastWrite = 3 ∧ t.store.lastFetch = 2 ∧ t.store.low = false
    ∧ t.cal.log = [] ∧ t.cal.brackets = [] ∧ (∀ ch, t.cal.attempts.get ch = none)
    ∧ (∀ st, (t.stn st).link = .down ∧ (t.stn st).silenceMs = 0 ∧ (t.stn st).role = none
        ∧ (t.stn st).queue = [] ∧ (t.stn st).queueFull = [] ∧ (t.stn st).stream = none
        ∧ (t.stn st).events = [] ∧ (t.stn st).eventsLost = false ∧ (t.stn st).attn = false)
    ∧ t.config.phase = .inReset ∧ t.config.save = .idle ∧ t.config.lastSave = none
    ∧ t.store.ddr = s.store.ddr ∧ t.config.flash = s.config.flash
    ∧ t.config.cfgProtect = s.config.cfgProtect ∧ t.config.protectRose = false
    ∧ t.config.shadow.standards = s.config.shadow.standards

/-- RESET_RELEASE begins LOADING, and with RESET_N already high changes nothing (the model's choice, log
entry 14). STARTUP_READ_END tests the
4,096 bytes read, loads the shadow or the factory defaults, enters READY and gives each station the
role the shadow holds for it; nothing else changes. The bytes that the flash returns otherwise come with
the command (the model's choice, log entry 5). -/
def Obligations.StartUpLoadsShadow : Prop :=
  (∀ s : State,
      (s.config.phase = .inReset →
        exec .resetRelease s = .next { s with config := { s.config with phase := .loading } })
      ∧ (s.awake → exec .resetRelease s = .next s))
  ∧ (∀ (upset : List Host.Cell) (s : State), s.config.phase = .loading →
        let image := overlay upset (Memory.readBlock 0xFF s.config.flash 0 4096)
        ∃ sh status, exec (.startupReadEnd upset) s = .next
            { s with
              config := { s.config with phase := .ready, shadow := sh, status := some status }
              stations := ⟨{ s.stations.s0 with role := some sh.roles.s0 },
                           { s.stations.s1 with role := some sh.roles.s1 },
                           { s.stations.s2 with role := some sh.roles.s2 }⟩ }
          ∧ (natAt image 0 2 ≠ 0x5A3C → sh = Shadow.factory ∧ status = .defaulted .signature)
          ∧ (natAt image 0 2 = 0x5A3C → wordSum image % 65536 ≠ 0 →
              sh = Shadow.factory ∧ status = .defaulted .checksum)
          ∧ (natAt image 0 2 = 0x5A3C → wordSum image % 65536 = 0 →
              (∃ rejected, status = .loaded (imageRoles image).isNone rejected
                ∧ ∀ id, id ∈ rejected ↔
                    id < 8 ∧ natAt image (32 + 16 * id) 1 = 1 ∧ sh.standards[id]? = some none)
              ∧ (∀ r, imageRoles image = some r → sh.roles = r)
              ∧ (imageRoles image = none → sh.roles = ⟨.primary, .secondary, .lead⟩)
              ∧ sh.limits.toList = (List.range 9).map (fun i => natAt image (6 + 2 * i) 2)
              ∧ sh.standards.length = 8
              ∧ ∀ id < 8, sh.standards[id]? = some (slotStandard image id)))

/-- No command is refused, the only fault is the end of a transfer of a page the store does not have, and
a command leaves the queue of waiting commands to the step. While RESET_N is low only power-on reset,
the rise of RESET_N and the pin CFG_PROTECT change anything. -/
def Obligations.OnlyAbsentPagesStop : Prop :=
  ((∀ (c : Instr) (s : State),
        (∀ r, exec c s ≠ .refused r)
        ∧ ∀ f, exec c s = .fault f →
            ∃ page, f = .noSuchPage page ∧ 1048576 ≤ page
              ∧ ((c = .pageWriteEnd ∧ ∃ ch i id bytes, s.store.port = .write ch i id page bytes)
                ∨ (∃ u, c = .fetchEnd u) ∧ ∃ st seq d, s.store.port = .fetch st page seq d))
    ∧ (∀ (c : Instr) (s t : State), exec c s = .next t → t.pending = s.pending))
  ∧ (∀ (c : Instr) (s : State), s.config.phase = .inReset →
        c ≠ .powerOnReset → c ≠ .resetRelease → c ≠ .cfgProtectRise → c ≠ .cfgProtectFall →
        exec c s = .next s)

/-- A byte of the DDR store changes only at the end of a page write, a byte of the flash only at the end
of a command of a running save, and the pin CFG_PROTECT only by its own commands. The roles, the
limits and the status of the configuration shadow, and the role of each station, change only at
power-on reset and at the end of loading; the standards change only at the end of loading and by
DEFINE_STANDARD, and not at power-on reset itself (R142; the model's reading, log entry 44). That the
memories are kept through a power-on reset (log entry 13) and the flash through a reset or a timeout that
cuts a command off (log entry 33) is the model's choice. -/
def Obligations.MemoriesAndShadowChangeOnlyByTheirCommands : Prop :=
  (∀ (c : Instr) (s t : State), exec c s = .next t →
      (c ≠ .pageWriteEnd → t.store.ddr = s.store.ddr)
      ∧ ((∀ b u, c ≠ .saveCommandEnd b u) → t.config.flash = s.config.flash)
      ∧ (c ≠ .cfgProtectRise → c ≠ .cfgProtectFall → t.config.cfgProtect = s.config.cfgProtect))
  ∧ (∀ (c : Instr) (s t : State), exec c s = .next t → c ≠ .powerOnReset →
        (∀ u, c ≠ .startupReadEnd u) →
        t.config.shadow.roles = s.config.shadow.roles ∧ t.config.shadow.limits = s.config.shadow.limits
        ∧ t.config.status = s.config.status ∧ (∀ st, (t.stn st).role = (s.stn st).role))
  ∧ (∀ (c : Instr) (s t : State), exec c s = .next t → (∀ u, c ≠ .startupReadEnd u) →
        (∀ st tag id d f th, c ≠ .defineStandard st tag id d f th) →
        t.config.shadow.standards = s.config.shadow.standards)

/-- A session begins only by OPEN_SESSION and ends only by CLOSE_SESSION and power-on reset; its wall-time
base, and the lock once set with all that it freezes, stay through every other command; and the
calibration log is append-only: a verdict adds at most one entry at its end. -/
def Obligations.SessionLockAndLogLast : Prop :=
  (∀ (c : Instr) (s t : State), exec c s = .next t → c ≠ .powerOnReset →
      (∀ st tag wall, c ≠ .openSession st tag wall) → (∀ st tag f, c ≠ .closeSession st tag f) →
      (s.session = none → t.session = none)
      ∧ ∀ x, s.session = some x → ∃ y, t.session = some y ∧ y.base = x.base
          ∧ (x.plan.locked = true → y.plan.locked = true ∧ y.plan.limits = x.plan.limits
              ∧ y.plan.mode = x.plan.mode ∧ y.plan.classes = x.plan.classes
              ∧ y.tubes.map (fun e => (e.pos, e.cls)) = x.tubes.map (fun e => (e.pos, e.cls))))
  ∧ (∀ (c : Instr) (s t : State), exec c s = .next t → c ≠ .powerOnReset →
        (∀ st tag wall, c ≠ .openSession st tag wall) → (∀ st tag f, c ≠ .closeSession st tag f) →
        t.cal.log = s.cal.log ∨ ∃ e, t.cal.log = s.cal.log ++ [e] ∧ ∃ ch, c = .calibrationVerdict ch)

/-! Invariants that every step keeps. -/

/-- Every step keeps the tenth law: at most 8 requests, 8 unsent QUEUE_FULL responses and 64 events at
each station; the attention line is asserted exactly while the event queue holds a record. -/
def Obligations.StationLawIsKept : Prop :=
  ∀ s t : State, s.stationLaw = true → step s = .next t → t.stationLaw = true

/-- Every step keeps the tube table in table order with one entry per position, and each of the nine
counters equal to the number of entries in its state; so the counters sum to the defined positions. -/
def Obligations.TubeLawIsKept : Prop :=
  ∀ s t : State, s.tubeLaw → step s = .next t →
    t.tubeLaw ∧ ∀ x, t.session = some x →
      x.counts.pending + x.counts.claimed + x.counts.acquired + x.counts.resolution + x.counts.final
        + x.counts.plugRecommended + x.counts.retest + x.counts.restricted + x.counts.plugged
      = x.tubes.length

/-- Every step keeps the log and the brackets numbered from 1 in order, the log with the attempts in
hand within 1,024, and at most one open bracket on a channel. Under the law of the work in hand every
step keeps the third law too: live entries and reserved slots within 4,096, the reserved pages free, and
a reserved slot for every claim held before its pull. -/
def Obligations.CalibrationLawIsKept : Prop :=
  (∀ s t : State, s.calLaw → step s = .next t → t.calLaw)
  ∧ ∀ s t : State, s.workLaw → s.storeLaw = true → step s = .next t → t.storeLaw = true

/-- Every step keeps each channel's permit the one that its state and the session give. Every step keeps
the law of the work in hand: live traverses have different ids below the next one, what a channel has in
hand is its own, and with no session there is no live traverse, no work, nothing reserved, and every
channel is OFFLINE or NEEDS_CAL; so the traverses a channel has in hand were pulled on it. -/
def Obligations.PermitLawIsKept : Prop :=
  (∀ s t : State, s.permitLaw → step s = .next t → t.permitLaw)
  ∧ ∀ s t : State, s.workLaw → step s = .next t → t.workLaw ∧ ∀ ch, t.ownsWork ch = true

/-- Every step keeps the two memories in their canonical form. Under the law of the work in hand every
step keeps the second law, that the pool and the page lists of the live traverses together hold each
page number of the store once, and the ninth, that a live traverse holds at most 65,536 samples and is
TRUNCATED at that number. -/
def Obligations.MemoriesStayCanonical : Prop :=
  (∀ s t : State, s.memoryLaw = true → step s = .next t → t.memoryLaw = true)
  ∧ (∀ s t : State, s.workLaw → s.pageLaw → step s = .next t → t.pageLaw)
  ∧ ∀ s t : State, s.workLaw → s.sampleLaw → step s = .next t → t.sampleLaw

/-- The laws that every step keeps hold right after reset: of the stations, the tubes, the calibrations,
the permits, the memories, the work in hand, the store, the pages and the samples. -/
def Obligations.LawsHoldAtReset : Prop :=
  State.reset.safe ∧ State.reset.storeLaw = true ∧ State.reset.pageLaw

/-! Encodings. -/

/-- A frame of a probe unit, spelled as the manual lays it out, is read back as its command with every
operand, on every channel. -/
def Obligations.ProbeFramesRoundTrip : Prop :=
  ∀ ch : Chan,
    (∀ id, identityWf id = true →
      probeArrival ch (probeFrameBytes 1 (identityBytes id)) = .hello ch id)
    ∧ probeArrival ch (probeFrameBytes 2 []) = .probeIdle ch
    ∧ (∀ row < 256, ∀ col < 256,
        probeArrival ch (probeFrameBytes 3 (leBytes 1 row ++ leBytes 1 col)) = .claim ch row col)
    ∧ probeArrival ch (probeFrameBytes 4 []) = .releaseClaim ch
    ∧ probeArrival ch (probeFrameBytes 5 []) = .pullStart ch
    ∧ (∀ seq r, seq < 256 → readingWf r = true →
        probeArrival ch (probeFrameBytes 6 (leBytes 1 seq ++ readingBytes r)) = .sample ch seq r)
    ∧ probeArrival ch (probeFrameBytes 7 []) = .pause ch
    ∧ probeArrival ch (probeFrameBytes 8 []) = .resume ch
    ∧ probeArrival ch (probeFrameBytes 9 []) = .pullEnd ch
    ∧ probeArrival ch (probeFrameBytes 10 (leBytes 1 0)) = .abandon ch .restriction
    ∧ probeArrival ch (probeFrameBytes 10 (leBytes 1 1)) = .abandon ch .operator
    ∧ (∀ std < 256, probeArrival ch (probeFrameBytes 11 (leBytes 1 std)) = .calStart ch std)
    ∧ probeArrival ch (probeFrameBytes 12 []) = .probeFailed ch

/-- A frame of a station, spelled as the manual lays it out, is read back as its command: every request
with its tag and every argument, and ABORT_STREAM and IDLE whatever their tag and name code. The widths
of the arguments that R196 does not list are presumed (the model's choice, log entry 16), and bits 9 to
15 of a set of tube states and of the mask of SET_LIMITS are not examined (the model's choice, log entry
17). -/
def Obligations.StationFramesRoundTrip : Prop :=
  ∀ (st : Stn) (tag : Nat), tag < 256 →
    (∀ req p, requestWf req = true → requestPayload req = some p →
      stationArrival st (stationFrameBytes 1 tag (requestCode req) p)
        = .stationRequestFrame st tag req)
    ∧ ∀ name < 256, stationArrival st (stationFrameBytes 2 tag name []) = .abortStream st
        ∧ stationArrival st (stationFrameBytes 3 tag name []) = .stationIdle st

/-- The image that a save writes of a shadow loads as that shadow: its roles, nine limits and eight
standards, LOADED with no fallback and none rejected; and the erase and the sixteen programs of the
save leave that image in the flash, which with the erase alone fails the test of the signature. -/
def Obligations.SavedImageLoadsBack : Prop :=
  (∀ x : Shadow, x.roles.s0 ≠ x.roles.s1 → x.roles.s0 ≠ x.roles.s2 → x.roles.s1 ≠ x.roles.s2 →
      (∀ v ∈ x.limits.toList, v < 65536) → x.standards.length = 8 →
      (∀ sd, some sd ∈ x.standards → sd.good = true) →
      (imageOf x).length = 4096 ∧ loadImage (imageOf x) = (x, .loaded false []))
  ∧ (∀ (c : ConfigMem) (x : Shadow), (imageOf x).length = 4096 →
        ((List.range 16).foldl (fun c k => c.programFlash x k) c.eraseFlash).flashImage = imageOf x)
  ∧ ∀ c : ConfigMem, imageFault c.eraseFlash.flashImage = some .signature

/-- A page as it is written: 2,048 bytes, the samples in slots of 36 bytes with the unused ones zero,
every field of the trailer at its place, the "so far" counts saturated, the bytes given as zero, and a
CRC-16 that agrees. The CRC-16 of the manual's
nine bytes is 29B1h, and any run of bytes followed by its CRC-16, low byte first, passes the check. -/
def Obligations.PageImageAndCrc : Prop :=
  (∀ (t : Traverse) (seq : Nat) (e : LaneEntry) (b : PageBuffer) (time : Nat),
      b.samples.length ≤ 56 → t.id < 4294967296 → seq < 65536 → e.samples < 256 →
      b.firstIndex < 65536 → time < 4294967296 →
      let page := pageImage t seq e b time
      page.length = 2048 ∧ crcGood page = true
        ∧ (∀ i x, b.samples[i]? = some x → bytesAt page (36 * i) 36 = x.bytes)
        ∧ (∀ off, 36 * b.samples.length ≤ off → off < 2016 → natAt page off 1 = 0)
        ∧ natAt page 2016 4 = t.id ∧ natAt page 2020 2 = seq ∧ natAt page 2022 1 = e.samples
        ∧ natAt page 2023 1 = (if e.last then 1 else 0) + (if e.aborted then 2 else 0)
            + (if e.lostWithin then 4 else 0)
        ∧ natAt page 2024 2 = b.firstIndex ∧ natAt page 2031 1 = t.channel.val
        ∧ natAt page 2032 4 = time
        ∧ natAt page 2026 2 = 0 ∧ natAt page 2043 3 = 0
        ∧ (∀ x, b.samples.head? = some x → x.reading.position < 16777216 →
            natAt page 2028 3 = x.reading.position)
        ∧ (∀ p, t.target = .tube p → p.row < 256 → p.col < 256 →
            natAt page 2036 1 = 0 ∧ natAt page 2037 1 = p.row ∧ natAt page 2038 1 = p.col)
        ∧ (∀ id, t.target = .standard id → id < 256 →
            natAt page 2036 1 = 1 ∧ natAt page 2037 1 = id ∧ natAt page 2038 1 = 0)
        ∧ natAt page 2039 1 = min 255 e.soFar.landmarks
        ∧ natAt page 2040 2 = min 65535 e.soFar.lost
        ∧ natAt page 2042 1 = min 255 e.soFar.indications)
  ∧ (crc16 [0x31, 0x32, 0x33, 0x34, 0x35, 0x36, 0x37, 0x38, 0x39] = 0x29B1
        ∧ ∀ bs : List Byte, crcGood (bs ++ leBytes 2 (crc16 bs).toNat) = true)

/-! Arithmetic. -/

/-- The raw amplitude is the floor of the exact square root of dX² + dY², from 0 to 92,680, 0 exactly
when both are 0; the record of a kept window carries it, and an accepted calibration takes the one of
the indication paired with its 100 %TW flaw as A_ref. -/
def Obligations.RawAmplitudeIsFlooredRoot : Prop :=
  (∀ dx dy : Int, -65535 ≤ dx → dx ≤ 65535 → -65535 ≤ dy → dy ≤ 65535 →
    let a : Int := rawAmplitude dx dy
    a * a ≤ dx * dx + dy * dy ∧ dx * dx + dy * dy < (a + 1) * (a + 1) ∧ a ≤ 92680
      ∧ (a = 0 ↔ dx = 0 ∧ dy = 0))
  ∧ (∀ (u : ScreenState) (w : IndWindow) (capped : Bool), u.indications.length < 64 →
      let c := peakToPeak w.first (w.values.take (w.last - w.first + 1))
      ((u.closeIndication w capped).indications.getLast?).map (·.rawAmp)
        = some (rawAmplitude c.dx c.dy))
  ∧ ∀ (std : Standard) (t : Traverse) (f : Figures), evaluate std t = .ok f →
      ∃ l i, t.indications = some l
        ∧ (std.depths.zip (l.records.map (·.ind))).find? (fun x => x.1 == 100) = some (100, i)
        ∧ f.aRef = i.rawAmp

/-- The peak-to-peak pair of a window has the greatest squared distance of all its pairs, and among
those that share it the smallest i and then the smallest j; a window of one sample gives its own index
twice and a zero vector. The record of a kept window carries the pair of its samples, from its first to
its last, and is sized by it. -/
def Obligations.PeakToPeakIsTheGreatestPair : Prop :=
  (∀ (first : Nat) (v : XY), peakToPeak first [v] = ⟨first, first, 0, 0⟩)
  ∧ (∀ (u : ScreenState) (w : IndWindow) (capped : Bool), u.indications.length < 64 →
      let c := peakToPeak w.first (w.values.take (w.last - w.first + 1))
      ∃ x, (u.closeIndication w capped).indications = u.indications ++ [x]
        ∧ x.pairI = c.i ∧ x.pairJ = c.j ∧ x.rawAmp = rawAmplitude c.dx c.dy
        ∧ x.rawPhase = rawPhase c.dx c.dy ∧ x.peak = w.peak)
  ∧ ∀ (first : Nat) (vs : List XY), 2 ≤ vs.length →
      let sq := fun (i j : Nat) =>
        let p := (vs[i]?).getD ⟨0, 0⟩
        let q := (vs[j]?).getD ⟨0, 0⟩
        (q.x - p.x) * (q.x - p.x) + (q.y - p.y) * (q.y - p.y)
      ∃ i j p q, i < j ∧ vs[i]? = some p ∧ vs[j]? = some q
        ∧ peakToPeak first vs = ⟨first + i, first + j, q.x - p.x, q.y - p.y⟩
        ∧ (∀ k m, k < m → m < vs.length →
            sq k m ≤ sq i j ∧ (sq k m = sq i j → i < k ∨ (i = k ∧ j ≤ m)))
        ∧ ((∀ v ∈ vs, -32768 ≤ v.x ∧ v.x ≤ 32767 ∧ -32768 ≤ v.y ∧ v.y ≤ 32767) →
            (q.x - p.x).natAbs ≤ 65535 ∧ (q.y - p.y).natAbs ≤ 65535)

/-- The raw phase lies from 0 to 3599, gives the four axes as stated, is 0 for a zero vector, and turns
by 900 with a quarter turn of the vector. For every vector of the part, with components of at most 65,535,
it is the direction θ of the vector, in tenths of a degree, rounded to nearest with an exact half up and
3600 written as 0. The rotation of a calibration turns its reference flaw to
400; a rotated phase lies from 0 to 3599, and rotation preserves the circular difference. -/
def Obligations.PhasesTurnWithTheVector : Prop :=
  (rawPhase 0 0 = 0
    ∧ (∀ d : Int, 0 < d → rawPhase d 0 = 0 ∧ rawPhase 0 d = 900 ∧ rawPhase (-d) 0 = 1800
        ∧ rawPhase 0 (-d) = 2700)
    ∧ ∀ dx dy : Int, rawPhase dx dy < 3600
        ∧ (¬(dx = 0 ∧ dy = 0) → rawPhase (-dy) dx = (rawPhase dx dy + 900) % 3600))
  ∧ (∀ (dx dy : Int) (r θ : ℝ), dx.natAbs ≤ 65535 → dy.natAbs ≤ 65535 →
        0 < r → 0 ≤ θ → θ < 2 * Real.pi → (dx : ℝ) = r * Real.cos θ → (dy : ℝ) = r * Real.sin θ →
        rawPhase dx dy = ⌊θ * 1800 / Real.pi + 1 / 2⌋₊ % 3600)
  ∧ ((∀ phase < 3600, Machine.rotationOf phase < 3600 ∧ (Machine.rotationOf phase + phase) % 3600 = 400
        ∧ rotate (Machine.rotationOf phase) phase = 400)
      ∧ (∀ rho phase, rotate rho phase < 3600 ∧ rotate rho phase = (phase + rho) % 3600)
      ∧ ∀ rho a b, a < 3600 → b < 3600 →
          circularDiff (rotate rho a) (rotate rho b) = circularDiff a b)

/-- The depth stage on a curve that every accepted calibration has: no depth in the distorted sector,
the clamps at its two ends with their flags, each point's own depth, and between two adjacent points
the exact value rounded to nearest with an exact half going to the deeper. -/
def Obligations.DepthStageByRegion : Prop :=
  (∀ (points : List (Nat × Nat)), goodCurve points → ∀ theta < 3600,
      (1800 ≤ theta → depthStage points theta = (none, .none))
      ∧ (∀ p, points.head? = some p → p.2 < theta → theta < 1800 →
          depthStage points theta = (some p.1, .shallowLimit))
      ∧ (∀ p ∈ points, theta = p.2 → depthStage points theta = (some p.1, .none))
      ∧ (∀ k a b, points[k]? = some a → points[k + 1]? = some b → b.2 < theta → theta < a.2 →
          depthStage points theta =
            (some (a.1 + (2 * ((b.1 - a.1) * (a.2 - theta)) + (a.2 - b.2)) / (2 * (a.2 - b.2))), .none))
      ∧ (theta < 400 → depthStage points theta = (some 100, .deepLimit)))
  ∧ (∀ (a b : Nat × Nat) (theta : Nat), a.1 < b.1 → b.2 < theta → theta < a.2 →
        let q := (b.1 - a.1) * (a.2 - theta)
        let r := a.2 - b.2
        let d := interpolate a b theta
        d = a.1 + (2 * q + r) / (2 * r) ∧ a.1 ≤ d ∧ d ≤ b.1
          ∧ 2 * (d - a.1) * r ≤ 2 * q + r ∧ 2 * q < (2 * (d - a.1) + 1) * r)

/-- Every depth the part computes lies from the shallowest flaw depth of the calibration to 100, and
every rotated phase, of an indication and of a flaw of an accepted calibration, from 0 to 3599. The flaws
of an accepted calibration of a defined standard, in order of depth, are such a curve. -/
def Obligations.DepthsAndPhasesStayInRange : Prop :=
  (∀ (marks : List LandmarkRecord) (c : CalRef) (i : Indication), goodCurve c.points →
    let z := sizingOf marks c i
    z.theta < 3600 ∧ (∀ d, z.depth = some d → d ≤ 100 ∧ ∀ p, c.points.head? = some p → p.1 ≤ d)
      ∧ ∀ (std : Standard) (tr : Traverse) (f : Figures), evaluate std tr = .ok f →
          ∀ x ∈ f.flaws, x.theta < 3600)
  ∧ ∀ (std : Standard) (tr : Traverse) (f : Figures) (e : LogEntry), std.good = true →
      evaluate std tr = .ok f → e.flaws = f.flaws →
      goodCurve e.calRef.points
        ∧ e.calRef.points.Perm (f.flaws.map fun x => (x.depth, x.theta))

/-- The circular difference is |a − b|, replaced by 3600 less it above 1800: from 0 to 1800, symmetric,
0 only for equal phases, and unchanged when both are rotated. The closing comparison takes it of each
flaw, and records the greatest, with the earliest flaw on a tie, as the worst phase drift. The worst
amplitude drift is that of the greatest ratio of change to opening amplitude, a change from 0 above all
others, with the earliest flaw on a tie; it is recorded in tenths of a percent, rounded, at most
65,535. -/
def Obligations.CircularDifferenceAsStated : Prop :=
  (∀ a b, a < 3600 → b < 3600 →
    (circularDiff a b : Int) =
      (let d := ((a : Int) - b).natAbs; if 1800 < d then 3600 - (d : Int) else d)
    ∧ circularDiff a b ≤ 1800 ∧ circularDiff a b = circularDiff b a
    ∧ (circularDiff a b = 0 ↔ a = b)
    ∧ ∀ r, circularDiff ((a + r) % 3600) ((b + r) % 3600) = circularDiff a b)
  ∧ ∀ (number rho : Nat) (opening closing : List Flaw),
      let c := closingComparison number rho opening closing
      let drifts := (opening.zip closing).map fun x =>
        circularDiff ((x.2.phase + rho) % 3600) x.1.theta
      drifts ≠ [] →
        1 ≤ c.phaseAt ∧ drifts[c.phaseAt - 1]? = some c.phaseDrift
          ∧ (∀ d ∈ drifts, d ≤ c.phaseDrift)
          ∧ (∀ k d, k + 1 < c.phaseAt → drifts[k]? = some d → d < c.phaseDrift)
          ∧ (let pairs := opening.zip closing
             let change := fun x : Flaw × Flaw => ((x.2.amp : Int) - x.1.amp).natAbs
             let fromNone := fun x : Flaw × Flaw => x.1.amp = 0 ∧ 0 < x.2.amp
             let above := fun x y : Flaw × Flaw =>
               ¬fromNone y ∧ (fromNone x ∨ change y * max 1 x.1.amp < change x * max 1 y.1.amp)
             1 ≤ c.ampAt ∧ ∃ w, pairs[c.ampAt - 1]? = some w
               ∧ (fromNone w → c.ampDrift = 65535)
               ∧ (w.1.amp = 0 → w.2.amp = 0 → c.ampDrift = 0)
               ∧ (0 < w.1.amp → c.ampDrift =
                   min 65535 ((2 * (change w * 1000) + w.1.amp) / (2 * w.1.amp)))
               ∧ (∀ x ∈ pairs, ¬above x w)
               ∧ ∀ k x, k + 1 < c.ampAt → pairs[k]? = some x → above w x)

/-- The verdict of an evaluation is the first reason of the table of R125 that applies, and otherwise
the figures: A_ref and the rotation of the reference flaw, and each flaw turned and scaled by them. -/
def Obligations.EvaluationTakesFirstReason : Prop :=
  ∀ (std : Standard) (t : Traverse) (l : IndicationList) (ref : Indication),
    std.good = true → t.indications = some l →
    (l.records.length = std.depths.length →
      (std.depths.zip (l.records.map (·.ind))).find? (fun x => x.1 == 100) = some (100, ref)) →
    evaluate std t =
      match firstFailure (verdictTable std t (l.records.map (·.ind)) l.excess ref) with
      | some r => .error r
      | none =>
        .ok { flaws := (std.depths.zip (l.records.map (·.ind))).map fun x =>
                { depth := x.1, phase := x.2.rawPhase, amp := x.2.rawAmp
                  theta := (x.2.rawPhase + Machine.rotationOf ref.rawPhase) % 3600
                  calAmp := min 65535 ((2 * (x.2.rawAmp * 500) + ref.rawAmp) / (2 * ref.rawAmp)) }
              rho := Machine.rotationOf ref.rawPhase, aRef := ref.rawAmp }

/-- The greedy matching of R155: the first primary entry takes, among the second-list entries with its
landmark index and an offset within the tolerance, the nearest, the earliest on a tie, and matching goes
on with the rest; with none it is unmatched and takes nothing. So every matched pair fits, the primary
entries are the matched and the unmatched ones in pull order, each second-list entry is used at most
once, and no unmatched primary entry has a candidate left at the end. -/
def Obligations.MatchingIsGreedyAndFair : Prop :=
  ∀ (tol : Nat) (ps qs : List CallEntry),
    let m := matchEntries tol ps qs
    (∀ x ∈ m.pairs, x.1.landmark = x.2.landmark
      ∧ ((x.1.offset : Int) - x.2.offset).natAbs ≤ tol)
    ∧ (m.pairs.map (·.1)).Sublist ps ∧ m.lonePrimary.Sublist ps
    ∧ m.pairs.length + m.lonePrimary.length = ps.length
    ∧ (m.pairs.map (·.2) ++ m.loneSecond).Perm qs ∧ m.loneSecond.Sublist qs
    ∧ (∀ p ∈ m.lonePrimary, ∀ q ∈ m.loneSecond, candidate tol p q = false)
    ∧ matchEntries tol [] qs = ⟨[], [], qs⟩
    ∧ ∀ p : CallEntry,
        let fits := fun q : CallEntry =>
          q.landmark = p.landmark ∧ ((p.offset : Int) - q.offset).natAbs ≤ tol
        let far := fun q : CallEntry => ((p.offset : Int) - q.offset).natAbs
        ((∀ q ∈ qs, ¬fits q) → matchEntries tol (p :: ps) qs =
            ⟨m.pairs, p :: m.lonePrimary, m.loneSecond⟩)
        ∧ ∀ before q after, qs = before ++ q :: after → fits q →
            (∀ x ∈ before, fits x → far q < far x) → (∀ x ∈ after, fits x → far q ≤ far x) →
            let k := matchEntries tol ps (before ++ after)
            matchEntries tol (p :: ps) qs = ⟨(p, q) :: k.pairs, k.lonePrimary, k.loneSecond⟩

/-- The reportable entries of a call are those at or above the threshold, in pull order. The outcome of a
comparison: BOTH_RETEST and ONE_RETEST by the kinds, NOT_USABLE counting as RETEST_REQUIRED; then the
first of an unmatched primary entry, an unmatched second entry and a pair beyond the depth tolerance;
otherwise agreement, with one entry per pair at the primary's place and the greater depth. ONE_RETEST
carries the source of the call that asks, and for a NOT_USABLE automatic call, which has no role,
AUTOMATIC (the model's choice, log entry 41). -/
def Obligations.ComparisonDecidesInOrder : Prop :=
  (∀ (threshold : Nat) (es : List CallEntry),
      (reportable threshold es).Perm (es.filter fun e => decide (threshold ≤ e.depth))
      ∧ (reportable threshold es).Pairwise (fun a b => entryBefore b a = false)
      ∧ ∀ l o, (reportable threshold es).filter (fun e => e.landmark == l && e.offset == o)
          = es.filter (fun e => decide (threshold ≤ e.depth) && (e.landmark == l && e.offset == o)))
  ∧ (∀ c : Comparison,
        let retest := fun x : Call => x.kind == .retestRequired || x.kind == .notUsable
        let list := fun x : Call =>
          if x.kind = .indications then reportable c.limits.reporting x.entries else []
        let m := matchEntries c.limits.locTol (list c.primary) (list c.second)
        c.outcome =
          (if retest c.primary && retest c.second then .bothRetest
           else if retest c.primary then .disagreement (.oneRetest c.primary.source)
           else if retest c.second then .disagreement (.oneRetest c.second.source)
           else
             match m.lonePrimary.head?, m.loneSecond.head?,
               m.pairs.find? fun x => decide (c.limits.depthTol < ((x.1.depth : Int) - x.2.depth).natAbs) with
             | some e, _, _ => .disagreement (.unmatchedPrimary e)
             | none, some e, _ => .disagreement (.unmatchedSecond e)
             | none, none, some x => .disagreement (.depth x.1 x.1.depth x.2.depth)
             | none, none, none =>
               if m.pairs = [] then .agreement .ndd []
               else .agreement .indications (m.pairs.map fun x =>
                 { landmark := x.1.landmark, offset := x.1.offset, depth := max x.1.depth x.2.depth
                   classCode := x.1.classCode })))

/-! Frames of a probe unit, and the timers of a probe channel. -/

/-- A frame that is not valid has no effect, and on an OFFLINE link every frame but HELLO has none. IDLE,
and a frame that the channel ignores in its state (RELEASE_CLAIM outside CLAIMED, PAUSE outside
RECORDING, RESUME outside PAUSED, PULL_END and ABANDON with no pull they end, PULL_END in RECORDING with the
traverse not RECORDING, as FINISHING, SAMPLE outside RECORDING and CALIBRATING, and SAMPLE in either with the
traverse not RECORDING, as FINISHING), restart the silence timer and do nothing else. -/
def Obligations.FramesOutOfPlaceChangeNothing : Prop :=
  (∀ (ch : Chan) (s : State),
      (s.probeUp ch → exec (.probeIdle ch) s = .next (s.hearProbe ch))
      ∧ (∀ frame, exec (.probeFrameDiscarded ch frame) s = .next s)
      ∧ ((s.chan ch).state = .offline →
          ∀ c ∈ ([.probeIdle ch, .releaseClaim ch, .pullStart ch, .pause ch, .resume ch, .pullEnd ch,
              .abandon ch .restriction, .abandon ch .operator, .probeFailed ch] : List Instr),
            exec c s = .next s)
      ∧ ((s.chan ch).state = .offline →
          (∀ row col, exec (.claim ch row col) s = .next s)
          ∧ (∀ seq r, exec (.sample ch seq r) s = .next s)
          ∧ ∀ std, exec (.calStart ch std) s = .next s))
  ∧ (∀ (ch : Chan) (s : State), s.probeUp ch →
        let c := (s.chan ch).state
        (c ≠ .claimed → exec (.releaseClaim ch) s = .next (s.hearProbe ch))
        ∧ (c ≠ .recording → exec (.pause ch) s = .next (s.hearProbe ch))
        ∧ (c ≠ .paused → exec (.resume ch) s = .next (s.hearProbe ch))
        ∧ (c = .needsCal ∨ c = .ready ∨ c = .due ∨ c = .claimed ∨ c = .evaluating →
            exec (.pullEnd ch) s = .next (s.hearProbe ch))
        ∧ (c = .needsCal ∨ c = .ready ∨ c = .due ∨ c = .evaluating →
            ∀ reason, exec (.abandon ch reason) s = .next (s.hearProbe ch))
        ∧ (c ≠ .recording → c ≠ .calibrating →
            ∀ seq r, exec (.sample ch seq r) s = .next (s.hearProbe ch))
        ∧ ∀ tr, s.inHand? ch = some tr →
            (c = .recording → tr.state ≠ .recording →
              exec (.pullEnd ch) s = .next (s.hearProbe ch))
            ∧ (tr.state ≠ .recording →
                ∀ seq r, exec (.sample ch seq r) s = .next (s.hearProbe ch)))

/-- A HELLO on an OFFLINE link records the identity; the channel enters EVALUATING with an evaluation in
hand, DUE with an open bracket and NEEDS_CAL otherwise, CHANNEL_CHANGE is raised, and PERMIT is sent
whatever its values. With a probe that differs from the open bracket's, and no evaluation in hand, the
channel enters NEEDS_CAL and the bracket closes CLOSED_FAIL with cause PROBE_CHANGED, its sweep begun. With
an evaluation in hand and a probe that differs from its own or from the open bracket's, the evaluation is
abandoned: its traverse becomes ABORTED and settled, so that one archived while it was COMPLETE is released,
or its release is pending; CAL_RESULT(REJECTED, ABORTED) is sent, before the PERMIT of the link up (the
model's choice, log entry 21), the channel enters NEEDS_CAL, and the bracket fails only if the probe differs
from the bracket's. A HELLO on an up link is the loss of the link followed by the HELLO on the OFFLINE link,
in one act. -/
def Obligations.HelloBringsTheLinkUp : Prop :=
  (∀ (ch : Chan) (id : Identity) (s : State), s.awake → (s.chan ch).state = .offline →
      s.evaluationChanged ch id.probe = false → s.bracketChanged ch id.probe = false →
      let new : ChanState :=
        if (s.evaluationInHand ch).isSome then .evaluating
        else if (s.openBracket ch).isSome then .due else .needsCal
      let p := permitOf s.session new
      let c := s.chan ch
      exec (.hello ch id) s = .next
        (State.raise
          { s with
            channels := s.channels.set ch
              { c with state := new, identity := some id, silenceMs := 0, quietMs := 0
                       permit := some p, sent := c.sent ++ [.permit p]
                       traverse := if new = .evaluating then
                         (s.evaluationInHand ch).map (·.traverse) else none } }
          (.channelChange ch new (some p))))
  ∧ ((∀ (ch : Chan) (id : Identity) (s : State) (b : Bracket) (x : Session),
          s.awake → (s.chan ch).state = .offline → s.session = some x → s.calLaw →
          s.evaluationInHand ch = none →
          s.openBracket ch = some b → s.bracketChanged ch id.probe = true →
          ∃ t, exec (.hello ch id) s = .next t
            ∧ (t.chan ch).state = .needsCal ∧ (t.chan ch).identity = some id
            ∧ (∀ c, c ≠ ch → t.chan c = s.chan c) ∧ t.openBracket ch = none
            ∧ (∃ b', t.bracket? b.number = some b' ∧ b'.state = .closedFail ∧ b'.cause = some .probeChanged
                ∧ b'.closedAt = some x.seconds ∧ b'.traverses = b.traverses ∧ b'.sweep ≠ .none)
            ∧ (∀ n, n ≠ b.number → t.bracket? n = s.bracket? n)
            ∧ t.cal.log = s.cal.log ∧ t.session = s.session ∧ t.store = s.store
            ∧ t.comparisons = s.comparisons ∧ t.config = s.config)
      ∧ (∀ (ch : Chan) (id : Identity) (s : State), s.probeUp ch →
            ∃ t, exec (.probeLinkLoss ch) s = .next t ∧ (t.chan ch).state = .offline
              ∧ exec (.hello ch id) s = exec (.hello ch id) t)
      ∧ (∀ (ch : Chan) (id : Identity) (s : State) (a : Attempt) (tr : Traverse),
          s.awake → (s.chan ch).state = .offline → s.calLaw →
          s.evaluationInHand ch = some a → s.trav? a.traverse = some tr →
          tr.state = .finishing ∨ tr.state = .complete ∧ tr.target.kind = .calibration →
          s.evaluationChanged ch id.probe = true ∨ s.bracketChanged ch id.probe = true →
          ∃ t, exec (.hello ch id) s = .next t ∧ t.attempt? ch = none
            ∧ (tr.archived = false → ∃ tr', t.trav? a.traverse = some tr' ∧ tr'.state = .aborted
                ∧ tr'.settled = true)
            ∧ (tr.state = .complete → (s.chan ch).bufA.pendingFor a.traverse = false →
                (s.chan ch).bufB.pendingFor a.traverse = false →
                s.goesOrStays t a.traverse tr tr.freedBySettling (fun u =>
                  u.state = .aborted ∧ u.endTime = tr.endTime ∧ tr.settledTo u)
                ∧ ∃ es, t.stations = (s.raiseAll es).stations ∧ es.filter Event.isStoreNews
                    = s.releaseNews t a.traverse tr tr.freedBySettling)
            ∧ (t.chan ch).state = .needsCal ∧ (t.chan ch).identity = some id
            ∧ (t.chan ch).linkLossMark = false
            ∧ (s.chan ch).sent ++ [.calResult a.traverse (.rejected .aborted)] <+: (t.chan ch).sent
            ∧ (s.bracketChanged ch id.probe = false → t.cal.brackets = s.cal.brackets)
            ∧ (s.bracketChanged ch id.probe = true → ∀ b, s.openBracket ch = some b →
                t.openBracket ch = none ∧ ∃ b', t.bracket? b.number = some b'
                  ∧ b'.state = .closedFail ∧ b'.cause = some .probeChanged)
            ∧ (∀ c, c ≠ ch → t.chan c = s.chan c ∧ t.attempt? c = s.attempt? c)
            ∧ t.cal.log = s.cal.log ∧ t.session = s.session ∧ t.comparisons = s.comparisons
            ∧ t.config = s.config))

/-- A CLAIM on an up link is checked by the table of R22 in order: the first step that fails is
answered with its reason and changes nothing else; with none failing the claim is granted, which needs
an open session under a locked plan. The tube becomes CLAIMED by the channel with its pre-claim state
kept, the counters move, one slot and 1,171 pages are reserved, and the channel enters CLAIMED with
its expiry 600 s on, sends CLAIM_REPLY(granted) and then PERMIT(false, BUSY); nothing else changes but
the events, of which a STORE_LOW stands before the CHANNEL_CHANGE (the model's choice, log entry 21). -/
def Obligations.ClaimCheckInOrder : Prop :=
  (∀ (ch : Chan) (row col : Nat) (s : State), s.probeUp ch →
      match firstFailure (claimTable s ch ⟨row, col⟩) with
      | some r =>
        exec (.claim ch row col) s =
          .next ((s.hearProbe ch).sentOn ch (.claimReply (some r) row col))
      | none =>
        s.session.isSome = true ∧ s.planLocked = true
          ∧ ∃ t, exec (.claim ch row col) s = .next t ∧ (t.chan ch).claim = some ⟨row, col⟩
              ∧ .claimReply none row col ∈ (t.chan ch).sent)
  ∧ (∀ (ch : Chan) (p : Pos) (s : State) (x : Session) (e : TubeEntry), s.probeUp ch →
        firstFailure (claimTable s ch p) = none → s.session = some x → s.tube? p = some e →
        ∃ t es, exec (.claim ch p.row p.col) s = .next t
          ∧ t.session = some (x.updTube p (fun u =>
              { u with preClaim := some u.state, state := .claimed, holder := some ch
                       changed := x.seconds }) (x.counts.move e.state .claimed))
          ∧ t.store = { s.store with reservedSlots := s.store.reservedSlots + 1
                                     reservedPages := s.store.reservedPages + 1171, low := t.store.low }
          ∧ t.channels = s.channels.set ch
              { s.chan ch with
                state := .claimed, silenceMs := 0, quietMs := 0, claim := some p
                claimDue := some (x.seconds + 600), permit := some ⟨false, .busy⟩
                sent := (s.chan ch).sent ++ [.claimReply none p.row p.col] ++
                  (if (s.chan ch).permit = some ⟨false, .busy⟩ then [] else [.permit ⟨false, .busy⟩]) }
          ∧ t.stations = (s.raiseAll es).stations
          ∧ es.getLast? = some (.channelChange ch .claimed (some ⟨false, .busy⟩)) ∧ es.length ≤ 2
          ∧ t.cal = s.cal ∧ t.comparisons = s.comparisons ∧ t.config = s.config ∧ t.pending = s.pending)

/-- A claim ends without a pull by RELEASE_CLAIM, ABANDON and its expiry: the tube returns to its
pre-claim state, or to RESTRICTED by ABANDON(RESTRICTION), its retest cause kept only in RETEST; the
reservation is returned; the channel enters READY, or DUE with cal_due set. -/
def Obligations.ClaimEndsWithoutPull : Prop :=
  ∀ (ch : Chan) (p : Pos) (s : State) (x : Session) (e : TubeEntry) (old : TubeState) (b : Bracket)
    (c : Instr), s.probeUp ch → s.session = some x → (s.chan ch).state = .claimed →
    (s.chan ch).claim = some p → s.tube? p = some e → e.state = .claimed → e.preClaim = some old →
    s.openBracket ch = some b →
    (c = .releaseClaim ch ∨ (∃ r, c = .abandon ch r)
      ∨ c = .claimExpiry ch ∧ ∃ d, (s.chan ch).claimDue = some d ∧ d ≤ x.seconds) →
    let back := if c = .abandon ch .restriction then TubeState.restricted else old
    ∃ t, exec c s = .next t
      ∧ t.session = some (x.updTube p (fun u =>
          { u with preClaim := none, holder := none, state := back, changed := x.seconds
                   cause := if back = .retest then u.cause else none }) (x.counts.move .claimed back))
      ∧ t.store = { s.store with reservedSlots := s.store.reservedSlots - 1
                                 reservedPages := s.store.reservedPages - 1171, low := t.store.low }
      ∧ (t.chan ch).state = (if b.calDue.isSome then .due else .ready)
      ∧ (t.chan ch).claim = none ∧ (t.chan ch).claimDue = none
      ∧ (t.chan ch).permit = t.permitNow ch ∧ (t.chan ch).identity = (s.chan ch).identity
      ∧ (∀ k, k ≠ ch → t.chan k = s.chan k)
      ∧ t.cal = s.cal ∧ t.comparisons = s.comparisons ∧ t.config = s.config ∧ t.pending = s.pending

/-- The session clock's second: the counter rises by one and holds at its greatest value; with no session
there is none. The second takes 1,000 from the count of milliseconds that the model keeps (the model's
choice, log entry 6). Before its time has come, or outside its state, an expiry or age limit changes
nothing (the model's choice, log entry 14). -/
def Obligations.TheSessionClockAndItsTimers : Prop :=
  (∀ (ch : Chan) (s : State),
      ((s.chan ch).state ≠ .claimed ∨ (∀ d, (s.chan ch).claimDue = some d → s.time < d) →
          exec (.claimExpiry ch) s = .next s)
      ∧ ((s.chan ch).state ≠ .paused ∨ (∀ d, (s.chan ch).pauseDue = some d → s.time < d) →
          exec (.pauseExpiry ch) s = .next s)
      ∧ ((∀ b, s.openBracket ch = some b → b.calDue ≠ none
            ∨ s.time < b.openedAt + s.limits.interval * 3600) →
          exec (.bracketAgeLimit ch) s = .next s))
  ∧ (∀ s : State,
        (s.awake → ∀ x, s.session = some x → exec .sessionSecondTick s = .next
          { s with
            session := some
              { x with seconds := min 4294967295 (x.seconds + 1), subMs := x.subMs - 1000 } })
        ∧ (s.session = none → exec .sessionSecondTick s = .next s))

/-- PULL_START in CLAIMED begins the pull: the tube's attempts rise and it names the new traverse and
the open bracket; the traverse is created RECORDING with the claim's reservation; the reserved slot
becomes the live entry; the channel enters RECORDING with its sample state clear, and the bracket's
list takes the traverse. Screening is by the frequency of the standard and the figures of the bracket's
opening entry, by the plan's limits and by the landmark count of the tube's class; T_raw is the detection
threshold times A_ref over 500, rounded up. Outside CLAIMED it is refused. -/
def Obligations.PullStartBeginsThePull : Prop :=
  ∀ (ch : Chan) (s : State), s.probeUp ch →
    (∀ (p : Pos) (x : Session) (b : Bracket), (s.chan ch).state = .claimed →
      (s.chan ch).claim = some p → s.session = some x → s.openBracket ch = some b → s.calLaw →
      ∃ t tr, exec (.pullStart ch) s = .next t
        ∧ t.session = some (Session.updTube { x with nextTraverse := x.nextTraverse + 1 } p (fun u =>
            { u with attempts := u.attempts + 1, traverse := some x.nextTraverse
                     bracket := some b.number }) x.counts)
        ∧ t.store = { s.store with directory := s.store.directory ++ [tr]
                                   reservedSlots := s.store.reservedSlots - 1 }
        ∧ tr.id = x.nextTraverse ∧ tr.target = .tube p ∧ tr.channel = ch ∧ tr.bracket = some b.number
        ∧ tr.state = .recording ∧ tr.start = x.seconds ∧ tr.stored = 0 ∧ tr.lost = 0
        ∧ tr.pages = [] ∧ tr.reservation = 1171 ∧ tr.archived = false ∧ tr.settled = false
        ∧ tr.inWrite = 0 ∧ tr.readers = 0 ∧ (∀ id, (s.chan ch).identity = some id → tr.identity = id)
        ∧ (t.chan ch).state = .recording ∧ (t.chan ch).traverse = some x.nextTraverse
        ∧ (t.chan ch).claim = some p ∧ (t.chan ch).claimDue = none ∧ (t.chan ch).expect = none
        ∧ (t.chan ch).pendingLost = false
        ∧ (∃ params, (t.chan ch).screen = .active (ScreenState.start x.nextTraverse params)
            ∧ params.landmark = some x.plan.limits.landmark ∧ params.gap = x.plan.limits.gap
            ∧ params.reporting = some x.plan.limits.reporting
            ∧ (∀ e, s.tube? p = some e →
                params.expected = (x.plan.classes[e.cls]?).join.map (·.count))
            ∧ ∀ o, s.logEntry? b.openingLog = some o →
                (∀ d, s.standard? o.standard = some d → params.freq = d.freq)
                ∧ (let q := x.plan.limits.detection * o.aRef
                   q ≤ 500 * params.tRaw ∧ 500 * params.tRaw < q + 500)
                ∧ ∃ c, params.cal = some c ∧ c.aRef = o.aRef ∧ c.rho = o.rho
                    ∧ c.points.Perm (o.flaws.map fun y => (y.depth, y.theta))
                    ∧ c.points.Pairwise (fun y z => y.1 ≤ z.1))
        ∧ (s.chan ch).sent ++ [.pullReply false none x.nextTraverse] <+: (t.chan ch).sent
        ∧ (∀ k, k ≠ ch → t.chan k = s.chan k)
        ∧ (∃ b', t.bracket? b.number = some b' ∧ b'.traverses = b.traverses ++ [x.nextTraverse]
            ∧ b'.calDue = (if b.traverses.length + 1 = b.capacity ∧ b.calDue = none then some .full
                else b.calDue))
        ∧ t.cal.log = s.cal.log ∧ t.comparisons = s.comparisons ∧ t.config = s.config)
    ∧ (∀ reason, ((s.chan ch).state = .recording ∨ (s.chan ch).state = .paused) ∧ reason = .channelBusy
        ∨ ((s.chan ch).state = .needsCal ∨ (s.chan ch).state = .ready ∨ (s.chan ch).state = .due
            ∨ (s.chan ch).state = .calibrating ∨ (s.chan ch).state = .evaluating) ∧ reason = .noClaim →
        exec (.pullStart ch) s =
          .next ((s.hearProbe ch).sentOn ch (.pullReply false (some reason) 0)))

/-- A SAMPLE offered to the traverse in hand is discarded without count on a TRUNCATED traverse or behind
the expectation. One that passes the sequence check with `missed` samples before it: without room it
is lost, and counted with the missed ones; with room it is screened and stored at the traverse's next
index with its three marks, in a buffer that does not become full by it, and the entry takes the two
window counts that the trailer of its page is to record. The expectation becomes its
number plus 1 modulo 256. The sequence check: with the expectation absent a sample is in order, and
otherwise its forward distance modulo 256 says that it is in order (0), that so many samples were
missed (1 to 128), or that it is behind (129 to 255). Screening takes each stored sample into the two
kinds of window independently: a marked sample opens an indication window or becomes its last sample, and
its peak if it is greater; one without the mark raises the below count; the window closes at the gap, or
CAPPED at the marked sample that makes its length 512 or more, and is kept as the next record, or counted
in excess beyond 64. Four marked samples in a row open a landmark window, which closes at the gap, or
CAPPED at the marked sample that makes its length 2,048 or more, and is kept as the next record, or
ignored beyond 48. That a marked sample which carries a length past 512 or 2,048 stays in the window it
caps is the model's choice, log entry 46. -/
def Obligations.SampleIsStoredLostOrDiscarded : Prop :=
  ((∀ (ch : Chan) (seq : Nat) (r : Reading) (s : State) (t : Traverse), s.probeUp ch →
        s.sampling ch = some t →
        (t.flags.truncated = true ∨ seqCheck (s.chan ch).expect seq = .behind) →
        exec (.sample ch seq r) s = .next (s.hearProbe ch))
    ∧ (∀ (ch : Chan) (seq missed : Nat) (r : Reading) (s : State) (tr : Traverse), s.probeUp ch →
          s.sampling ch = some tr → s.trav? tr.id = some tr → tr.flags.truncated = false →
          (missed = 0 ∧ seqCheck (s.chan ch).expect seq = .inOrder
            ∨ 0 < missed ∧ seqCheck (s.chan ch).expect seq = .gap missed) →
          let c := s.chan ch
          let lost := min 16777215 (tr.lost + missed)
          let pend := c.pendingLost || decide (0 < missed)
          (c.room = none →
            exec (.sample ch seq r) s = .next
              { s with
                store := s.store.updTrav tr.id fun u =>
                  { u with lost := min 16777215 (min 16777215 (u.lost + missed) + 1)
                           flags := { u.flags with lostSamples := true } }
                channels := s.channels.set ch
                  { c with silenceMs := 0, expect := some ((seq + 1) % 256), pendingLost := true } })
          ∧ (∀ i u, c.room = some i → c.screen = .active u → u.traverse = tr.id →
              ((c.buf i).state = .filling → (c.buf i).samples.length < 55) →
              let u1 := u.screen r
              let stored : StoredSample :=
                ⟨r, ⟨u.params.landmarkMark r, u.params.detectionMark r, pend⟩⟩
              ∃ t, exec (.sample ch seq r) s = .next t
                ∧ (if (c.buf i).state = .filling then
                     (t.chan ch).buf i = { c.buf i with
                       samples := (c.buf i).samples ++ [stored], soFar := ((t.chan ch).buf i).soFar }
                   else ((t.chan ch).buf i).state = .filling ∧ ((t.chan ch).buf i).traverse = tr.id
                     ∧ ((t.chan ch).buf i).firstIndex = tr.stored ∧ ((t.chan ch).buf i).samples = [stored])
                ∧ ((t.chan ch).buf i).soFar =
                    ⟨u1.opened, if missed = 0 then tr.lost else lost, u1.closed⟩
                ∧ (t.chan ch).buf i.other = c.buf i.other
                ∧ (t.chan ch).expect = some ((seq + 1) % 256) ∧ (t.chan ch).pendingLost = false
                ∧ (t.chan ch).screen = .active u1 ∧ (t.chan ch).state = c.state
                ∧ (t.chan ch).sent = c.sent ∧ (∀ k, k ≠ ch → t.chan k = s.chan k)
                ∧ (∃ tr', t.trav? tr.id = some tr' ∧ tr'.stored = tr.stored + 1
                    ∧ tr'.opened = u1.opened ∧ tr'.closed = u1.closed
                    ∧ tr'.lost = (if missed = 0 then tr.lost else lost)
                    ∧ tr'.flags.lostSamples = (tr.flags.lostSamples || decide (0 < missed))
                    ∧ tr'.flags.truncated = decide (65536 ≤ tr.stored + 1)
                    ∧ tr'.pages = tr.pages ∧ tr'.state = tr.state ∧ tr'.inWrite = tr.inWrite)
                ∧ (∀ n, n ≠ tr.id → t.trav? n = s.trav? n) ∧ t.store.pool = s.store.pool
                ∧ t.store.lanes = s.store.lanes ∧ t.store.port = s.store.port ∧ t.store.ddr = s.store.ddr
                ∧ t.session = s.session ∧ t.cal = s.cal ∧ t.comparisons = s.comparisons
                ∧ t.config = s.config ∧ t.stations = s.stations)))
  ∧ ((∀ seq, seqCheck none seq = .inOrder)
      ∧ ∀ e seq : Nat, e < 256 → seq < 256 →
          let d := ((seq : Int) - e) % 256
          (d = 0 → seqCheck (some e) seq = .inOrder)
          ∧ (1 ≤ d → d ≤ 128 → seqCheck (some e) seq = .gap d.toNat)
          ∧ (129 ≤ d → seqCheck (some e) seq = .behind))
  ∧ ∀ (u : ScreenState) (r : Reading),
      let v := analysisValue u.params.freq r
      let m := max v.x.natAbs v.y.natAbs
      let mL := max r.a4.x.natAbs r.a4.y.natAbs
      let n := u.screen r
      let same := n.indications = u.indications ∧ n.excess = u.excess ∧ n.closed = u.closed
      let kept := fun (w : IndWindow) (capped : Bool) =>
        n.window = none ∧ n.closed = u.closed + 1
          ∧ (u.indications.length < 64 → n.excess = u.excess
              ∧ ∃ x, n.indications = u.indications ++ [x] ∧ x.seq = u.indications.length + 1
                ∧ x.first = w.first ∧ x.last = w.last ∧ x.peak = w.peak ∧ x.peakPos = w.peakPos
                ∧ x.capped = capped)
          ∧ (64 ≤ u.indications.length → n.indications = u.indications ∧ n.excess = u.excess + 1)
      let sameL := n.landmarks = u.landmarks ∧ n.ignored = u.ignored
      let keptL := fun (w : LandmarkWindow) (capped : Bool) =>
        n.lmWindow = none ∧ n.run.count = 0 ∧ n.opened = u.opened
          ∧ (u.landmarks.length < 48 → n.ignored = u.ignored ∧ n.landmarks = u.landmarks ++
              [⟨u.landmarks.length + 1, w.first, w.last, w.peak, w.peakM, w.peakPos, capped⟩])
          ∧ (48 ≤ u.landmarks.length → n.landmarks = u.landmarks ∧ n.ignored = u.ignored + 1)
      n.traverse = u.traverse ∧ n.params = u.params ∧ n.next = u.next + 1
      ∧ n.firstPos = (if u.next = 0 then r.position else u.firstPos)
      ∧ (u.window = none → m < u.params.tRaw → n.window = none ∧ same)
      ∧ (u.window = none → u.params.tRaw ≤ m → same
          ∧ n.window = some ⟨u.next, u.next, u.next, m, r.position, 0, [v]⟩)
      ∧ (∀ w, u.window = some w → u.params.tRaw ≤ m →
          let w1 : IndWindow := { w with last := u.next, below := 0, values := w.values ++ [v] }
          let w2 : IndWindow :=
            if w.peakM < m then { w1 with peak := u.next, peakM := m, peakPos := r.position } else w1
          (u.next - w.first + 1 < 512 → n.window = some w2 ∧ same)
          ∧ (512 ≤ u.next - w.first + 1 → kept w2 true))
      ∧ (∀ w, u.window = some w → m < u.params.tRaw →
          (w.below + 1 < u.params.gap → same
            ∧ n.window = some { w with below := w.below + 1, values := w.values ++ [v] })
          ∧ (u.params.gap ≤ w.below + 1 → kept w false))
      ∧ (u.params.landmark = none →
          n.lmWindow = u.lmWindow ∧ n.run = u.run ∧ n.opened = u.opened ∧ sameL)
      ∧ ∀ least, u.params.landmark = some least →
          (u.lmWindow = none → mL < least →
            n.lmWindow = none ∧ n.run.count = 0 ∧ n.opened = u.opened ∧ sameL)
          ∧ (u.lmWindow = none → least ≤ mL →
              let new : LandmarkRun :=
                if u.run.count = 0 then ⟨1, u.next, u.next, mL, r.position⟩
                else if u.run.peakM < mL then
                  ⟨u.run.count + 1, u.run.first, u.next, mL, r.position⟩
                else { u.run with count := u.run.count + 1 }
              (new.count < 4 → n.lmWindow = none ∧ n.run = new ∧ n.opened = u.opened ∧ sameL)
              ∧ (4 ≤ new.count → n.run.count = 0 ∧ n.opened = u.opened + 1 ∧ sameL
                  ∧ n.lmWindow = some ⟨new.first, u.next, new.peak, new.peakM, new.peakPos, 0⟩))
          ∧ ∀ w, u.lmWindow = some w →
              let w1 : LandmarkWindow := { w with last := u.next, below := 0 }
              let w2 : LandmarkWindow :=
                if w.peakM < mL then { w1 with peak := u.next, peakM := mL, peakPos := r.position }
                else w1
              (least ≤ mL → u.next - w.first + 1 < 2048 →
                n.lmWindow = some w2 ∧ n.opened = u.opened ∧ sameL)
              ∧ (least ≤ mL → 2048 ≤ u.next - w.first + 1 → keptL w2 true)
              ∧ (mL < least → w.below + 1 < u.params.gap →
                  n.lmWindow = some { w with below := w.below + 1 } ∧ n.opened = u.opened ∧ sameL)
              ∧ (mL < least → u.params.gap ≤ w.below + 1 → keptL w false)

/-- The sample that fills a buffer, in order or behind a gap of `missed` samples, is stored in it as O33
says. The other buffer being in write, the full one is held; the other being free, the page is handed over
at once: its buffer is in write, the traverse's pages in write rise by one, and an entry of the page joins
the lane. Where the port is free and no page waits, the write is granted in the same act: the page leaves
the pool, and the port takes the page image of the traverse, its next sequence, the lane entry and the
buffer at the session time. -/
def Obligations.FullBufferIsHandedOverOrHeld : Prop :=
  ∀ (ch : Chan) (seq missed : Nat) (r : Reading) (s : State) (tr : Traverse) (i : BufId)
    (u : ScreenState),
    s.probeUp ch → s.sampling ch = some tr → s.trav? tr.id = some tr → tr.flags.truncated = false →
    (missed = 0 ∧ seqCheck (s.chan ch).expect seq = .inOrder
      ∨ 0 < missed ∧ seqCheck (s.chan ch).expect seq = .gap missed) →
    (s.chan ch).room = some i → (s.chan ch).screen = .active u → u.traverse = tr.id →
    ((s.chan ch).buf i).state = .filling → ((s.chan ch).buf i).samples.length = 55 →
    ((s.chan ch).buf i).traverse = tr.id →
    let c := s.chan ch
    let lost := if missed = 0 then tr.lost else min 16777215 (tr.lost + missed)
    let u1 := u.screen r
    let stored : StoredSample := ⟨r, ⟨u.params.landmarkMark r, u.params.detectionMark r,
      c.pendingLost || decide (0 < missed)⟩⟩
    let full : PageBuffer := { c.buf i with samples := (c.buf i).samples ++ [stored]
                                            soFar := ⟨u1.opened, lost, u1.closed⟩ }
    ∃ t tr', exec (.sample ch seq r) s = .next t ∧ t.trav? tr.id = some tr'
      ∧ tr'.stored = tr.stored + 1 ∧ tr'.lost = lost ∧ tr'.state = tr.state
      ∧ tr'.opened = u1.opened ∧ tr'.closed = u1.closed
      ∧ tr'.flags.lostSamples = (tr.flags.lostSamples || decide (0 < missed))
      ∧ tr'.flags.truncated = decide (65536 ≤ tr.stored + 1)
      ∧ (t.chan ch).expect = some ((seq + 1) % 256) ∧ (t.chan ch).pendingLost = false
      ∧ (t.chan ch).screen = .active u1 ∧ (t.chan ch).state = c.state ∧ (t.chan ch).sent = c.sent
      ∧ (t.chan ch).buf i.other = (s.chan ch).buf i.other
      ∧ (((s.chan ch).buf i.other).state = .inWrite →
          (t.chan ch).buf i = { full with state := .held } ∧ tr'.inWrite = tr.inWrite
          ∧ t.store.lanes = s.store.lanes ∧ t.store.port = s.store.port ∧ t.store.pool = s.store.pool)
      ∧ (((s.chan ch).buf i.other).state = .free →
          (t.chan ch).buf i = { full with state := .inWrite } ∧ tr'.inWrite = tr.inWrite + 1
          ∧ (s.store.port ≠ .free → tr'.pages = tr.pages ∧ t.store.port = s.store.port
              ∧ t.store.lanes.get ch = s.store.lanes.get ch ++ [laneEntryOf i full false false])
          ∧ (s.store.port = .free → (∀ k, s.store.lanes.get k = []) →
              ∀ page rest, poolPop s.store.pool = some (page, rest) →
                t.store.port = .write ch i (some tr.id) page (pageImage tr tr.pages.length
                  (laneEntryOf i full false false) full s.time)
                ∧ tr'.pages = tr.pages ++ [page] ∧ tr'.reservation = tr.reservation - 1
                ∧ t.store.pool = rest ∧ t.store.reservedPages = s.store.reservedPages - 1
                ∧ t.store.lastWrite = ch ∧ (∀ k, t.store.lanes.get k = [])))

/-- PAUSE in RECORDING moves the channel and the traverse to PAUSED and sets the expiry 300 s on; RESUME
in PAUSED moves both back to RECORDING, stops the timer and clears the sequence expectation. -/
def Obligations.PauseAndResume : Prop :=
  ∀ (ch : Chan) (s : State) (x : Session) (tr : Traverse), s.probeUp ch → s.session = some x →
    s.inHand? ch = some tr →
    let c := s.chan ch
    (c.state = .recording → tr.state = .recording → c.permit = s.permitNow ch →
      exec (.pause ch) s = .next
        (State.raise
          { s with
            store := s.store.updTrav tr.id fun u => { u with state := .paused }
            channels := s.channels.set ch
              { c with silenceMs := 0, pauseDue := some (x.seconds + 300), state := .paused } }
          (.channelChange ch .paused c.permit)))
    ∧ (c.state = .recording → tr.state ≠ .recording → exec (.pause ch) s = .next (s.hearProbe ch))
    ∧ (c.state = .paused → c.permit = s.permitNow ch →
      exec (.resume ch) s = .next
        (State.raise
          { s with
            store := s.store.updTrav tr.id fun u => { u with state := .recording }
            channels := s.channels.set ch
              { c with silenceMs := 0, pauseDue := none, expect := none, state := .recording } }
          (.channelChange ch .recording c.permit)))

/-! Pulls, calibrations and probe failures, and the store port. -/

/-- PULL_END with samples still in a buffer: the traverse becomes FINISHING and the Screening Unit
HOLDING, the buffer is handed over as the final page, and the channel goes on in RECORDING for an
inspection pull and EVALUATING for a calibration; the tube, the log and the brackets stay. Where the port
is free and no page waits, the write is granted in the same act, with the page image whose last-page flag
is set. With no sample left in a buffer and a page of the traverse still in write, no page is handed over:
the last page of the traverse that still waits in the lane, if any, takes the last-page flag, and the
traverse is left FINISHING for the end of its page writes to complete. -/
def Obligations.PullEndHandsOverTheFinalPage : Prop :=
  (∀ (ch : Chan) (s : State) (tr : Traverse) (u : ScreenState) (i : BufId), s.probeUp ch →
    s.inHand? ch = some tr → tr.channel = ch → (s.chan ch).screen = .active u →
    ((s.chan ch).state = .recording ∧ tr.state = .recording ∨ (s.chan ch).state = .paused
      ∨ (s.chan ch).state = .calibrating) →
    ((s.chan ch).buf i).pendingFor tr.id = true →
    ((s.chan ch).buf i.other).pendingFor tr.id = false →
    ∃ t tr', exec (.pullEnd ch) s = .next t ∧ t.trav? tr.id = some tr'
      ∧ tr'.state = .finishing ∧ tr'.stored = tr.stored ∧ tr'.inWrite = tr.inWrite + 1
      ∧ tr'.endTime = tr.endTime ∧ tr'.landmarks = tr.landmarks
      ∧ (t.chan ch).screen = .holding u ∧ (t.chan ch).pauseDue = none
      ∧ (t.chan ch).state = (if (s.chan ch).state = .calibrating then .evaluating else .recording)
      ∧ (t.chan ch).traverse = (s.chan ch).traverse ∧ (t.chan ch).claim = (s.chan ch).claim
      ∧ (t.chan ch).buf i = { (s.chan ch).buf i with state := .inWrite }
      ∧ (t.chan ch).buf i.other = (s.chan ch).buf i.other
      ∧ (s.store.port ≠ .free →
          t.store.lanes.get ch = s.store.lanes.get ch ++
            [laneEntryOf i ((s.chan ch).buf i) true false])
      ∧ (s.store.port = .free → (∀ k, s.store.lanes.get k = []) →
          ∀ page rest, poolPop s.store.pool = some (page, rest) →
            tr'.pages = tr.pages ++ [page] ∧ tr'.reservation = tr.reservation - 1
              ∧ t.store.pool = rest ∧ t.store.reservedPages = s.store.reservedPages - 1
              ∧ t.store.lastWrite = ch ∧ (∀ k, t.store.lanes.get k = [])
              ∧ t.store.port = .write ch i (some tr.id) page (pageImage tr tr.pages.length
                  (laneEntryOf i ((s.chan ch).buf i) true false) ((s.chan ch).buf i) s.time))
      ∧ (∀ k, k ≠ ch → t.chan k = s.chan k)
      ∧ t.session = s.session ∧ t.cal = s.cal ∧ t.comparisons = s.comparisons ∧ t.config = s.config)
  ∧ ∀ (ch : Chan) (s : State) (tr : Traverse) (u : ScreenState), s.probeUp ch →
    s.inHand? ch = some tr → tr.channel = ch → (s.chan ch).screen = .active u →
    ((s.chan ch).state = .recording ∧ tr.state = .recording ∨ (s.chan ch).state = .paused
      ∨ (s.chan ch).state = .calibrating) →
    (s.chan ch).bufA.pendingFor tr.id = false → (s.chan ch).bufB.pendingFor tr.id = false →
    0 < tr.inWrite →
    let lane := s.store.lanes.get ch
    ∃ t lane', exec (.pullEnd ch) s = .next t
      ∧ t.store = { s.store.updTrav tr.id (fun v => { v with state := .finishing }) with
          lanes := s.store.lanes.set ch lane' }
      ∧ ((∀ e ∈ lane, e.traverse ≠ tr.id) → lane' = lane)
      ∧ (∀ before e after, lane = before ++ e :: after → e.traverse = tr.id →
          (∀ f ∈ after, f.traverse ≠ tr.id) → lane' = before ++ { e with last := true } :: after)
      ∧ (t.chan ch).screen = .holding u ∧ (t.chan ch).pauseDue = none
      ∧ (t.chan ch).state = (if (s.chan ch).state = .calibrating then .evaluating else .recording)
      ∧ (t.chan ch).traverse = (s.chan ch).traverse ∧ (t.chan ch).claim = (s.chan ch).claim
      ∧ (t.chan ch).bufA = (s.chan ch).bufA ∧ (t.chan ch).bufB = (s.chan ch).bufB
      ∧ (∀ k, k ≠ ch → t.chan k = s.chan k)
      ∧ t.session = s.session ∧ t.cal = s.cal ∧ t.comparisons = s.comparisons ∧ t.config = s.config

/-- PULL_END with no sample left in a buffer and no page in write completes an inspection pull, recording or
paused, in the same act: the traverse becomes COMPLETE with the end time, the findings of its finalisation
and its automatic call, its reservation returns, the tube enters ACQUIRED, TUBE_ACQUIRED is raised once, and
the channel comes to rest, raises CHANNEL_CHANGE last, behind a STORE_OK and TUBE_ACQUIRED (the model's
choice, log entry 21), sends TRAVERSE_DONE, and PERMIT behind it where its permit changed. A calibration
pull completes so too, without a call: the channel enters EVALUATING, where the attempt waits for its
verdict. Finalisation closes an open window of each kind uncapped and keeps it, or counts it where 64 or 48
records are held. It locates each indication from the last landmark at or before its peak, or else from the
first sample, to the millimetre, at most 30,000, and for an inspection gives its rotated phase, its
calibrated amplitude and the first class that applies. The automatic call is NOT_USABLE by a flag or by more
than 8 reportable records, NDD with none, and otherwise has an entry for each. -/
def Obligations.PullEndCompletesTheTraverse : Prop :=
  (∀ (ch : Chan) (s : State) (tr : Traverse) (u : ScreenState) (p : Pos) (x : Session) (e : TubeEntry)
    (b : Bracket), s.probeUp ch →
    s.inHand? ch = some tr → tr.channel = ch → tr.target = .tube p → tr.inWrite = 0 →
    (s.chan ch).state = .recording ∧ tr.state = .recording ∨ (s.chan ch).state = .paused →
    s.openBracket ch = some b →
    (s.chan ch).screen = .active u → u.traverse = tr.id →
    (s.chan ch).bufA.pendingFor tr.id = false → (s.chan ch).bufB.pendingFor tr.id = false →
    s.session = some x → s.tube? p = some e → e.state = .claimed →
    (s.chan ch).permit = s.permitNow ch →
    ∃ t es, exec (.pullEnd ch) s = .next t ∧ s.inspectionCompleted t ch tr u p x b es
      ∧ t.stations = (s.raiseAll es).stations
      ∧ t.store.reservedPages = s.store.reservedPages - tr.reservation
      ∧ (t.trav? tr.id).map (·.pages) = some tr.pages ∧ (t.chan ch).pauseDue = none)
  ∧ (∀ (ch : Chan) (s : State) (tr : Traverse) (u : ScreenState) (std : Nat) (a : Attempt)
      (x : Session), s.probeUp ch →
      s.inHand? ch = some tr → tr.channel = ch → tr.target = .standard std → tr.inWrite = 0 →
      (s.chan ch).state = .calibrating → (s.chan ch).screen = .active u → u.traverse = tr.id →
      (s.chan ch).bufA.pendingFor tr.id = false → (s.chan ch).bufB.pendingFor tr.id = false →
      s.session = some x → s.attempt? ch = some a →
      ∃ t, exec (.pullEnd ch) s = .next t ∧ s.calibrationCompleted t ch tr u x a
        ∧ t.store.reservedPages = s.store.reservedPages - tr.reservation
        ∧ (t.chan ch).state = .evaluating ∧ (t.chan ch).traverse = some tr.id)
  ∧ (∀ u : ScreenState,
      let f := u.finalise
      let marks := f.landmarks.records
      (f.excess = true ↔ 0 < f.indications.excess)
      ∧ (f.mismatch = true ↔
          ∃ n, u.params.expected = some n ∧ marks.length + f.landmarks.ignored ≠ n)
      ∧ (u.lmWindow = none → f.landmarks = ⟨u.landmarks, u.ignored⟩)
      ∧ (∀ w, u.lmWindow = some w → f.landmarks =
          if u.landmarks.length < 48 then
            ⟨u.landmarks ++ [⟨u.landmarks.length + 1, w.first, w.last, w.peak, w.peakM, w.peakPos,
              false⟩], u.ignored⟩
          else ⟨u.landmarks, u.ignored + 1⟩)
      ∧ f.opened = u.opened ∧ f.closed = u.closed + (if u.window.isSome then 1 else 0)
      ∧ (u.window = none →
          f.indications.records.map (·.ind) = u.indications ∧ f.indications.excess = u.excess)
      ∧ (∀ w, u.window = some w →
          (64 ≤ u.indications.length →
            f.indications.records.map (·.ind) = u.indications ∧ f.indications.excess = u.excess + 1)
          ∧ (u.indications.length < 64 → f.indications.excess = u.excess
              ∧ ∃ i, f.indications.records.map (·.ind) = u.indications ++ [i]
                ∧ i.seq = u.indications.length + 1 ∧ i.first = w.first ∧ i.last = w.last
                ∧ i.peak = w.peak ∧ i.peakPos = w.peakPos ∧ i.capped = false))
      ∧ ∀ r ∈ f.indications.records,
          let at? := (marks.filter fun l => l.peak ≤ r.ind.peak).getLast?
          let ref := (at?.map (·.position)).getD u.firstPos
          r.landmark = at?.map (·.seq)
          ∧ r.offset = min 30000 ((2 * ((r.ind.peakPos : Int) - ref).natAbs + 10) / 20)
          ∧ (u.params.cal = none → r.sizing = none)
          ∧ ∀ c, u.params.cal = some c → ∃ z, r.sizing = some z
              ∧ z.theta = (r.ind.rawPhase + c.rho) % 3600
              ∧ (0 < c.aRef → z.calAmp =
                  min 65535 ((2 * (r.ind.rawAmp * 500) + c.aRef) / (2 * c.aRef)))
              ∧ (if ∃ l ∈ marks, l.first ≤ r.ind.peak ∧ r.ind.peak ≤ l.last then
                   z.cls = .atLandmark ∧ z.depth = none ∧ z.limit = .none
                 else if 1800 ≤ z.theta then
                   z.cls = .distorted ∧ z.depth = none ∧ z.limit = .none
                 else z.cls = .sized ∧ (z.depth, z.limit) = depthStage c.points z.theta))
  ∧ ∀ (least : Nat) (fl : TraverseFlags) (rs : List IndicationRecord) (time id : Nat),
      let call := automaticCall least fl rs time id
      let found := rs.filter fun r =>
        r.sizing.any fun z => z.cls == .sized && z.depth.any fun d => decide (least ≤ d)
      call.source = .automatic ∧ call.time = time ∧ call.traverse = id
      ∧ (fl.truncated = true ∨ fl.lostSamples = true ∨ fl.landmarkMismatch = true
          ∨ fl.indicationExcess = true ∨ 8 < found.length →
          call.kind = .notUsable ∧ call.entries = [])
      ∧ (fl = ⟨false, false, false, false⟩ → found = [] → call.kind = .ndd ∧ call.entries = [])
      ∧ (fl = ⟨false, false, false, false⟩ → found ≠ [] → found.length ≤ 8 →
          call.kind = .indications ∧ call.entries.length = found.length
          ∧ ∀ (k : Nat) (r : IndicationRecord) (y : CallEntry),
              found[k]? = some r → call.entries[k]? = some y →
              y.landmark = r.landmark ∧ y.offset = r.offset ∧ y.classCode = 0
              ∧ r.sizing.bind (·.depth) = some y.depth)

/-- An inspection pull is aborted by ABANDON in RECORDING or PAUSED and by the expiry of its pause: the
traverse becomes ABORTED and is settled, the tube enters RESTRICTED for ABANDON(RESTRICTION) and RETEST with
cause ABORT otherwise, and the channel comes to rest with nothing in hand and raises CHANNEL_CHANGE last.
TUBE_RETEST with cause ABORT is raised once where the tube enters RETEST, and not at all where it enters
RESTRICTED. TRAVERSE_DONE is sent at once where no page of the traverse is in write, and otherwise the abort
stands among those the channel has still to report. ABANDON in CALIBRATING ends the attempt: its traverse
becomes ABORTED and is settled, CAL_RESULT(REJECTED, ABORTED) is sent, CALIBRATION with reason ABORTED is
raised once, CHANNEL_CHANGE stands last there too, and the channel comes to rest with its brackets and the
log as they were. That CHANNEL_CHANGE stands last among the events of the act, behind STORE_OK, TUBE_RETEST
and CALIBRATION, and that CAL_RESULT stands before PERMIT, is the model's choice: no rule orders them (log
entry 21). A traverse in its pull is not archived: MARK_ARCHIVED refuses it (R82). -/
def Obligations.AbortedPullSendsTheTubeBack : Prop :=
  (∀ (ch : Chan) (s : State) (tr : Traverse) (p : Pos) (x : Session) (e : TubeEntry) (b : Bracket)
    (c : Instr), s.probeUp ch →
    s.inHand? ch = some tr → (s.chan ch).claim = some p → s.ownsWork ch = true →
    tr.archived = false →
    tr.state = .recording ∨ tr.state = .paused ∨ tr.state = .finishing →
    s.session = some x → s.tube? p = some e → e.state = .claimed → s.openBracket ch = some b →
    ((s.chan ch).state = .recording ∨ (s.chan ch).state = .paused) ∧ (∃ r, c = .abandon ch r)
      ∨ (s.chan ch).state = .paused ∧ c = .pauseExpiry ch
        ∧ (∃ d, (s.chan ch).pauseDue = some d ∧ d ≤ x.seconds) →
    let restricted := c = .abandon ch .restriction
    let back := if restricted then TubeState.restricted else .retest
    ∃ t tr', exec c s = .next t ∧ t.trav? tr.id = some tr'
      ∧ tr'.state = .aborted ∧ tr'.endTime = some x.seconds ∧ tr'.settled = true
      ∧ tr'.stored = tr.stored ∧ tr'.lost = tr.lost
      ∧ t.session = some (x.updTube p (fun v =>
          { v with preClaim := none, holder := none, state := back, changed := x.seconds
                   cause := if restricted then none else some .abort }) (x.counts.move .claimed back))
      ∧ (t.chan ch).state = (if b.calDue.isSome then .due else .ready)
      ∧ (t.chan ch).claim = none ∧ (t.chan ch).traverse = none ∧ (t.chan ch).pauseDue = none
      ∧ (t.chan ch).expect = none ∧ (t.chan ch).permit = t.permitNow ch
      ∧ (tr.inWrite = 0 → (s.chan ch).bufA.pendingFor tr.id = false →
          (s.chan ch).bufB.pendingFor tr.id = false →
          .traverseDone tr.id tr.stored tr.lost tr.flags true ∈ (t.chan ch).sent)
      ∧ (0 < tr.inWrite ∨ (s.chan ch).bufA.pendingFor tr.id = true
            ∨ (s.chan ch).bufB.pendingFor tr.id = true → tr.id ∈ (t.chan ch).reports)
      ∧ (∃ es, t.stations = (s.raiseAll es).stations
          ∧ es.filter Event.isRetest = (if restricted then [] else [.tubeRetest p .abort e.attempts])
          ∧ es.getLast? = some (.channelChange ch (t.chan ch).state (t.permitNow ch)))
      ∧ (∀ n, n ≠ tr.id → (t.trav? n).map (·.state) = (s.trav? n).map (·.state))
      ∧ (∀ k, k ≠ ch → t.chan k = s.chan k)
      ∧ t.cal = s.cal ∧ t.comparisons = s.comparisons ∧ t.config = s.config)
  ∧ ∀ (ch : Chan) (r : AbandonReason) (s : State) (a : Attempt) (tr : Traverse) (x : Session),
      s.probeUp ch → (s.chan ch).state = .calibrating → s.attempt? ch = some a →
      s.trav? a.traverse = some tr → tr.archived = false → tr.state = .recording →
      s.session = some x →
      ∃ t tr', exec (.abandon ch r) s = .next t
        ∧ t.trav? a.traverse = some tr' ∧ tr'.state = .aborted ∧ tr'.settled = true
        ∧ tr'.endTime = some x.seconds ∧ tr'.stored = tr.stored ∧ tr'.lost = tr.lost
        ∧ tr'.landmarks = tr.landmarks ∧ tr'.indications = tr.indications
        ∧ (s.chan ch).sent ++ [.calResult a.traverse (.rejected .aborted)] <+: (t.chan ch).sent
        ∧ (t.chan ch).state = (match s.openBracket ch with
            | none => .needsCal
            | some b => if b.calDue.isSome then .due else .ready)
        ∧ (t.chan ch).traverse = none ∧ (t.chan ch).linkLossMark = false
        ∧ (t.chan ch).expect = none ∧ (t.chan ch).pendingLost = false
        ∧ (∃ es, t.stations = (s.raiseAll es).stations
            ∧ es.count (.calRejected ch a.traverse .aborted) = 1
            ∧ es.getLast? = some (.channelChange ch (t.chan ch).state (t.permitNow ch)))
        ∧ t.cal = { s.cal with attempts := s.cal.attempts.set ch none }
        ∧ t.session = s.session
        ∧ (∀ k, k ≠ ch → t.chan k = s.chan k ∧ t.attempt? k = s.attempt? k)
        ∧ t.comparisons = s.comparisons ∧ t.config = s.config

/-- A CAL_START on an up link is checked in the order of R122: the first step that fails is answered
with its reason and changes nothing else. With none failing the calibration begins: a traverse of the
standard is created with a reservation of 1,171 pages, the attempt is in hand, and the channel enters
CALIBRATING with screening by the standard. -/
def Obligations.CalStartCheckedInOrder : Prop :=
  ∀ (ch : Chan) (std : Nat) (s : State), s.probeUp ch →
    (∀ r, firstFailure (calStartTable s ch std) = some r →
      exec (.calStart ch std) s =
        .next ((s.hearProbe ch).sentOn ch (.pullReply true (some r) 0)))
    ∧ ∀ (x : Session) (d : Standard) (id : Identity),
        firstFailure (calStartTable s ch std) = none → s.session = some x → s.standard? std = some d →
        (s.chan ch).identity = some id →
        ∃ t tr, exec (.calStart ch std) s = .next t
          ∧ t.session = some { x with nextTraverse := x.nextTraverse + 1 }
          ∧ t.store = { s.store with directory := s.store.directory ++ [tr]
                                     reservedPages := s.store.reservedPages + 1171
                                     low := t.store.low }
          ∧ tr.id = x.nextTraverse ∧ tr.target = .standard std ∧ tr.channel = ch ∧ tr.bracket = none
          ∧ tr.state = .recording ∧ tr.start = x.seconds ∧ tr.identity = id ∧ tr.reservation = 1171
          ∧ t.cal = { s.cal with
              attempts := s.cal.attempts.set ch
                (some ⟨x.nextTraverse, std, id.probe, .pulling⟩) }
          ∧ (t.chan ch).state = .calibrating ∧ (t.chan ch).traverse = some x.nextTraverse
          ∧ (t.chan ch).expect = none ∧ (t.chan ch).pendingLost = false
          ∧ (t.chan ch).screen = .active (ScreenState.start x.nextTraverse
              { freq := d.freq, tRaw := d.threshold, landmark := none, gap := x.plan.limits.gap
                cal := none, expected := none, reporting := none })
          ∧ (s.chan ch).sent ++ [.pullReply true none x.nextTraverse] <+: (t.chan ch).sent
          ∧ (∀ k, k ≠ ch → t.chan k = s.chan k)
          ∧ t.comparisons = s.comparisons ∧ t.config = s.config

/-- What PROBE_FAILED and DECLARE_PROBE_FAILED do: an up channel enters NEEDS_CAL and an OFFLINE one stays;
the open bracket closes CLOSED_FAIL with cause PROBE_FAILED and its sweep begins; a claim before its pull is
released, a pull is aborted, in its recording, its pause or its finishing, and a calibration attempt ends.
The abort of a pull raises TUBE_RETEST with cause ABORT once, and sends TRAVERSE_DONE at once where no page
of the traverse is in write; otherwise the channel has it still to report. An evaluation in hand, with the
channel in EVALUATING or OFFLINE, ends too: its traverse becomes ABORTED and settled, so that one archived
while it was COMPLETE is released, or its release is pending, and CAL_RESULT is sent only from EVALUATING.
DECLARE_PROBE_FAILED is answered OK with the channel's state after it and the number of the bracket it
closed, if any, behind the events of the act. A channel number above 3 is refused. -/
def Obligations.ProbeFailureEndsWorkAndBracket : Prop :=
  (∀ (ch : Chan) (s : State) (c : Instr), s.calLaw → s.ownsWork ch = true →
    (c = .probeFailed ch ∧ s.probeUp ch
      ∨ ∃ st tag, c = .declareProbeFailed st tag ch.val
        ∧ s.leadBegins st tag (.declareProbeFailed ch.val)) →
    ∃ t, exec c s = .next t
      ∧ (t.chan ch).state = (if (s.chan ch).state = .offline then .offline else .needsCal)
      ∧ t.openBracket ch = none ∧ t.cal.log = s.cal.log
      ∧ (∀ b, s.openBracket ch = some b → ∃ b', t.bracket? b.number = some b'
          ∧ b'.state = .closedFail ∧ b'.cause = some .probeFailed ∧ b'.closedAt = some s.time
          ∧ b'.traverses = b.traverses ∧ b'.sweep ≠ .none)
      ∧ ((s.chan ch).state = .claimed → ∀ p e old, (s.chan ch).claim = some p →
          s.tube? p = some e → e.state = .claimed → e.preClaim = some old →
          (t.chan ch).claim = none ∧ t.store.reservedSlots = s.store.reservedSlots - 1
          ∧ ∃ e', t.tube? p = some e' ∧ e'.state = old ∧ e'.attempts = e.attempts)
      ∧ ((s.chan ch).state = .recording ∨ (s.chan ch).state = .paused → ∀ p e tr,
          (s.chan ch).claim = some p → s.tube? p = some e → s.inHand? ch = some tr →
          tr.archived = false →
          tr.state = .recording ∨ tr.state = .paused ∨ tr.state = .finishing →
          (t.chan ch).claim = none ∧ (t.chan ch).traverse = none
          ∧ (∃ e', t.tube? p = some e' ∧ e'.state = .retest ∧ e'.cause = some .abort)
          ∧ (∃ tr', t.trav? tr.id = some tr' ∧ tr'.state = .aborted ∧ tr'.settled = true)
          ∧ (tr.inWrite = 0 → (s.chan ch).bufA.pendingFor tr.id = false →
              (s.chan ch).bufB.pendingFor tr.id = false →
              .traverseDone tr.id tr.stored tr.lost tr.flags true ∈ (t.chan ch).sent)
          ∧ (0 < tr.inWrite ∨ (s.chan ch).bufA.pendingFor tr.id = true
              ∨ (s.chan ch).bufB.pendingFor tr.id = true → tr.id ∈ (t.chan ch).reports))
      ∧ ((s.chan ch).state = .calibrating → t.attempt? ch = none)
      ∧ ((s.chan ch).state = .evaluating ∨ (s.chan ch).state = .offline → ∀ a tr,
          s.evaluationInHand ch = some a → s.trav? a.traverse = some tr →
          tr.state = .finishing ∨ tr.state = .complete ∧ tr.target.kind = .calibration →
          t.attempt? ch = none ∧ (t.chan ch).traverse = none ∧ (t.chan ch).linkLossMark = false
          ∧ (tr.archived = false → ∃ tr', t.trav? a.traverse = some tr' ∧ tr'.state = .aborted
              ∧ tr'.settled = true)
          ∧ (tr.state = .complete → (s.chan ch).bufA.pendingFor a.traverse = false →
              (s.chan ch).bufB.pendingFor a.traverse = false →
              s.goesOrStays t a.traverse tr tr.freedBySettling (fun u =>
                u.state = .aborted ∧ u.endTime = tr.endTime ∧ tr.settledTo u))
          ∧ ((s.chan ch).state = .evaluating →
              (s.chan ch).sent ++ [.calResult a.traverse (.rejected .aborted)] <+: (t.chan ch).sent)
          ∧ ((s.chan ch).state = .offline → (t.chan ch).sent = (s.chan ch).sent))
      ∧ (∃ es,
          (c = .probeFailed ch → t.stations = (s.raiseAll es).stations)
          ∧ (∀ st tag, c = .declareProbeFailed st tag ch.val → t.stations =
              (((s.begun st).raiseAll es).answered st tag 17 .ok
                (.probeFailed (t.chan ch).state ((s.openBracket ch).map (·.number)))).stations)
          ∧ ((s.chan ch).state = .recording ∨ (s.chan ch).state = .paused → ∀ p e tr,
              (s.chan ch).claim = some p → s.tube? p = some e → s.inHand? ch = some tr →
              tr.archived = false →
              tr.state = .recording ∨ tr.state = .paused ∨ tr.state = .finishing →
              es.filter Event.isRetest = [.tubeRetest p .abort e.attempts])
          ∧ ((s.chan ch).state = .evaluating ∨ (s.chan ch).state = .offline → ∀ a tr,
              s.evaluationInHand ch = some a → s.trav? a.traverse = some tr →
              tr.state = .complete → tr.target.kind = .calibration →
              (s.chan ch).bufA.pendingFor a.traverse = false →
              (s.chan ch).bufB.pendingFor a.traverse = false →
              es.filter Event.isStoreNews
                = s.releaseNews t a.traverse tr tr.freedBySettling))
      ∧ (∀ k, k ≠ ch → t.chan k = s.chan k ∧ t.attempt? k = s.attempt? k)
      ∧ t.comparisons = s.comparisons ∧ t.config = s.config)
  ∧ ∀ (st : Stn) (tag ch : Nat) (s : State), 4 ≤ ch → s.leadBegins st tag (.declareProbeFailed ch) →
      exec (.declareProbeFailed st tag ch) s =
        .next ((s.begun st).answered st tag 17 .badArgument .none)

/-- The loss of a probe link: the channel enters OFFLINE without identity and permit, with its timers
stopped, and sends nothing; its open bracket keeps its place with cal_due set, cause LINK where none was; a
claim before its pull is released and a pull aborted, in its recording, its pause or its finishing, which
raises TUBE_RETEST with cause ABORT once and leaves the channel no TRAVERSE_DONE to send for it; an
evaluation goes on under the link-loss mark. PROBE_IDLE_SEND sends IDLE on an up link. The model's choices:
CHANNEL_CHANGE to OFFLINE is raised first, before the events of the work in hand (log entry 21); it carries
no permit, and the channel has none (log entry 22); on an OFFLINE link, where neither event can arise, both
commands do nothing (log entry 14); and neither command carries a time of silence: the step that queues them
keeps that time, and taken from outside they act at once (log entry 15). -/
def Obligations.LinkLossTakesTheChannelOffline : Prop :=
  (∀ (ch : Chan) (s : State), s.probeUp ch → s.calLaw →
    ∃ t, exec (.probeLinkLoss ch) s = .next t
      ∧ (t.chan ch).state = .offline ∧ (t.chan ch).identity = none ∧ (t.chan ch).permit = none
      ∧ (t.chan ch).silenceMs = 0 ∧ (t.chan ch).claimDue = none ∧ (t.chan ch).pauseDue = none
      ∧ (t.chan ch).sent = (s.chan ch).sent
      ∧ t.openBracket ch = (s.openBracket ch).map (fun b =>
          { b with calDue := some (b.calDue.getD .link) })
      ∧ t.cal.log = s.cal.log
      ∧ ((s.chan ch).state = .claimed → ∀ p e old, (s.chan ch).claim = some p →
          s.tube? p = some e → e.state = .claimed → e.preClaim = some old →
          (t.chan ch).claim = none ∧ t.store.reservedPages = s.store.reservedPages - 1171
          ∧ ∃ e', t.tube? p = some e' ∧ e'.state = old ∧ e'.attempts = e.attempts)
      ∧ ((s.chan ch).state = .recording ∨ (s.chan ch).state = .paused → ∀ p e tr,
          (s.chan ch).claim = some p → s.tube? p = some e → s.inHand? ch = some tr →
          tr.archived = false →
          tr.state = .recording ∨ tr.state = .paused ∨ tr.state = .finishing →
          (t.chan ch).claim = none ∧ (t.chan ch).reports = (s.chan ch).reports ∧ (t.chan ch).traverse = none
          ∧ (∃ e', t.tube? p = some e' ∧ e'.state = .retest ∧ e'.cause = some .abort)
          ∧ ∃ tr', t.trav? tr.id = some tr' ∧ tr'.state = .aborted ∧ tr'.settled = true)
      ∧ ((s.chan ch).state = .calibrating → t.attempt? ch = none)
      ∧ ((s.chan ch).state = .evaluating →
          t.attempt? ch = s.attempt? ch ∧ (t.chan ch).linkLossMark = true)
      ∧ (∃ es, t.stations = (s.raiseAll es).stations
          ∧ es.head? = some (.channelChange ch .offline none)
          ∧ ((s.chan ch).state = .recording ∨ (s.chan ch).state = .paused → ∀ p e tr,
              (s.chan ch).claim = some p → s.tube? p = some e → s.inHand? ch = some tr →
              tr.archived = false →
              tr.state = .recording ∨ tr.state = .paused ∨ tr.state = .finishing →
              es.filter Event.isRetest = [.tubeRetest p .abort e.attempts]))
      ∧ (∀ k, k ≠ ch → t.chan k = s.chan k ∧ t.attempt? k = s.attempt? k)
      ∧ t.comparisons = s.comparisons ∧ t.config = s.config)
  ∧ ∀ (ch : Chan) (s : State),
      (s.probeUp ch → exec (.probeIdleSend ch) s = .next (s.sentOn ch .idle))
      ∧ ((s.chan ch).state = .offline →
          exec (.probeIdleSend ch) s = .next s ∧ exec (.probeLinkLoss ch) s = .next s)

/-- The end of a page write: the bytes of the page stand at its place in the store and every other byte is
as before; the buffer is free, a held one is handed over to the end of its lane, and the traverse counts the
page as written. The port passes on at once: to the next page by the rotation of the lanes, with its page
image and a page of the pool, else to the next fetch by the rotation of the stations, and it is free where
nothing waits. At the last page in write a FINISHING traverse with nothing left in a buffer completes: an
inspection pull with its findings, its call and its reservation returned, the tube ACQUIRED, TUBE_ACQUIRED
raised once, CHANNEL_CHANGE last (the model's choice, log entry 21), and TRAVERSE_DONE sent with PERMIT
behind it; a calibration pull with its findings, the attempt waiting for its verdict. An ABORTED traverse
that the channel has still to report is reported by TRAVERSE_DONE with ABORTED on an up link, and a pull
aborted by the loss of the link is not. An archived and settled traverse without readers is released: its
entry goes, its pages go to the tail of the pool, and TRAVERSE_RELEASED is raised once. An act that
completes, reports and releases nothing raises nothing, sends nothing, and leaves the session, the
calibrations and what the channels have in hand as they were. With no write on the port nothing happens (the
model's choice, log entry 14). -/
def Obligations.PageWriteEndStoresThePage : Prop :=
  (∀ (s : State) (ch : Chan) (i : BufId) (traverse : Option Nat) (page : Nat) (bytes : List Byte),
    s.awake → s.store.port = .write ch i traverse page bytes → page < 1048576 →
    ∃ t, exec .pageWriteEnd s = .next t
      ∧ (∀ a, a < page * 2048 ∨ page * 2048 + bytes.length ≤ a →
          Memory.read 0x00 t.store.ddr a = Memory.read 0x00 s.store.ddr a)
      ∧ (∀ k v, bytes[k]? = some v →
          Memory.read 0x00 t.store.ddr (page * 2048 + k) = v)
      ∧ (t.chan ch).buf i = PageBuffer.empty
      ∧ (((s.chan ch).buf i.other).state ≠ .held →
          (t.chan ch).buf i.other = (s.chan ch).buf i.other)
      ∧ (((s.chan ch).buf i.other).state = .held →
          ((t.chan ch).buf i.other).state = .inWrite)
      ∧ (∀ id tr, traverse = some id → s.trav? id = some tr →
          ∀ tr', t.trav? id = some tr' → tr'.written = tr.written + 1
            ∧ (((s.chan ch).buf i.other).state ≠ .held → tr'.inWrite = tr.inWrite - 1)
            ∧ (((s.chan ch).buf i.other).state ≠ .held → tr.state = .finishing → tr.channel = ch →
                tr.inWrite = 1 → ((s.chan ch).buf i.other).pendingFor id = false →
                ∀ u, (s.chan ch).screen = .holding u → u.traverse = id → tr'.state = .complete))
      ∧ (∀ k, k ≠ ch → (t.chan k).buf .a = (s.chan k).buf .a ∧ (t.chan k).buf .b = (s.chan k).buf .b)
      ∧ t.config = s.config ∧ t.cal.log = s.cal.log ∧ t.cal.brackets = s.cal.brackets
      ∧ s.portPassesOn t (s.lanesAfterWrite ch i) (fun st => (s.stn st).fetchWaiting)
      ∧ (∀ st, (t.stn st).stream = (s.stn st).stream
          ∨ (s.stn st).fetchWaiting = true ∧ (t.stn st).stream =
              (s.stn st).stream.map (fun r => { r with fetch := .fetching }))
      ∧ ((∀ id tr, traverse = some id → s.trav? id = some tr →
            tr.archived = false ∧ (tr.state = .finishing → 1 < tr.inWrite)
            ∧ (tr.state = .aborted → id ∈ (s.chan tr.channel).reports → 1 < tr.inWrite)) →
          s.pageTaken t (s.lanesAfterWrite ch i) [] 0 ∧ s.raisedOnly t [] ∧ t.session = s.session
          ∧ t.cal = s.cal ∧ t.comparisons = s.comparisons
          ∧ ∀ k, (t.chan k).state = (s.chan k).state ∧ (t.chan k).sent = (s.chan k).sent
              ∧ (t.chan k).reports = (s.chan k).reports ∧ (t.chan k).claim = (s.chan k).claim
              ∧ (t.chan k).traverse = (s.chan k).traverse ∧ (t.chan k).screen = (s.chan k).screen))
  ∧ (∀ (s : State) (ch : Chan) (i : BufId) (page : Nat) (bytes : List Byte) (tr : Traverse), s.awake →
      s.store.port = .write ch i (some tr.id) page bytes → page < 1048576 →
      s.trav? tr.id = some tr → tr.channel = ch → tr.inWrite = 1 →
      ((s.chan ch).buf i.other).pendingFor tr.id = false →
      let lanes := s.lanesAfterWrite ch i
      ∃ t, exec .pageWriteEnd s = .next t
        ∧ (∀ u, tr.state = .finishing → tr.archived = false → (s.chan ch).screen = .holding u →
            u.traverse = tr.id → (∀ k, ∀ e ∈ lanes.get k, e.traverse ≠ tr.id) →
            s.pageTaken t lanes [] tr.reservation
            ∧ (t.trav? tr.id).map (·.pages) = some tr.pages
            ∧ (∀ p x e b, tr.target = .tube p → (s.chan ch).state = .recording →
                s.session = some x → s.tube? p = some e → e.state = .claimed →
                s.openBracket ch = some b →
                ∃ es, s.inspectionCompleted t ch tr u p x b es ∧ s.raisedOnly t es)
            ∧ (∀ std x a, tr.target = .standard std → s.session = some x → s.attempt? ch = some a →
                s.calibrationCompleted t ch tr u x a
                ∧ (t.chan ch).state = (s.chan ch).state ∧ (t.chan ch).sent = (s.chan ch).sent))
        ∧ (tr.state = .aborted →
            (tr.id ∈ (s.chan ch).reports →
              (t.chan ch).reports = (s.chan ch).reports.filter (· != tr.id)
              ∧ (t.chan ch).sent = (s.chan ch).sent ++ (if (s.chan ch).state = .offline then []
                  else [.traverseDone tr.id tr.stored tr.lost tr.flags true]))
            ∧ (tr.id ∉ (s.chan ch).reports → (t.chan ch).sent = (s.chan ch).sent
                ∧ (t.chan ch).reports = (s.chan ch).reports)
            ∧ (tr.archived = false → s.raisedOnly t [] ∧ s.pageTaken t lanes [] 0)
            ∧ (t.chan ch).state = (s.chan ch).state ∧ t.session = s.session)
        ∧ (tr.archived = true → tr.settled = true → tr.state ≠ .finishing →
            (tr.readers = 0 → (∀ k, ∀ e ∈ lanes.get k, e.traverse ≠ tr.id) →
              t.trav? tr.id = none ∧ s.pageTaken t lanes tr.pages 0
              ∧ ∃ es, s.raisedOnly t es
                  ∧ es.count (.traverseReleased tr.id tr.target.kind tr.pages.length) = 1)
            ∧ (tr.readers ≠ 0 → ∃ tr', t.trav? tr.id = some tr' ∧ tr'.releasePending = true)))
  ∧ ∀ (s : State), (∀ ch i id page bytes, s.store.port ≠ .write ch i id page bytes) →
      exec .pageWriteEnd s = .next s

/-- The end of a page fetch: a page whose CRC agrees goes to an empty output buffer and onto a free line,
and the next page of the request, where it is written, is asked for: it goes onto the port at once where no
page waits to be written and no station whose turn is earlier waits, and its stream waits otherwise. While a
page is being sent, the page waits FULL in the fetch buffer and nothing is asked for. One whose CRC does not
agree ends the stream with DATA_ERROR, at once with the output buffer empty, its read port leaving the
readers of the traverse, and else after the page being sent, which goes to its end; STREAM_END waits for a
busy line. The end of the last reader of an archived and settled traverse with no page in write releases it,
with TRAVERSE_RELEASED raised once; otherwise such a release is pending. One no longer wanted is dropped.
The port passes on at once, to the next write by the rotation of the lanes, else to the next fetch by the
rotation of the stations; with nothing waiting it is free. The bytes that the store returns otherwise come
with the command (the model's choice, log entry 5). With no fetch on the port nothing happens (the model's
choice, log entry 14). -/
def Obligations.FetchEndDeliversOrEndsTheStream : Prop :=
  (∀ (s : State) (st : Stn) (page seq : Nat) (d : Bool) (upset : List Host.Cell), s.awake →
    s.store.port = .fetch st page seq d → page < 1048576 →
    let bytes := overlay upset (Memory.readBlock 0x00 s.store.ddr (page * 2048) 2048)
    let x := s.stn st
    (d = false → (∀ k, s.store.lanes.get k = []) →
        (∀ k r, (s.stn k).stream = some r → r.fetch ≠ .waiting) →
        exec (.fetchEnd upset) s = .next { s with store := { s.store with port := .free } })
    ∧ (d = false → ∃ t, exec (.fetchEnd upset) s = .next t
        ∧ s.portPassesOn t s.store.lanes (fun k => (s.stn k).fetchWaiting)
        ∧ s.pageTaken t s.store.lanes [] 0 ∧ s.raisedOnly t []
        ∧ t.channels = s.channels ∧ t.session = s.session ∧ t.cal = s.cal
        ∧ t.comparisons = s.comparisons ∧ t.config = s.config ∧ t.store.ddr = s.store.ddr)
    ∧ ∀ r, d = true → x.stream = some r → r.ending = none → r.fetch = .fetching →
        ∃ t, exec (.fetchEnd upset) s = .next t
          ∧ (r.output = none → crcGood bytes = true →
              (x.line = none → x.queueFull = [] → x.reply = none →
                (t.stn st).line = some (.pageData r.tag r.next bytes))
              ∧ (x.line ≠ none → (t.stn st).line = x.line)
              ∧ ∃ r', (t.stn st).stream = some r' ∧ r'.output = some (r.next, bytes)
                ∧ r'.next = r.next + 1 ∧ r'.sent = r.sent
                ∧ (r'.ending = some .short ↔ r.next + 1 < r.first + r.count
                    ∧ ∀ tr, s.trav? r.traverse = some tr → fetchAnswer tr (r.next + 1) ≠ .passed)
                ∧ (r.next + 1 = r.first + r.count → r'.fetch = .empty)
                ∧ ∀ tr, r.next + 1 < r.first + r.count → s.trav? r.traverse = some tr →
                    r.next + 1 < tr.written →
                    (r'.fetch = .waiting ∨ r'.fetch = .fetching)
                    ∧ ((∀ k, s.store.lanes.get k = []) →
                        (∀ k q, fetchTurn s.store.lastFetch k < fetchTurn s.store.lastFetch st →
                          (s.stn k).stream = some q → q.fetch ≠ .waiting) →
                        r'.fetch = .fetching ∧ t.store.port =
                          .fetch st ((tr.pages[r.next + 1]?).getD 0) (r.next + 1) true))
          ∧ (r.output = none → crcGood bytes = false →
              let last := StationOut.streamEnd r.tag (.dataError seq page) r.sent (r.first + r.sent)
              (t.stn st).stream = none
              ∧ (x.line = none → x.queueFull = [] →
                  (t.stn st).line = some last ∧ (t.stn st).reply = none)
              ∧ (x.line ≠ none → (t.stn st).line = x.line ∧ (t.stn st).reply = some last))
          ∧ (r.output ≠ none → x.line ≠ none →
              (t.stn st).stream = some (if crcGood bytes then { r with fetch := .full bytes }
                else { r with fetch := .empty, ending := some (.dataError seq page) })
              ∧ (t.stn st).line = x.line ∧ (t.stn st).reply = x.reply)
          ∧ (∀ tr, s.trav? r.traverse = some tr → tr.archived = false →
              let left := r.output = none ∧ crcGood bytes = false ∧ r.registered = true
              (t.trav? r.traverse).map (·.readers)
                  = some (if left then tr.readers - 1 else tr.readers)
              ∧ s.portPassesOn t s.store.lanes (fun k =>
                  if k = st then
                    (t.stn st).stream.any fun q => q.fetch == .waiting || q.fetch == .fetching
                  else (s.stn k).fetchWaiting)
              ∧ s.pageTaken t s.store.lanes [] 0
              ∧ ∀ k, k ≠ st → { t.stn k with stream := none } = { s.stn k with stream := none })
          ∧ (∀ tr, s.trav? r.traverse = some tr → tr.archived = true →
              r.output = none → crcGood bytes = false → r.registered = true →
              (∀ k, ∀ e ∈ s.store.lanes.get k, e.traverse ≠ r.traverse) →
              let freed := tr.freedByReader
              (freed = true → t.trav? r.traverse = none)
              ∧ (freed = false → ∃ tr', t.trav? r.traverse = some tr'
                  ∧ tr'.readers = tr.readers - 1 ∧ (tr.settled = true → tr'.releasePending = true))
              ∧ s.pageTaken t s.store.lanes (if freed then tr.pages else []) 0
              ∧ ((∀ k q, k ≠ st → (s.stn k).stream = some q → q.traverse ≠ r.traverse) →
                  s.portPassesOn t s.store.lanes fun k => decide (k ≠ st) && (s.stn k).fetchWaiting)
              ∧ ∃ es, es.count (.traverseReleased r.traverse tr.target.kind tr.pages.length)
                    = (if freed then 1 else 0)
                  ∧ ∀ k, k ≠ st → { t.stn k with stream := none }
                      = { (s.raiseAll es).stn k with stream := none })
          ∧ (t.stn st).queue = x.queue ∧ (t.stn st).inHand = x.inHand
          ∧ (t.stn st).delivered = x.delivered
          ∧ t.channels = s.channels ∧ t.session = s.session ∧ t.cal = s.cal
          ∧ t.comparisons = s.comparisons ∧ t.config = s.config ∧ t.store.ddr = s.store.ddr)
  ∧ ∀ (s : State) (upset : List Host.Cell), (∀ st page seq d, s.store.port ≠ .fetch st page seq d) →
      exec (.fetchEnd upset) s = .next s

/-! The Calibration Unit and the Agreement Unit at the end of their work. -/

/-- The verdict of an evaluation. REJECTED: the attempt ends, the traverse is settled, the log stays, and a
channel in EVALUATING sends CAL_RESULT, comes to rest, and raises CHANNEL_CHANGE. ACCEPTED: the log takes
the entry of the calibration at its end, with the comparison of the open bracket's opening entry and the new
figures; that bracket closes by it, a new bracket opens under the entry's number, and the traverse joins it;
a link-loss mark sets cal_due LINK on it. A channel in EVALUATING sends CAL_RESULT(ACCEPTED, log number,
bracket outcome), with OPENED where no bracket was open and else the closed bracket's number and its
verdict, comes to rest, and raises CHANNEL_CHANGE. An OFFLINE channel sends nothing and stays OFFLINE at
either verdict. The sweep of the closed bracket runs, and is DONE at once, with BRACKET_CLOSED raised, where
no traverse of it is live. CALIBRATION with the verdict is raised once. The verdict settles the traverse:
one archived while it was COMPLETE is released in the act, its pages at the tail of the pool, with
TRAVERSE_RELEASED and the STORE_LOW or STORE_OK of the new value raised, and with a reader or a page in
write its release is pending; no other event of the store is raised. The comparison is good exactly when
every flaw drifts at most 50 in phase and a tenth in amplitude. -/
def Obligations.VerdictEndsTheEvaluation : Prop :=
  (∀ (ch : Chan) (s : State) (a : Attempt) (tr : Traverse) (std : Standard) (x : Session),
    s.awake → s.session = some x → s.calLaw → s.attempt? ch = some a → a.stage = .evaluating →
    s.trav? a.traverse = some tr → s.standard? a.standard = some std →
    let freed := tr.freedBySettling
    ∃ t, exec (.calibrationVerdict ch) s = .next t ∧ t.attempt? ch = none
      ∧ (t.chan ch).linkLossMark = false
      ∧ (∀ r, evaluate std tr = .error r →
          t.cal.log = s.cal.log
          ∧ s.goesOrStays t a.traverse tr freed (fun u =>
              u.bracket = tr.bracket ∧ u.state = tr.state ∧ tr.settledTo u)
          ∧ ((s.chan ch).linkLossMark = false → t.cal.brackets = s.cal.brackets)
          ∧ (∃ es, t.stations = (s.raiseAll es).stations
              ∧ es.count (.calRejected ch a.traverse r) = 1
              ∧ es.filter Event.isStoreNews = s.releaseNews t a.traverse tr freed
              ∧ ((s.chan ch).state = .evaluating →
                  .channelChange ch (t.chan ch).state (t.permitNow ch) ∈ es))
          ∧ ((s.chan ch).state = .evaluating → (t.chan ch).traverse = none
              ∧ (s.chan ch).sent ++ [.calResult a.traverse (.rejected r)] <+: (t.chan ch).sent
              ∧ ((s.chan ch).linkLossMark = false → (t.chan ch).state =
                  match s.openBracket ch with
                  | none => .needsCal
                  | some b => if b.calDue.isSome then .due else .ready)))
      ∧ (∀ f, evaluate std tr = .ok f →
          ∃ e b, t.cal.log = s.cal.log ++ [e] ∧ e.number = s.cal.log.length + 1 ∧ e.channel = ch
            ∧ e.standard = a.standard ∧ e.traverse = a.traverse ∧ e.time = x.seconds
            ∧ e.probe = a.probe ∧ e.flaws = f.flaws ∧ e.rho = f.rho ∧ e.aRef = f.aRef
            ∧ (s.openBracket ch = none → e.closed = none)
            ∧ (∀ old, s.openBracket ch = some old → ∃ o, s.logEntry? old.openingLog = some o
                ∧ e.closed = some (closingComparison old.number o.rho o.flaws f.flaws))
            ∧ t.openBracket ch = some b ∧ b.number = e.number ∧ b.openingLog = e.number
            ∧ b.standard = a.standard ∧ b.openedAt = x.seconds
            ∧ b.capacity = x.plan.limits.capacity ∧ b.traverses = []
            ∧ b.calDue = (if (s.chan ch).linkLossMark then some .link else none)
            ∧ s.goesOrStays t a.traverse tr freed (fun u =>
                u.bracket = some e.number ∧ u.state = tr.state ∧ tr.settledTo u)
            ∧ (∀ old info, s.openBracket ch = some old → e.closed = some info →
                ∃ old', t.bracket? old.number = some old'
                  ∧ old'.state = (if info.good then .closedGood else .closedFail)
                  ∧ old'.cause = some (.calibration e.number) ∧ old'.closedAt = some x.seconds
                  ∧ old'.sweep = (if old.traverses.all fun n => (t.trav? n).isNone then .done
                      else .running)
                  ∧ old'.retests = some 0)
            ∧ (∃ es, t.stations = (s.raiseAll es).stations
                ∧ es.count (.calAccepted ch a.traverse e.number) = 1
                ∧ es.filter Event.isStoreNews = s.releaseNews t a.traverse tr freed
                ∧ ((s.chan ch).state = .evaluating →
                    .channelChange ch (t.chan ch).state (t.permitNow ch) ∈ es)
                ∧ (∀ old info, s.openBracket ch = some old → e.closed = some info →
                    es.count (.bracketClosed ch old.number info.good 0)
                      = if old.traverses.all fun n => (t.trav? n).isNone then 1 else 0))
            ∧ ((s.chan ch).state = .evaluating → (t.chan ch).traverse = none
                ∧ (t.chan ch).state = (if (s.chan ch).linkLossMark then .due else .ready)
                ∧ (s.openBracket ch = none → (s.chan ch).sent ++
                    [.calResult a.traverse (.accepted e.number .opened)] <+: (t.chan ch).sent)
                ∧ (∀ old info, s.openBracket ch = some old → e.closed = some info →
                    (s.chan ch).sent ++ [.calResult a.traverse
                        (.accepted e.number (.closed old.number info.good))] <+: (t.chan ch).sent)))
      ∧ ((s.chan ch).state = .offline →
          (t.chan ch).state = .offline ∧ (t.chan ch).sent = (s.chan ch).sent)
      ∧ (∀ k, k ≠ ch → t.chan k = s.chan k ∧ t.attempt? k = s.attempt? k)
      ∧ t.session = s.session ∧ t.comparisons = s.comparisons ∧ t.config = s.config)
  ∧ ∀ (number rho : Nat) (opening closing : List Flaw),
      (closingComparison number rho opening closing).good = true ↔
        ∀ o c, (o, c) ∈ opening.zip closing →
          circularDiff ((c.phase + rho) % 3600) o.theta ≤ 50
            ∧ ((c.amp : Int) - o.amp).natAbs * 10 ≤ o.amp

/-- BRACKET_AGE_LIMIT at its time sets cal_due AGE on the open bracket, and a READY channel enters DUE. A
sweep takes its traverses in turn: of a CLOSED_FAIL bracket, a tube still ACQUIRED on the traverse goes to
RETEST with cause BRACKET_FAIL and is counted, its COMPLETE traverse is INVALIDATED and settled, and any
other tube is left; of a CLOSED_GOOD bracket, a tube ACQUIRED on the COMPLETE traverse is handed to the test
of R151. With nothing left the sweep is DONE. A traverse archived while it was COMPLETE is released by its
INVALIDATED, its pages at the tail of the pool, and with a reader or a page in write its release is pending.
A presentation that moves a tube raises TUBE_RETEST with cause BRACKET_FAIL and the tube's attempts, where
the traverse is released behind TRAVERSE_RELEASED and the STORE_LOW or STORE_OK of the new value (that order
is the model's choice, log entry 21); the one that ends the sweep then raises BRACKET_CLOSED with the
channel, the number, the verdict and the retest count, each once, and no presentation raises anything else.
-/
def Obligations.SweepsPresentInTurn : Prop :=
  (∀ (ch : Chan) (s : State) (x : Session) (b : Bracket), s.awake → s.session = some x →
    s.calLaw → s.openBracket ch = some b → b.calDue = none →
    b.openedAt + x.plan.limits.interval * 3600 ≤ x.seconds →
    ∃ t, exec (.bracketAgeLimit ch) s = .next t
      ∧ t.openBracket ch = some { b with calDue := some .age }
      ∧ (t.chan ch).state = (if (s.chan ch).state = .ready then .due else (s.chan ch).state)
      ∧ (∀ k, k ≠ ch → t.chan k = s.chan k ∧ t.openBracket k = s.openBracket k)
      ∧ t.cal.log = s.cal.log ∧ t.session = s.session ∧ t.store = s.store)
  ∧ (∀ (n id : Nat) (rest : List Nat) (s : State) (x : Session) (b : Bracket) (tr : Traverse)
      (p : Pos) (e : TubeEntry), s.awake → s.session = some x → s.bracket? n = some b →
      b.sweep = .running → b.state = .closedFail → b.toPresent = id :: rest →
      s.trav? id = some tr → tr.target = .tube p → s.tube? p = some e →
      let moved := e.state = .acquired ∧ e.traverse = some id
      let freed := decide (tr.state = .complete) && tr.freedBySettling
      ∃ t b', exec (.closedFailPresentation n) s = .next t ∧ t.bracket? n = some b'
        ∧ b'.state = .closedFail
        ∧ ((∀ r ∈ rest, t.trav? r = none) → b'.sweep = .done)
        ∧ ((∃ r ∈ rest, t.trav? r ≠ none) → b'.sweep = .running ∧ b'.toPresent <:+ rest)
        ∧ (moved →
            t.session = some (x.updTube p (fun u =>
              { u with primary := none, secondary := none, finalCall := none
                       cause := some .bracketFail, state := .retest, changed := x.seconds })
              (x.counts.move .acquired .retest))
            ∧ b'.retests = some (b.retests.getD 0 + 1)
            ∧ (tr.state = .complete → s.goesOrStays t id tr freed (fun u =>
                u.state = .invalidated ∧ u.endTime = tr.endTime ∧ u.pages = tr.pages
                  ∧ tr.settledTo u))
            ∧ (tr.state ≠ .complete → t.store = s.store))
        ∧ (¬moved → t.session = s.session ∧ t.store = s.store ∧ b'.retests = b.retests)
        ∧ t.stations = (s.raiseAll
            ((if moved then
                s.releaseNews t id tr freed ++ [.tubeRetest p .bracketFail e.attempts] else [])
              ++ (if rest.all fun r => (t.trav? r).isNone then
                [.bracketClosed b.channel n false (b'.retests.getD 0)] else []))).stations
        ∧ t.channels = s.channels ∧ t.comparisons = s.comparisons ∧ t.cal.log = s.cal.log)
  ∧ ∀ (n id : Nat) (rest : List Nat) (s : State) (b : Bracket) (tr : Traverse)
      (p : Pos) (e : TubeEntry), s.awake → s.bracket? n = some b →
      b.sweep = .running → b.state = .closedGood → b.toPresent = id :: rest →
      s.trav? id = some tr → tr.target = .tube p → s.tube? p = some e →
      ∃ t b', exec (.closedGoodHandover n) s = .next t ∧ t.bracket? n = some b'
        ∧ b'.state = .closedGood
        ∧ ((∀ r ∈ rest, s.trav? r = none) → b'.sweep = .done)
        ∧ ((∃ r ∈ rest, s.trav? r ≠ none) → b'.sweep = .running ∧ b'.toPresent <:+ rest)
        ∧ t.comparisons = s.comparisons ++
            (if e.state = .acquired ∧ e.traverse = some id ∧ tr.state = .complete
                ∧ s.comparison? p = none then (s.comparable e).toList else [])
        ∧ b'.retests = b.retests
        ∧ t.stations = (s.raiseAll (if rest.all fun r => (s.trav? r).isNone then
            [.bracketClosed b.channel n true (b.retests.getD 0)] else [])).stations
        ∧ t.session = s.session ∧ t.store = s.store ∧ t.channels = s.channels
        ∧ t.cal.log = s.cal.log

/-- The end of a comparison in hand: on a tube still ACQUIRED on the compared traverse, agreement stores the
final call and moves the tube by the plug rule, disagreement moves it to RESOLUTION, and two requests for a
retest send it to RETEST with cause BOTH_RETEST and make its COMPLETE traverse INVALIDATED, which settles
it; on any other tube the outcome is discarded. Agreement settles the traverse too, and a traverse archived
before is released by the settling, or its release is pending. Agreement raises TUBE_FINAL, disagreement
TUBE_RESOLUTION and no other event, and two requests for a retest TUBE_RETEST; the events of a release by
the settling, TRAVERSE_RELEASED and the STORE_LOW or STORE_OK of the new value, stand after TUBE_FINAL and
before TUBE_RETEST (the model's choice, log entry 21). -/
def Obligations.ComparisonEndAppliesTheOutcome : Prop :=
  ∀ (p : Pos) (s : State) (x : Session) (c : Comparison) (e : TubeEntry), s.awake →
    s.session = some x → s.comparison? p = some c → s.tube? p = some e →
    let left := s.comparisons.filter fun d => d.pos != p
    (¬(e.state = .acquired ∧ e.traverse = some c.traverse) →
      exec (.comparisonEnd p.row p.col) s = .next { s with comparisons := left })
    ∧ (e.state = .acquired → e.traverse = some c.traverse →
        ∃ t, exec (.comparisonEnd p.row p.col) s = .next t ∧ t.comparisons = left
          ∧ t.channels = s.channels ∧ t.cal = s.cal ∧ t.config = s.config
          ∧ (∀ kind es, c.outcome = .agreement kind es →
              let new : TubeState :=
                if kind = .indications ∧ (∃ v ∈ es, x.plan.limits.plug ≤ v.depth)
                  then .plugRecommended else .final
              (1 ≤ x.plan.limits.plug → t.session = some (x.updTube p (fun u =>
                  { u with finalCall := some ⟨kind, es, .agreement, x.seconds, c.traverse⟩
                           state := new, changed := x.seconds }) (x.counts.move .acquired new))
                ∧ ∃ after, t.stations = ((s.raise (.tubeFinal p c.traverse new kind
                      (if kind = .indications then some ((es.map (·.depth)).foldl max 0) else none))
                    ).raiseAll after).stations
                  ∧ (s.trav? c.traverse = none → after = [])
                  ∧ ∀ tr, s.trav? c.traverse = some tr →
                      after = s.releaseNews t c.traverse tr tr.freedBySettling)
              ∧ (s.trav? c.traverse = none → t.store = s.store)
              ∧ ∀ tr, s.trav? c.traverse = some tr →
                  s.goesOrStays t c.traverse tr tr.freedBySettling fun u =>
                    u.state = tr.state ∧ tr.settledTo u)
          ∧ (∀ d, c.outcome = .disagreement d →
              t.session = some (x.updTube p (fun u =>
                { u with state := .resolution, changed := x.seconds })
                (x.counts.move .acquired .resolution)) ∧ t.store = s.store
              ∧ t.stations = (s.raise (.tubeResolution p c.traverse d)).stations)
          ∧ (c.outcome = .bothRetest →
              t.session = some (x.updTube p (fun u =>
                { u with primary := none, secondary := none, finalCall := none
                         cause := some .bothRetest, state := .retest, changed := x.seconds })
                (x.counts.move .acquired .retest))
              ∧ (let set := fun tr : Traverse =>
                   tr.state = .complete ∧ tr.target.kind = .inspection
                 (∀ tr, s.trav? c.traverse = some tr → set tr →
                    s.goesOrStays t c.traverse tr tr.freedBySettling fun u =>
                      u.state = .invalidated ∧ tr.settledTo u)
                 ∧ ((∀ tr, s.trav? c.traverse = some tr → ¬set tr) → t.store = s.store)
                 ∧ ∃ before, t.stations =
                      ((s.raiseAll before).raise (.tubeRetest p .bothRetest e.attempts)).stations
                    ∧ ((∀ tr, s.trav? c.traverse = some tr → ¬set tr) → before = [])
                    ∧ ∀ tr, s.trav? c.traverse = some tr → set tr →
                        before = s.releaseNews t c.traverse tr tr.freedBySettling)))

/-! Station links. -/

/-- Arrivals on a station link. A valid frame brings the link UP and restarts its silence timer; a
frame that is not valid has no effect. A REQUEST takes the tail of a queue of 8 places, is answered
QUEUE_FULL beyond them, and is left unanswered beyond 8 such answers. IDLE does no more; nor does
ABORT_STREAM without a stream. After 2 s of silence the link is DOWN with all that waited on it gone
and EVENTS_LOST set; after 500 ms without a sent frame a free line sends IDLE. The model's choices: a
QUEUE_FULL on the line stands outside the eight waiting (log entry 28); loss and idle send act whenever
they are taken, the step that queues them keeping the time (log entry 15); a sent frame restarts the
quiet count (log entry 29); on a DOWN link, or with a frame on the line, they do nothing (log entry 14). -/
def Obligations.StationArrivalsAsTheyCome : Prop :=
  ∀ (st : Stn) (s : State), s.awake →
    let x := s.stn st
    let h : StationLink := { x with link := .up, silenceMs := 0 }
    let put := fun y : StationLink => { s with stations := s.stations.set st y }
    exec (.stationIdle st) s = .next (put h)
    ∧ (∀ frame, exec (.stationFrameDiscarded st frame) s = .next s)
    ∧ (∀ tag req, x.queue.length < 8 →
        exec (.stationRequestFrame st tag req) s =
          .next (put { h with queue := x.queue ++ [⟨tag, req⟩] }))
    ∧ (∀ tag req, 8 ≤ x.queue.length → x.queueFull.length < 8 → x.line ≠ none →
        exec (.stationRequestFrame st tag req) s =
          .next (put { h with queueFull := x.queueFull ++ [(tag, requestCode req)] }))
    ∧ (∀ tag req, 8 ≤ x.queue.length → x.queueFull = [] → x.line = none →
        exec (.stationRequestFrame st tag req) s =
          .next (put { h with line := some (.queueFull tag (requestCode req)), quietMs := 0 }))
    ∧ (∀ tag req, 8 ≤ x.queue.length → 8 ≤ x.queueFull.length →
        exec (.stationRequestFrame st tag req) s = .next (put h))
    ∧ (x.stream = none → exec (.abortStream st) s = .next (put h))
    ∧ (x.link = .down → exec (.stationLinkLoss st) s = .next s)
    ∧ (x.link = .up → x.stream = none →
        exec (.stationLinkLoss st) s = .next (put
          { x with link := .down, silenceMs := 0, quietMs := 0, queue := [], inHand := false
                   queueFull := [], reply := none, line := none, events := []
                   eventsLost := true, attn := false }))
    ∧ (x.link = .up → x.line = none →
        exec (.stationIdleSend st) s = .next (put { x with line := some .idle, quietMs := 0 }))
    ∧ (x.link = .down ∨ x.line ≠ none → exec (.stationIdleSend st) s = .next s)

/-- How a stream ends early. ABORT_STREAM records ABORTED and withdraws the fetch; with the output buffer
empty STREAM_END follows at once, and otherwise the page being sent goes to its end first. The loss of the
link ends it with no frame. Either way the read port leaves the readers of its traverse when the stream
ends. Of an archived and settled traverse with no page in write, the end of the last reader by either
command releases it, with the events of the release raised, and while others read it its release stays
pending; the lost station's event queue is empty after the loss with the attention line low. A loss acts
whenever it is taken, the step that queues it keeping the time of silence (the model's choice, log entry
15). -/
def Obligations.StreamsEndEarly : Prop :=
  (∀ (st : Stn) (s : State) (r : Stream) (tr : Traverse), s.awake → (s.stn st).stream = some r →
    r.registered = true → s.trav? r.traverse = some tr → tr.archived = false →
    let closed : Store :=
      { s.store.updTrav r.traverse fun u => { u with readers := u.readers - 1 } with
        port := s.store.port.undeliver st }
    (r.output = none →
      exec (.abortStream st) s = .next
        { s with
          store := closed
          stations := s.stations.set st
            (StationLink.withReply { s.stn st with link := .up, silenceMs := 0, stream := none }
              (.streamEnd r.tag .aborted r.sent (r.first + r.sent))) })
    ∧ (r.output ≠ none → ∃ t, exec (.abortStream st) s = .next t
        ∧ (t.stn st).stream = some { r with ending := some .aborted, fetch := .empty }
        ∧ ((s.stn st).line ≠ none → (t.stn st).line = (s.stn st).line)
        ∧ (t.trav? r.traverse).map (·.readers) = some tr.readers
        ∧ t.session = s.session ∧ t.channels = s.channels ∧ t.cal = s.cal)
    ∧ ((s.stn st).link = .up → ∃ t, exec (.stationLinkLoss st) s = .next t
        ∧ (t.stn st).stream = none ∧ (t.stn st).line = none ∧ (t.stn st).reply = none
        ∧ (t.stn st).queue = [] ∧ (t.stn st).eventsLost = true ∧ (t.stn st).link = .down
        ∧ (t.stn st).events = [] ∧ (t.stn st).attn = false ∧ t.store = closed
        ∧ (∀ k, k ≠ st → t.stn k = s.stn k)
        ∧ t.session = s.session ∧ t.channels = s.channels ∧ t.cal = s.cal))
  ∧ ∀ (st : Stn) (s : State) (r : Stream) (tr : Traverse), s.awake →
      (s.stn st).stream = some r → r.registered = true → s.trav? r.traverse = some tr →
      tr.archived = true →
      let freed := tr.freedByReader
      let leaves := fun t : State =>
        s.goesOrStays t r.traverse tr freed (fun u =>
          u.readers = tr.readers - 1 ∧ u.state = tr.state ∧ u.settled = tr.settled
            ∧ (tr.settled = true → u.releasePending = true))
        ∧ t.store.port = s.store.port.undeliver st
        ∧ t.session = s.session ∧ t.channels = s.channels ∧ t.cal = s.cal
        ∧ t.comparisons = s.comparisons ∧ t.config = s.config
      ((s.stn st).link = .up → ∃ t, exec (.stationLinkLoss st) s = .next t ∧ leaves t
        ∧ (∀ k, k ≠ st → t.stn k = (s.raiseAll (s.releaseNews t r.traverse tr freed)).stn k)
        ∧ (t.stn st).stream = none ∧ (t.stn st).link = .down ∧ (t.stn st).queue = []
        ∧ (t.stn st).events = [] ∧ (t.stn st).attn = false ∧ (t.stn st).eventsLost = true)
      ∧ (r.output = none → ∃ t, exec (.abortStream st) s = .next t ∧ leaves t
        ∧ t.stations = (State.raiseAll
            { s with
              stations := s.stations.set st
                (StationLink.withReply { s.stn st with link := .up, silenceMs := 0, stream := none }
                  (.streamEnd r.tag .aborted r.sent (r.first + r.sent))) }
            (s.releaseNews t r.traverse tr freed)).stations)

/-- The end of a send chooses the next frame. After a RESPONSE or STREAM_END its request leaves the queue;
the oldest unsent QUEUE_FULL response goes first, and otherwise a waiting reply. After a page, pages sent
rise and the output buffer is empty: a fetched page follows at once, and a stream whose ending is decided
ends with STREAM_END, its read port leaving the readers of its traverse, which releases one archived and
settled that has no other reader and no page in write. The end of a send starts the time without a sent
frame again (the model's choice, log entry 29). With no frame on the line, at FRAME_SEND_END with PAGE_DATA
on it and at PAGE_SEND_END with any other frame on it nothing happens (the model's choice, log entry 14). -/
def Obligations.SendEndsChooseTheNextFrame : Prop :=
  ∀ (st : Stn) (s : State), s.awake →
    let x := s.stn st
    let put := fun y : StationLink => { s with stations := s.stations.set st y }
    (∀ f y, x.line = some f → (∀ tag seq bytes, f ≠ .pageData tag seq bytes) →
      y = { x with line := none, quietMs := 0, delivered := x.delivered ++ [f] } →
      ((∃ tag name status content, f = .response tag name status content)
          ∨ (∃ tag ending sent stopped, f = .streamEnd tag ending sent stopped) →
        ∀ z, z = { y with queue := x.queue.tail, inHand := false } →
        (∀ q rest, x.queueFull = q :: rest → exec (.frameSendEnd st) s =
          .next (put { z with queueFull := rest, line := some (.queueFull q.1 q.2) }))
        ∧ (x.queueFull = [] → x.reply = none → x.stream = none →
            exec (.frameSendEnd st) s = .next (put z)))
      ∧ (f = .idle ∨ (∃ tag name, f = .queueFull tag name) →
        (∀ q rest, x.queueFull = q :: rest → exec (.frameSendEnd st) s =
          .next (put { y with queueFull := rest, line := some (.queueFull q.1 q.2) }))
        ∧ (∀ g, x.queueFull = [] → x.reply = some g → exec (.frameSendEnd st) s =
            .next (put { y with reply := none, line := some g }))
        ∧ (x.queueFull = [] → x.reply = none → x.stream = none →
            exec (.frameSendEnd st) s = .next (put y))))
    ∧ (∀ r tag seq bytes, x.line = some (.pageData tag seq bytes) → x.stream = some r →
        x.queueFull = [] → x.reply = none →
        ∃ t, exec (.pageSendEnd st) s = .next t
          ∧ (t.stn st).delivered = x.delivered ++ [.pageData tag seq bytes]
          ∧ (∀ page, r.fetch = .full page →
              (t.stn st).line = some (.pageData r.tag r.next page)
              ∧ ∃ r', (t.stn st).stream = some r' ∧ r'.sent = r.sent + 1 ∧ r'.next = r.next + 1
                  ∧ r'.output = some (r.next, page))
          ∧ (∀ ending, r.fetch = .empty →
              r.ending = some ending ∨ (r.ending = none ∧ ending = .ok ∧ r.sent + 1 = r.count
                ∧ r.next = r.first + r.count) →
              (t.stn st).stream = none ∧ (t.stn st).line =
                some (.streamEnd r.tag ending (r.sent + 1) (r.first + (r.sent + 1)))
              ∧ ∀ tr, r.registered = true → s.trav? r.traverse = some tr →
                  s.goesOrStays t r.traverse tr tr.freedByReader (fun u =>
                    u.readers = tr.readers - 1 ∧ u.state = tr.state
                      ∧ (tr.archived = true → tr.settled = true → u.releasePending = true))
                  ∧ ∀ k, k ≠ st → t.stn k =
                      (s.raiseAll (s.releaseNews t r.traverse tr tr.freedByReader)).stn k)
          ∧ t.session = s.session ∧ t.channels = s.channels ∧ t.cal = s.cal
          ∧ t.comparisons = s.comparisons ∧ t.config = s.config)
    ∧ (x.line = none → exec (.frameSendEnd st) s = .next s ∧ exec (.pageSendEnd st) s = .next s)
    ∧ (∀ tag seq bytes, x.line = some (.pageData tag seq bytes) →
        exec (.frameSendEnd st) s = .next s)
    ∧ (∀ f, x.line = some f → (∀ tag seq bytes, f ≠ .pageData tag seq bytes) →
        exec (.pageSendEnd st) s = .next s)

/-- READ_PAGES: refused with a RESPONSE and no effect, or a stream that counts among the readers of its
traverse and asks for its first page at once; a first sequence at or beyond the written pages ends it
SHORT with no page sent. -/
def Obligations.ReadPagesStartsAStream : Prop :=
  ∀ (st : Stn) (tag traverse first count : Nat) (s : State),
    s.mayBegin st tag (.readPages traverse first count) →
    let c : Instr := .readPages st tag traverse first count
    let no := fun r : Status => Host.Outcome.next ((s.begun st).answered st tag 21 r .none)
    (s.session = none → exec c s = no .noSession)
    ∧ (s.session ≠ none → ¬(1 ≤ count ∧ count ≤ 256 ∧ first ≤ 1170) → exec c s = no .badArgument)
    ∧ (s.session ≠ none → 1 ≤ count → count ≤ 256 → first ≤ 1170 →
        (s.trav? traverse = none → exec c s = no .noSuchTraverse)
        ∧ ∀ tr, s.trav? traverse = some tr →
          (tr.releasePending = true → exec c s = no .noSuchTraverse)
          ∧ (tr.releasePending = false → ∃ t, exec c s = .next t
              ∧ t.session = s.session ∧ t.channels = s.channels ∧ t.cal = s.cal
              ∧ t.comparisons = s.comparisons ∧ t.config = s.config
              ∧ (first < tr.written →
                  ∃ r tr', (t.stn st).stream = some r ∧ t.trav? traverse = some tr'
                    ∧ tr'.readers = tr.readers + 1
                    ∧ r = { newStream tag traverse first count with fetch := r.fetch }
                    ∧ (r.fetch = .waiting ∨ r.fetch = .fetching)
                    ∧ (s.store.port = .free → (∀ k, s.store.lanes.get k = []) →
                        (∀ k q, k ≠ st → (s.stn k).stream = some q → q.fetch ≠ .waiting) →
                        r.fetch = .fetching
                        ∧ t.store.port = .fetch st ((tr.pages[first]?).getD 0) first true))
              ∧ (tr.written ≤ first → tr.archived = false ∨ tr.settled = false →
                  (s.stn st).line = none →
                  (s.stn st).queueFull = [] →
                  (t.stn st).stream = none
                  ∧ (t.stn st).line = some (.streamEnd tag .short 0 first)
                  ∧ t.store = s.store)))

/-- When a request is executed. One that its controller may not yet begin is an arrival: it joins the
queue as a REQUEST frame does, and is begun at once where it then stands at the head with none in hand
(the model's choice, log entry 12). An unreadable request is answered BAD_ARGUMENT, and a lead's
request from another role WRONG_ROLE, with no other effect. -/
def Obligations.RequestsWaitTheirTurn : Prop :=
  ∀ (st : Stn) (tag : Nat) (req : Request) (s : State),
    let c := requestInstr st ⟨tag, req⟩
    (s.awake → ¬s.mayBegin st tag req →
      ∃ t, exec (.stationRequestFrame st tag req) s = .next t
        ∧ (t.mayBegin st tag req → exec c s = exec c t)
        ∧ (¬t.mayBegin st tag req → exec c s = .next t))
    ∧ (s.mayBegin st tag req →
        (∀ name, req = .unreadable name →
          c = .unreadableRequest st tag name
          ∧ exec (.unreadableRequest st tag name) s =
              .next ((s.begun st).answered st tag name .badArgument .none))
        ∧ ((∀ name, req ≠ .unreadable name) → requestCode req ≤ 17 →
            (s.stn st).role ≠ some .lead →
            exec c s = .next ((s.begun st).answered st tag (requestCode req) .wrongRole .none))
        ∧ (∀ row col traverse call, req = .submitCall row col traverse call →
            (s.stn st).role = some .lead →
            exec c s = .next ((s.begun st).answered st tag 18 .wrongRole .none)))

/-! Requests. -/

/-- OPEN_SESSION opens a session with its wall-time base, the counter at 0, the shadow's limits clamped
and the rest of the plan as R1 gives, and clears the store, the log and the brackets; CLOSE_SESSION
without force is UNSETTLED while a live entry or a reserved slot stands; an accepted close discards all
that belongs to the session, and SESSION_CLOSED stands alone in every event queue. A forced close counts
in its answer and its event the traverses in their pulls, the attempts in hand and the claims before
their pulls; an unforced one carries 0 in the three, in its answer too (the model's choice, log entry
26). The SESSION_CLOSED record has no time of its own (the model's choice, log entry 27). -/
def Obligations.SessionsOpenAndClose : Prop :=
  (∀ (st : Stn) (tag wall : Nat) (s : State), s.leadBegins st tag (.openSession wall) →
    (s.session ≠ none → exec (.openSession st tag wall) s =
      .next ((s.begun st).answered st tag 1 .sessionOpen .none))
    ∧ (s.session = none →
        let given := s.config.shadow.limits
        ∃ t, exec (.openSession st tag wall) s = .next t
          ∧ t.session = some
              { base := wall, seconds := 0, subMs := 0
                plan := { limits := given.clamp, mode := .analyst, locked := false
                          classes := List.replicate 16 none
                          windows := Four.all ⟨1, 255, 1, 255⟩, exclusions := ⟨false, []⟩ }
                tubes := [], counts := ⟨0, 0, 0, 0, 0, 0, 0, 0, 0⟩, nextTraverse := 1 }
          ∧ t.store = { s.store with directory := [], reservedSlots := 0, reservedPages := 0
                                     pool := [⟨0, 1048576⟩], low := false }
          ∧ t.cal = { s.cal with log := [], brackets := [] }
          ∧ (∀ ch, (t.chan ch).permit = t.permitNow ch ∧ (t.chan ch).state = (s.chan ch).state)
          ∧ t.stations = ((s.begun st).answered st tag 1 .ok
              (.sessionOpened wall given.clamp given.clampedFlags)).stations
          ∧ t.comparisons = s.comparisons ∧ t.config = s.config))
  ∧ ∀ (st : Stn) (tag : Nat) (force : Bool) (s : State),
      s.leadBegins st tag (.closeSession force) →
      let c : Instr := .closeSession st tag force
      (s.session = none →
        exec c s = .next ((s.begun st).answered st tag 2 .noSession .none))
      ∧ (s.session ≠ none → force = false → s.store.directory ≠ [] ∨ 0 < s.store.reservedSlots →
          exec c s = .next ((s.begun st).answered st tag 2 .unsettled .none))
      ∧ ∀ x, s.session = some x →
          force = true ∨ (s.store.directory = [] ∧ s.store.reservedSlots = 0) →
          ∃ t, exec c s = .next t ∧ t.session = none ∧ t.comparisons = [] ∧ t.cal = Calibration.reset
            ∧ t.store.directory = [] ∧ t.store.reservedSlots = 0 ∧ t.store.reservedPages = 0
            ∧ t.store.pool = [⟨0, 1048576⟩] ∧ t.store.low = false
            ∧ (∀ ch, t.store.lanes.get ch = []) ∧ t.store.ddr = s.store.ddr
            ∧ (∀ ch, (t.chan ch).state =
                  (if (s.chan ch).state = .offline then .offline else .needsCal)
                ∧ (t.chan ch).claim = none ∧ (t.chan ch).traverse = none
                ∧ (t.chan ch).claimDue = none ∧ (t.chan ch).pauseDue = none
                ∧ (t.chan ch).linkLossMark = false ∧ (t.chan ch).screen = .idle)
            ∧ (let every : List Chan := [0, 1, 2, 3]
               let count := fun n : Nat => if force then n else 0
               let a := count (s.store.directory.filter fun u =>
                 [TraverseState.recording, .paused, .finishing].contains u.state).length
               let b := count (every.filter fun ch => (s.attempt? ch).isSome).length
               let d := count (every.filter fun ch => (s.chan ch).state == .claimed).length
               let answer := StationOut.response tag 2 .ok (.sessionEnded a b d)
               ((t.stn st).line = some answer ∨ (t.stn st).reply = some answer)
               ∧ ∀ k, (s.stn k).role ≠ none →
                  (t.stn k).events = [⟨.sessionClosed x.base x.seconds force a b d, none⟩])
            ∧ (force = true → ∀ k, ∀ r, (t.stn k).stream = some r →
                r.ending = some .aborted ∧ r.registered = false)
            ∧ t.config = s.config

/-- SAVE_CONFIG is PROTECTED while the pin is high and BUSY while a save runs, and otherwise starts a save
against a snapshot of the shadow. The save issues a write enable and the erase, waits for not busy, does the
same for each of sixteen programs, and reads back; it tests the pin before each write enable, fails there
with step PROTECTED if the pin is high or has risen since the save began, whatever fall came between (log
entry 47), fails at the first step that goes wrong, and at its end sets the result and tells the lead. A
status read that shows the flash busy leaves the save waiting, and the two limits of a busy flash end it.
The pin moves by its own commands; its rise is kept for the running save, and its fall does not undo that.
The model's choices: the start of a save as a step of its own (log entry 11); nothing to do with no save in
hand or at another step (log entry 14); a limit that acts whenever it is taken, the step that queues it
keeping the time (log entry 15); the sector erased from the end of the erase command on, and a program's
bytes in it from not busy on, so that a program that times out leaves its bytes erased, and the bytes that
the read-back shows left in it, so that a VERIFY failure leaves them (log entry 33); what a status read and
the read-back show comes with the command (log entry 5). -/
def Obligations.SaveGoesStepByStep : Prop :=
  (∀ (st : Stn) (tag : Nat) (s : State), s.leadBegins st tag .saveConfig →
    let put := fun y : ConfigMem => { s with config := y }
    (s.config.cfgProtect = true → exec (.saveConfig st tag) s =
      .next ((s.begun st).answered st tag 3 .cfgProtected .none))
    ∧ (s.config.cfgProtect = false → s.config.save ≠ .idle → exec (.saveConfig st tag) s =
        .next ((s.begun st).answered st tag 3 .busy .none))
    ∧ (s.config.cfgProtect = false → s.config.save = .idle → exec (.saveConfig st tag) s =
        .next (((put { s.config with
            save := .running s.config.shadow .start 0, protectRose := false }).begun st).answered
          st tag 3 .ok .none)))
  ∧ (∀ (s : State) (upset : List Host.Cell) (x : Shadow) (ms k : Nat), s.awake →
      let c := s.config
      let put := fun y : ConfigMem => { s with config := y }
      let fail := fun (y : ConfigMem) (e : FailStep) =>
        State.raise (put { y with save := .idle, lastSave := some (.failed e) })
          (.configSaved (.failed e))
      let go := fun (y : ConfigMem) (t : FlashTarget) =>
        if c.cfgProtect || c.protectRose then fail y (.cfgProtect t)
        else put { y with save := .running x (.writeEnable t) 0 }
      let image := Memory.readBlock 0xFF c.flash 0 4096
      (c.save = .running x .start ms →
        ∀ b, exec (.saveCommandEnd b upset) s = .next (go c .erase))
      ∧ (∀ t, c.save = .running x (.writeEnable t) ms →
          exec (.saveCommandEnd false upset) s = .next (fail c (.writeEnable t)))
      ∧ (c.save = .running x (.writeEnable .erase) ms → exec (.saveCommandEnd true upset) s =
          .next (put { c with save := .running x .erase 0 }))
      ∧ (c.save = .running x (.writeEnable (.program k)) ms → exec (.saveCommandEnd true upset) s =
          .next (put { c with save := .running x (.program k) 0 }))
      ∧ (c.save = .running x .erase ms → ∀ b, exec (.saveCommandEnd b upset) s =
          .next (put { c with
            flash := Memory.writeBlock 0xFF c.flash 0 (List.replicate 4096 0xFF)
            save := .running x .eraseWait 0 }))
      ∧ (c.save = .running x .eraseWait ms →
          exec (.saveCommandEnd false upset) s = .next s
          ∧ exec (.saveCommandEnd true upset) s = .next (go c (.program 0)))
      ∧ (c.save = .running x (.program k) ms → ∀ b, exec (.saveCommandEnd b upset) s =
          .next (put { c with save := .running x (.programWait k) 0 }))
      ∧ (c.save = .running x (.programWait k) ms →
          let done : ConfigMem := { c with flash := Memory.writeBlock 0xFF c.flash (256 * k)
                                             (((imageOf x).drop (256 * k)).take 256) }
          exec (.saveCommandEnd false upset) s = .next s
          ∧ (k < 15 → exec (.saveCommandEnd true upset) s = .next (go done (.program (k + 1))))
          ∧ (k = 15 → exec (.saveCommandEnd true upset) s =
              .next (put { done with save := .running x .readBack 0 })))
      ∧ (c.save = .running x .readBack ms → (imageOf x).length = 4096 →
          (overlay upset image = imageOf x → ∀ b, exec (.saveCommandEnd b upset) s =
            .next (State.raise (put { c with flash := Memory.writeBlock 0xFF c.flash 0 (imageOf x)
                                             save := .idle, lastSave := some .ok })
              (.configSaved .ok)))
          ∧ ∀ off, off < 4096 → (overlay upset image)[off]? ≠ (imageOf x)[off]? →
              (∀ j, j < off → (overlay upset image)[j]? = (imageOf x)[j]?) →
              ∀ b, exec (.saveCommandEnd b upset) s = .next (fail
                { c with flash := Memory.writeBlock 0xFF c.flash 0 (overlay upset image) }
                (.verify off)))
      ∧ (c.save = .running x .eraseWait ms → exec .eraseTimeout s = .next (fail c .eraseTimeout))
      ∧ (c.save = .running x (.programWait k) ms →
          exec .programTimeout s = .next (fail c (.programTimeout k)))
      ∧ ((∀ y j, c.save ≠ .running y .eraseWait j) → exec .eraseTimeout s = .next s)
      ∧ ((∀ y i j, c.save ≠ .running y (.programWait i) j) → exec .programTimeout s = .next s)
      ∧ (c.save = .idle → ∀ b, exec (.saveCommandEnd b upset) s = .next s
          ∧ exec .eraseTimeout s = .next s ∧ exec .programTimeout s = .next s))
  ∧ ∀ s : State,
      exec .cfgProtectRise s =
        .next { s with config := { s.config with cfgProtect := true, protectRose := true } }
      ∧ exec .cfgProtectFall s = .next { s with config := { s.config with cfgProtect := false } }

/-- The edits of an unlocked plan, DEFINE_GEOMETRY, SET_LIMITS and SET_SECOND_OPINION: with no session
NO_SESSION, under a lock PLAN_LOCKED, then BAD_ARGUMENT, in this order; an accepted edit replaces what
it names, clamped where it is a limit, and answers with what is stored. A limit given below its range of
R8 is stored as the lower bound and one above it as the upper, with its flag set; an absent one stays,
its flag clear. -/
def Obligations.PlanEditsInOrder : Prop :=
  ∀ (st : Stn) (tag : Nat) (s : State), (s.stn st).role = some .lead →
    let no := fun (req : Request) (r : Status) =>
      Host.Outcome.next ((s.begun st).answered st tag (requestCode req) r .none)
    let edit := fun (req : Request) (x : Session) (p : Plan) (a : Content) =>
      Host.Outcome.next ((State.begun { s with session := some { x with plan := p } } st).answered
        st tag (requestCode req) .ok a)
    (∀ cls count length, let req := Request.defineGeometry cls count length
      s.mayBegin st tag req → let c : Instr := .defineGeometry st tag cls count length
      (s.session = none → exec c s = no req .noSession)
      ∧ ∀ x, s.session = some x → (x.plan.locked = true → exec c s = no req .planLocked)
        ∧ (x.plan.locked = false →
            (¬(cls ≤ 15 ∧ 2 ≤ count ∧ count ≤ 40 ∧ 1000 ≤ length ∧ length ≤ 30000) →
              exec c s = no req .badArgument)
            ∧ (cls ≤ 15 → 2 ≤ count → count ≤ 40 → 1000 ≤ length → length ≤ 30000 →
                exec c s = edit req x { x.plan with
                  classes := x.plan.classes.set cls (some ⟨count, length⟩) }
                  (.geometry cls ⟨count, length⟩))))
    ∧ (∀ v, s.mayBegin st tag (.setLimits v) → let c : Instr := .setLimits st tag v
        (s.session = none → exec c s = no (.setLimits v) .noSession)
        ∧ ∀ x, s.session = some x →
          (x.plan.locked = true → exec c s = no (.setLimits v) .planLocked)
          ∧ (x.plan.locked = false → exec c s = edit (.setLimits v) x
              { x.plan with limits := x.plan.limits.apply v }
              (.limits (x.plan.limits.apply v) (x.plan.limits.appliedFlags v))))
    ∧ (∀ m, s.mayBegin st tag (.setSecondOpinion m) → let c : Instr := .setSecondOpinion st tag m
        (s.session = none → exec c s = no (.setSecondOpinion m) .noSession)
        ∧ ∀ x, s.session = some x →
          (x.plan.locked = true → exec c s = no (.setSecondOpinion m) .planLocked)
          ∧ (x.plan.locked = false → exec c s = edit (.setSecondOpinion m) x
              { x.plan with mode := m } (.mode m)))
    ∧ ∀ (l : Limits) (v : LimitArgs),
        let ranges : List (Nat × Nat) :=
          [(20, 100), (5, 50), (5, 20), (5, 100), (10, 2000), (100, 30000), (1, 64), (1, 8), (16, 512)]
        let held := fun (g : Nat) (r : Nat × Nat) => max r.1 (min g r.2)
        let out := fun (g : Nat) (r : Nat × Nat) => decide (g < r.1 ∨ r.2 < g)
        l.clamp.toList = l.toList.zipWith held ranges
        ∧ l.clampedFlags.toList = l.toList.zipWith out ranges
        ∧ (l.apply v).toList =
            (l.toList.zip (limitList v)).zipWith
              (fun x r => match x.2 with | none => x.1 | some g => held g r) ranges
        ∧ (l.appliedFlags v).toList =
            (limitList v).zipWith
              (fun x r => match x with | none => false | some g => out g r) ranges

/-- SET_WINDOW and SET_EXCLUSIONS are taken under a lock too, with their bounds clamped;
DEFINE_STANDARD is refused under a locked plan and needs no session. LOCK_PLAN names the first
condition that fails, locks otherwise with every permit recomputed, and on a locked plan answers OK. -/
def Obligations.WindowsStandardsAndTheLock : Prop :=
  ∀ (st : Stn) (tag : Nat) (s : State), (s.stn st).role = some .lead →
    let no := fun (req : Request) (r : Status) =>
      Host.Outcome.next ((s.begun st).answered st tag (requestCode req) r .none)
    let edit := fun (req : Request) (x : Session) (p : Plan) (a : Content) =>
      Host.Outcome.next ((State.begun { s with session := some { x with plan := p } } st).answered
        st tag (requestCode req) .ok a)
    (∀ ch w, s.mayBegin st tag (.setWindow ch w) → let c : Instr := .setWindow st tag ch w
        (s.session = none → exec c s = no (.setWindow ch w) .noSession)
        ∧ ∀ x, s.session = some x →
          (4 ≤ ch ∨ w.rowHi < w.rowLo ∨ w.colHi < w.colLo →
            exec c s = no (.setWindow ch w) .badArgument)
          ∧ ∀ k : Chan, k.val = ch → w.rowLo ≤ w.rowHi → w.colLo ≤ w.colHi →
              let v : Rect := ⟨max 1 (min 255 w.rowLo), max 1 (min 255 w.rowHi),
                max 1 (min 255 w.colLo), max 1 (min 255 w.colHi)⟩
              exec c s = edit (.setWindow ch w) x
                { x.plan with windows := x.plan.windows.set k v } (.window ch v))
    ∧ (∀ comp rects, let req := Request.setExclusions comp rects
        s.mayBegin st tag req → let c : Instr := .setExclusions st tag comp rects
        (s.session = none → exec c s = no req .noSession)
        ∧ ∀ x, s.session = some x →
          (16 < rects.length ∨ (∃ w ∈ rects, w.rowHi < w.rowLo ∨ w.colHi < w.colLo) →
            exec c s = no req .badArgument)
          ∧ (rects.length ≤ 16 → (∀ w ∈ rects, w.rowLo ≤ w.rowHi ∧ w.colLo ≤ w.colHi) →
              exec c s = edit req x
                { x.plan with exclusions := ⟨comp, rects.map clampRect⟩ }
                (.exclusions ⟨comp, rects.map clampRect⟩)))
    ∧ (∀ id depths freq threshold, let req := Request.defineStandard id depths freq threshold
        s.mayBegin st tag req → let c : Instr := .defineStandard st tag id depths freq threshold
        let good := id ≤ 7 ∧ 3 ≤ depths.length ∧ depths.length ≤ 6
          ∧ (∀ d ∈ depths, 1 ≤ d ∧ d ≤ 100) ∧ depths.Nodup ∧ 100 ∈ depths
          ∧ 1 ≤ freq ∧ freq ≤ 4 ∧ 50 ≤ threshold ∧ threshold ≤ 30000
        (s.planLocked = true → exec c s = no req .planLocked)
        ∧ (s.planLocked = false → ¬good → exec c s = no req .badArgument)
        ∧ (s.planLocked = false → good →
            let y : Shadow := { s.config.shadow with
              standards := s.config.shadow.standards.set id (some ⟨depths, freq, threshold⟩) }
            exec c s = .next ((State.begun
              { s with config := { s.config with shadow := y } } st).answered st tag 12 .ok
              (.standard ⟨depths, freq, threshold⟩))))
    ∧ (s.mayBegin st tag .lockPlan → let c : Instr := .lockPlan st tag
        let incomplete := fun r : LockFailure =>
          Host.Outcome.next ((s.begun st).answered st tag 9 .planIncomplete (.lockFailure r))
        (s.session = none → exec c s = incomplete .session)
        ∧ ∀ x, s.session = some x →
          let geometry := fun e : TubeEntry => (x.plan.classes[e.cls]?).join
          let some_standard := ∃ d, some d ∈ s.config.shadow.standards
          (x.plan.locked = true →
            exec c s = .next ((s.begun st).answered st tag 9 .ok .none))
          ∧ (x.plan.locked = false →
              (x.tubes = [] → exec c s = incomplete .noTubes)
              ∧ (∀ e, x.tubes.find? (fun e => (geometry e).isNone) = some e →
                  exec c s = incomplete (.undefinedClass e.pos e.cls))
              ∧ (x.tubes ≠ [] → (∀ e ∈ x.tubes, geometry e ≠ none) → ¬some_standard →
                  exec c s = incomplete .noStandard)
              ∧ (x.tubes ≠ [] → (∀ e ∈ x.tubes, geometry e ≠ none) → some_standard →
                  ∃ t, exec c s = .next t
                    ∧ t.session = some { x with plan := { x.plan with locked := true } }
                    ∧ (∀ ch, (t.chan ch).permit = t.permitNow ch
                        ∧ (t.chan ch).state = (s.chan ch).state)
                    ∧ t.stations = ((s.begun st).answered st tag 9 .ok .none).stations
                    ∧ t.store = s.store ∧ t.cal = s.cal ∧ t.comparisons = s.comparisons
                    ∧ t.config = s.config)))

/-- DEFINE_TUBES refuses bad arguments and a run that would overfill the table, and otherwise gives
every position of the run a new entry and leaves every other; REMOVE_TUBES undefines every position of
its run and leaves every other. Both answer with their counts and keep the counters, and change nothing
else of the session or of the state. With no session they
are refused NO_SESSION, and under a lock PLAN_LOCKED, before their arguments are looked at. -/
def Obligations.TubeRunsAreDefinedAndRemoved : Prop :=
  (∀ (st : Stn) (tag row col1 col2 : Nat) (s : State) (x : Session), s.session = some x →
    x.plan.locked = false → s.tubeLaw → (s.stn st).role = some .lead →
    let run := fun p : Pos => p.row = row ∧ col1 ≤ p.col ∧ p.col ≤ col2
    let good := 1 ≤ row ∧ row ≤ 255 ∧ 1 ≤ col1 ∧ col1 ≤ col2 ∧ col2 ≤ 255
    let old := (x.tubes.filter fun e => run e.pos).length
    let n := x.tubes.length + (col2 + 1 - col1) - old
    (∀ cls cond, s.mayBegin st tag (.defineTubes row col1 col2 cls cond) →
      let c : Instr := .defineTubes st tag row col1 col2 cls cond
      (¬(good ∧ cls ≤ 15) →
        exec c s = .next ((s.begun st).answered st tag 5 .badArgument .none))
      ∧ (good → cls ≤ 15 → 32768 < n → exec c s =
          .next ((s.begun st).answered st tag 5 .tableFull (.tableFull x.tubes.length)))
      ∧ (good → cls ≤ 15 → n ≤ 32768 → ∃ y,
          exec c s = .next ((State.begun { s with session := some y } st).answered st tag 5 .ok
            (.tubesDefined (col2 + 1 - col1 - old) old n))
          ∧ y = { x with tubes := y.tubes, counts := y.counts } ∧ y.tubes.length = n
          ∧ (∀ p, y.tubes.find? (fun e => e.pos == p) =
              if run p then some
                { pos := p, cls := cls
                  state := if cond = .plugged then .plugged else .pending
                  preClaim := none, holder := none, attempts := 0, traverse := none
                  bracket := none, primary := none, secondary := none, finalCall := none
                  cause := none, changed := x.seconds }
              else x.tubes.find? fun e => e.pos == p)
          ∧ (∀ t, y.counts.get t = tubesIn y.tubes t)))
    ∧ (s.mayBegin st tag (.removeTubes row col1 col2) →
        let c : Instr := .removeTubes st tag row col1 col2
        (¬good → exec c s = .next ((s.begun st).answered st tag 6 .badArgument .none))
        ∧ (good → ∃ y,
            exec c s = .next ((State.begun { s with session := some y } st).answered st tag 6 .ok
              (.tubesRemoved old (x.tubes.length - old)))
            ∧ y = { x with tubes := y.tubes, counts := y.counts }
            ∧ y.tubes = x.tubes.filter (fun e => !decide (run e.pos))
            ∧ (∀ t, y.counts.get t = tubesIn y.tubes t))))
  ∧ ∀ (st : Stn) (tag row col1 col2 cls : Nat) (cond : Condition) (s : State) (req : Request)
      (c : Instr), (s.stn st).role = some .lead → s.mayBegin st tag req →
      (req = .defineTubes row col1 col2 cls cond ∧ c = .defineTubes st tag row col1 col2 cls cond
        ∨ req = .removeTubes row col1 col2 ∧ c = .removeTubes st tag row col1 col2) →
      (s.session = none →
        exec c s = .next ((s.begun st).answered st tag (requestCode req) .noSession .none))
      ∧ ∀ x, s.session = some x → x.plan.locked = true →
          exec c s = .next ((s.begun st).answered st tag (requestCode req) .planLocked .none)

/-- The lead's decisions on a tube, refused in the order of their rules: REQUEST_RETEST sends a decided tube
to RETEST with cause LEAD, its calls discarded and its COMPLETE traverse INVALIDATED, and in PENDING, RETEST
and RESTRICTED acts only with reset-attempts; CONFIRM_PLUG takes FINAL and PLUG_RECOMMENDED to PLUGGED;
SUBMIT_FINAL stores the final call of a tube in RESOLUTION and moves it by the plug rule. The first answers
with the tube's new state, cause and attempts, the others with its new state. Each decision settles the live
traverse of the tube, REQUEST_RETEST by making a COMPLETE one INVALIDATED: one archived before is released
in the act, with TRAVERSE_RELEASED and the STORE_LOW or STORE_OK of the new value raised, or its release is
pending. TUBE_RETEST stands last among the events of its act, and TUBE_FINAL first, before those of a
traverse that the act releases (the model's choice, log entry 21). A PENDING tube of an unlocked plan goes
to RETEST too (the model's choice, log entry 45). -/
def Obligations.TubeDecisionsOfTheLead : Prop :=
  ∀ (st : Stn) (tag : Nat) (p : Pos) (s : State), (s.stn st).role = some .lead →
    let no := fun (code : Nat) (r : Status) =>
      Host.Outcome.next ((s.begun st).answered st tag code r .none)
    let said := fun (es : List Event) (code : Nat) (a : Content) =>
      (((s.raiseAll es).begun st).answered st tag code .ok a).stations
    (∀ reset, s.mayBegin st tag (.requestRetest p.row p.col reset) →
      let c : Instr := .requestRetest st tag p.row p.col reset
      (s.session = none → exec c s = no 13 .noSession)
      ∧ (s.session ≠ none → s.tube? p = none → exec c s = no 13 .noSuchTube)
      ∧ ∀ x e, s.session = some x → s.tube? p = some e →
        (e.state = .claimed → exec c s = no 13 .tubeBusy)
        ∧ (e.state = .plugged → exec c s = no 13 .wrongState)
        ∧ (e.state = .pending ∨ e.state = .retest ∨ e.state = .restricted → reset = false →
            exec c s = .next ((s.begun st).answered st tag 13 .ok
              (.retest e.state e.cause e.attempts)))
        ∧ (e.state = .acquired ∨ e.state = .resolution ∨ e.state = .final
              ∨ e.state = .plugRecommended ∨ reset = true ∧
                (e.state = .pending ∨ e.state = .retest ∨ e.state = .restricted) →
            ∃ t, exec c s = .next t
              ∧ t.session = some (x.updTube p (fun u =>
                  { u with primary := none, secondary := none, finalCall := none
                           cause := some .lead, attempts := if reset then 0 else u.attempts
                           state := .retest, changed := x.seconds })
                  (x.counts.move e.state .retest))
              ∧ (e.state ≠ .pending → e.state ≠ .retest → e.state ≠ .restricted →
                  ∀ id tr, e.traverse = some id → s.trav? id = some tr → tr.state = .complete →
                    tr.target = .tube p → s.goesOrStays t id tr tr.freedBySettling fun u =>
                      u.state = .invalidated ∧ tr.settledTo u)
              ∧ (let n := if reset then 0 else e.attempts
                 ∃ es, es.length ≤ 3 ∧ es.getLast? = some (.tubeRetest p .lead n)
                  ∧ (e.state = .pending ∨ e.state = .retest ∨ e.state = .restricted →
                      es.length = 1 ∧ t.store = s.store)
                  ∧ (e.state ≠ .pending → e.state ≠ .retest → e.state ≠ .restricted →
                      ∀ id tr, e.traverse = some id → s.trav? id = some tr → tr.state = .complete →
                        tr.target = .tube p →
                        es = s.releaseNews t id tr tr.freedBySettling ++ [.tubeRetest p .lead n])
                  ∧ t.stations = said es 13 (.retest .retest (some .lead) n))
              ∧ t.channels = s.channels ∧ t.cal = s.cal ∧ t.comparisons = s.comparisons
              ∧ t.config = s.config))
    ∧ (s.mayBegin st tag (.confirmPlug p.row p.col) →
        let c : Instr := .confirmPlug st tag p.row p.col
        (s.session = none → exec c s = no 14 .noSession)
        ∧ (s.session ≠ none → s.tube? p = none → exec c s = no 14 .noSuchTube)
        ∧ ∀ x e, s.session = some x → s.tube? p = some e →
          (e.state ≠ .final → e.state ≠ .plugRecommended → exec c s = no 14 .wrongState)
          ∧ (e.state = .final ∨ e.state = .plugRecommended →
              ∃ t, exec c s = .next t
                ∧ t.session = some (x.updTube p (fun u =>
                    { u with state := .plugged, changed := x.seconds })
                    (x.counts.move e.state .plugged))
                ∧ (∀ id tr, e.traverse = some id → s.trav? id = some tr →
                    s.goesOrStays t id tr tr.freedBySettling fun u =>
                      u.state = tr.state ∧ tr.settledTo u)
                ∧ (∃ es, (e.traverse.bind s.trav? = none → es = [])
                    ∧ (∀ id tr, e.traverse = some id → s.trav? id = some tr →
                        es = s.releaseNews t id tr tr.freedBySettling)
                    ∧ t.stations = said es 14 (.tubeState p .plugged))
                ∧ t.channels = s.channels ∧ t.cal = s.cal ∧ t.comparisons = s.comparisons
                ∧ t.config = s.config))
    ∧ ∀ traverse call, s.mayBegin st tag (.submitFinal p.row p.col traverse call) →
        let c : Instr := .submitFinal st tag p.row p.col traverse call
        (s.session = none → exec c s = no 15 .noSession)
        ∧ (s.session ≠ none → goodCall call = false ∨ call.kind = .retestRequired →
            exec c s = no 15 .badArgument)
        ∧ (goodCall call = true → call.kind ≠ .retestRequired →
            (s.session ≠ none → s.tube? p = none → exec c s = no 15 .noSuchTube)
            ∧ ∀ x e, s.session = some x → s.tube? p = some e →
              (e.state ≠ .resolution → exec c s = no 15 .wrongState)
              ∧ (e.state = .resolution → e.traverse ≠ some traverse →
                  exec c s = no 15 .staleTraverse)
              ∧ (e.state = .resolution → e.traverse = some traverse → 1 ≤ x.plan.limits.plug →
                  let new : TubeState :=
                    if call.kind = .indications ∧ (∃ v ∈ call.entries, x.plan.limits.plug ≤ v.depth)
                    then .plugRecommended else .final
                  ∃ t, exec c s = .next t
                    ∧ t.session = some (x.updTube p (fun u =>
                        { u with finalCall := some ⟨call.kind, call.entries, .lead, x.seconds, traverse⟩
                                 state := new, changed := x.seconds })
                        (x.counts.move .resolution new))
                    ∧ (∀ tr, s.trav? traverse = some tr →
                        s.goesOrStays t traverse tr tr.freedBySettling fun u =>
                          u.state = tr.state ∧ tr.settledTo u)
                    ∧ (let depth := if call.kind = .indications then
                         (call.entries.map (·.depth)).max? else none
                       ∃ es, es.head? = some (.tubeFinal p traverse new call.kind depth)
                        ∧ (s.trav? traverse = none → es.length = 1)
                        ∧ (∀ tr, s.trav? traverse = some tr →
                            es.tail = s.releaseNews t traverse tr tr.freedBySettling)
                        ∧ t.stations = said es 15 (.tubeState p new))
                    ∧ t.channels = s.channels ∧ t.cal = s.cal ∧ t.comparisons = s.comparisons
                    ∧ t.config = s.config))

/-- SUBMIT_CALL from a primary or secondary station, refused in the order of R147: the call replaces
the one the tube holds from that role, and where the test of R151 is met a comparison begins, in place
of any in hand. The answer says whether a call was replaced, and the first comparison status that holds.
A submitted call is well formed by its kind, by 1 to 8 entries where it is INDICATIONS and none
otherwise, and by the ranges of each entry. MARK_ARCHIVED sets the archived flag of a traverse whose
pull has ended: one not settled is KEPT, one settled with no reader and no page in write is RELEASED, its
pages at the tail of the pool, and one that must wait is PENDING. A release raises TRAVERSE_RELEASED once,
and then STORE_LOW or STORE_OK where the free pages less the reserved pass the bound of the flag, and the
answer follows. That a comparison in hand gives way
only where a new one begins rests partly on log entry 25, and the answer for a traverse already archived
is the model's choice (log entry 35). -/
def Obligations.CallsAndArchiving : Prop :=
  (∀ (st : Stn) (tag : Nat) (p : Pos) (traverse : Nat) (call : SubmittedCall) (role : Role)
      (s : State), (s.stn st).role = some role → role ≠ .lead →
    s.mayBegin st tag (.submitCall p.row p.col traverse call) →
    let c : Instr := .submitCall st tag p.row p.col traverse call
    let no := fun r : Status => Host.Outcome.next ((s.begun st).answered st tag 18 r .none)
    (s.session = none → exec c s = no .noSession)
    ∧ ∀ x, s.session = some x →
      (role = .secondary → x.plan.mode = .automatic → exec c s = no .roleDisabled)
      ∧ (¬(role = .secondary ∧ x.plan.mode = .automatic) →
          (goodCall call = false → exec c s = no .badArgument)
          ∧ (goodCall call = true →
              (s.tube? p = none → exec c s = no .noSuchTube)
              ∧ ∀ e, s.tube? p = some e →
                (e.state ≠ .acquired → exec c s = no .wrongState)
                ∧ (e.state = .acquired → e.traverse ≠ some traverse → exec c s = no .staleTraverse)
                ∧ (e.state = .acquired → e.traverse = some traverse →
                    let mine : Call := ⟨call.kind, call.entries,
                      if role = .primary then .primary else .secondary, x.seconds, traverse⟩
                    let put := fun u : TubeEntry =>
                      if role = .primary then { u with primary := some mine }
                      else { u with secondary := some mine }
                    let begins := s.comparable (put e)
                    let drop := s.comparisons.filter fun d => d.pos != p
                    ∃ t, exec c s = .next t
                      ∧ t.session = some (x.updTube p put x.counts)
                      ∧ (begins = none → t.comparisons = s.comparisons)
                      ∧ (∀ d, begins = some d → t.comparisons = drop ++ [d])
                      ∧ (let replaced :=
                           (if role = .primary then e.primary else e.secondary).isSome
                         let status : CompareStatus :=
                           if begins.isSome then .started
                           else if s.bracketState? e = some .closedFail then .bracketFailed
                           else if (put e).primary = none ∨ s.secondCall (put e) = none then
                             .waitingCall
                           else .waitingBracket
                         t.stations = ((s.begun st).answered st tag 18 .ok
                           (.callAccepted p traverse replaced status)).stations)
                      ∧ t.channels = s.channels ∧ t.store = s.store ∧ t.cal = s.cal
                      ∧ t.config = s.config))))
  ∧ (∀ call : SubmittedCall, goodCall call = true ↔
      call.kind ≠ .notUsable
      ∧ (call.kind ≠ .indications → call.entries = [])
      ∧ (call.kind = .indications → 1 ≤ call.entries.length ∧ call.entries.length ≤ 8
          ∧ ∀ e ∈ call.entries, 1 ≤ e.classCode ∧ e.classCode ≤ 15 ∧ e.depth ≤ 100
            ∧ e.offset ≤ 30000 ∧ ∀ l, e.landmark = some l → 1 ≤ l ∧ l ≤ 48))
  ∧ (∀ (s : State) (u : TubeEntry) (d : Comparison), s.comparable u = some d ↔
      u.state = .acquired ∧ d.pos = u.pos ∧ u.traverse = some d.traverse ∧ d.limits = s.limits
      ∧ u.primary = some d.primary ∧ d.primary.traverse = d.traverse
      ∧ (match s.mode with
          | .analyst => u.secondary = some d.second
          | .automatic => ∃ tr, s.trav? d.traverse = some tr ∧ tr.autoCall = some d.second)
      ∧ d.second.traverse = d.traverse
      ∧ ∃ n b, u.bracket = some n ∧ s.bracket? n = some b ∧ b.state = .closedGood)
  ∧ ∀ (st : Stn) (tag id : Nat) (s : State), s.leadBegins st tag (.markArchived id) →
      let c : Instr := .markArchived st tag id
      let no := fun r : Status => Host.Outcome.next ((s.begun st).answered st tag 16 r .none)
      let ok := fun (y : Store) (o : ArchiveOutcome) => Host.Outcome.next
        ((State.begun { s with store := y } st).answered st tag 16 .ok (.archived id o))
      (s.session = none → exec c s = no .noSession)
      ∧ (s.session ≠ none → s.trav? id = none → exec c s = no .noSuchTraverse)
      ∧ (s.session ≠ none → ∀ tr, s.trav? id = some tr →
          let ended := tr.state = .complete ∨ tr.state = .aborted ∨ tr.state = .invalidated
          (¬ended → exec c s = no .traverseBusy)
          ∧ (ended → tr.archived = true →
              exec c s = ok s.store (if tr.settled then .pending else .kept))
          ∧ (ended → tr.archived = false → tr.settled = false →
              exec c s = ok (s.store.updTrav id fun u => { u with archived := true }) .kept)
          ∧ (ended → tr.archived = false → tr.settled = true → tr.readers ≠ 0 ∨ tr.inWrite ≠ 0 →
              exec c s = ok (s.store.updTrav id fun u =>
                { u with archived := true, releasePending := true }) .pending)
          ∧ (ended → tr.archived = false → tr.settled = true → tr.readers = 0 → tr.inWrite = 0 →
              ∃ t, exec c s = .next t ∧ t.trav? id = none
                ∧ poolPages t.store.pool = poolPages s.store.pool ++ tr.pages
                ∧ t.store.directory = s.store.directory.filter (fun u => u.id != id)
                ∧ t.store.reservedPages = s.store.reservedPages
                ∧ (let v := (poolPages t.store.pool).length - t.store.reservedPages
                   let low := s.store.low = false ∧ v < 65536
                   let high := s.store.low = true ∧ 131072 ≤ v
                   t.store.low = (if low then true else if high then false else s.store.low)
                   ∧ t.stations = (((s.begun st).raiseAll
                       (.traverseReleased id tr.target.kind tr.pages.length ::
                         (if low then [.storeLow v] else if high then [.storeOk v] else []))).answered
                       st tag 16 .ok (.archived id .released)).stations)
                ∧ t.session = s.session ∧ t.channels = s.channels ∧ t.cal = s.cal
                ∧ t.comparisons = s.comparisons ∧ t.config = s.config))

/-- The requests that read answer with the state as it stands and change nothing else: READ_STATUS
clears the caller's EVENTS_LOST, and GET_EVENTS takes the oldest records out of the caller's queue.
Each is refused in the order of its rule. A scan that stopped on its count before the last defined
position continues at the position after its last entry. The window counts of a traverse without a
landmark list, also of one aborted before finalisation, are the two of its entry (R88; log entry 8 on the
last lines of R107). -/
def Obligations.ReadsAnswerAndChangeNothing : Prop :=
  ∀ (st : Stn) (tag : Nat) (s : State),
    let x := s.stn st
    let say := fun (code : Nat) (r : Status) (a : Content) =>
      Host.Outcome.next ((s.begun st).answered st tag code r a)
    let put := fun (y : StationLink) (code : Nat) (a : Content) => Host.Outcome.next
      ((State.begun { s with stations := s.stations.set st y } st).answered st tag code .ok a)
    (s.mayBegin st tag .readStatus → ∃ report, exec (.readStatus st tag) s =
        put { x with eventsLost := false } 19 (.status report)
      ∧ report.clock = s.session.map (fun y => (y.seconds, y.base))
      ∧ report.locked = s.session.map (·.plan.locked) ∧ report.counts = s.session.map (·.counts)
      ∧ report.freePages = poolCount s.store.pool ∧ report.reservedPages = s.store.reservedPages
      ∧ report.reservedSlots = s.store.reservedSlots ∧ report.live = s.store.directory.length
      ∧ report.logEntries = s.cal.log.length ∧ report.config = s.config.status
      ∧ report.role = x.role ∧ report.eventsLost = x.eventsLost
      ∧ report.openBrackets = (s.cal.brackets.filter fun b => b.state == .opened).length
      ∧ (∀ k, report.links.get k = (s.stn k).link)
      ∧ (report.saving = true ↔ s.config.save ≠ .idle)
      ∧ ∀ ch, (report.channels.get ch).state = (s.chan ch).state
          ∧ (report.channels.get ch).permit =
              if (s.chan ch).state = .offline then none else (s.chan ch).permit)
    ∧ (∀ count, s.mayBegin st tag (.getEvents count) →
        (1 ≤ count → count ≤ 16 → exec (.getEvents st tag count) s =
          put { x with events := x.events.drop count, attn := !(x.events.drop count).isEmpty } 20
            (.events (x.events.take count) (x.events.length - count) x.eventsLost))
        ∧ (count = 0 ∨ 16 < count → exec (.getEvents st tag count) s = say 20 .badArgument .none))
    ∧ (∀ p : Pos, s.mayBegin st tag (.readTube p.row p.col) →
        let c : Instr := .readTube st tag p.row p.col
        (s.session = none → exec c s = say 22 .noSession .none)
        ∧ (s.session ≠ none → s.tube? p = none → exec c s = say 22 .noSuchTube .none)
        ∧ ∀ y e, s.session = some y → s.tube? p = some e →
            exec c s = say 22 .ok (.tube e (y.plan.classes[e.cls]?).join))
    ∧ (∀ row col states count, s.mayBegin st tag (.scanTubes row col states count) →
        let c : Instr := .scanTubes st tag row col states count
        let good := row ≠ 0 ∧ col ≠ 0 ∧ states ≠ [] ∧ 1 ≤ count ∧ count ≤ 32
        (s.session = none → exec c s = say 23 .noSession .none)
        ∧ (s.session ≠ none → ¬good → exec c s = say 23 .badArgument .none)
        ∧ ∀ y, s.session = some y → good → s.tubeLaw →
            let found := y.tubes.filter fun e =>
              decide (row < e.pos.row ∨ row = e.pos.row ∧ col ≤ e.pos.col) && states.contains e.state
            let hits := found.take count
            ∃ next, exec c s = say 23 .ok (.tubes hits next)
              ∧ (found.length < count → next = none)
              ∧ ∀ h l, hits.getLast? = some h → y.tubes.getLast? = some l →
                  (h.pos = l.pos → next = none)
                  ∧ (h.pos ≠ l.pos → hits.length = count → next =
                      if h.pos.col < 255 then some ⟨h.pos.row, h.pos.col + 1⟩
                      else if h.pos.row < 255 then some ⟨h.pos.row + 1, 1⟩ else none))
    ∧ (∀ id, s.mayBegin st tag (.readTraverse id) → let c : Instr := .readTraverse st tag id
        (s.session = none → exec c s = say 24 .noSession .none)
        ∧ (s.session ≠ none → s.trav? id = none → exec c s = say 24 .noSuchTraverse .none)
        ∧ ∀ tr, s.session ≠ none → s.trav? id = some tr → ∃ counts, exec c s = say 24 .ok
            (.traverse ⟨{ tr with pages := [] }, tr.pages.length, counts⟩)
          ∧ (tr.landmarks ≠ none → counts = none)
          ∧ (tr.landmarks = none → counts = some (tr.opened, tr.closed)))
    ∧ (∀ n, s.mayBegin st tag (.readChannel n) → let c : Instr := .readChannel st tag n
        (4 ≤ n → exec c s = say 25 .badArgument .none)
        ∧ ∀ ch : Chan, ch.val = n → ∃ report, exec c s = say 25 .ok (.channel report)
          ∧ report.state = (s.chan ch).state ∧ report.identity = (s.chan ch).identity
          ∧ report.claim = (s.chan ch).claim
          ∧ report.claimLeft = (s.chan ch).claimDue.map (· - s.time)
          ∧ report.pauseLeft = (s.chan ch).pauseDue.map (· - s.time)
          ∧ report.bracket = (s.openBracket ch).map (fun b => (b.number, b.calDue))
          ∧ report.window = s.session.map (fun y => y.plan.windows.get ch)
          ∧ report.linkLossMark = (s.chan ch).linkLossMark
          ∧ report.permit = (if (s.chan ch).state = .offline then none else (s.chan ch).permit)
          ∧ report.traverse = (s.inHand? ch).map (fun u =>
              ⟨u.id, u.target.kind, u.state, u.stored, u.lost⟩)
          ∧ (report.evaluation = true ↔ ∃ a, s.attempt? ch = some a ∧ (a.stage = .evaluating
              ∨ ∃ u, s.trav? a.traverse = some u ∧ u.state = .finishing))
          ∧ report.bufA = ((s.chan ch).bufA.state, (s.chan ch).bufA.samples.length)
          ∧ report.bufB = ((s.chan ch).bufB.state, (s.chan ch).bufB.samples.length))
    ∧ (∀ n, s.mayBegin st tag (.readCalLog n) → let c : Instr := .readCalLog st tag n
        (s.session = none → exec c s = say 26 .noSession .none)
        ∧ (s.session ≠ none → n = 0 → exec c s = say 26 .badArgument .none)
        ∧ (s.session ≠ none → 1 ≤ n → s.calLaw → exec c s = say 26 .ok
            (.calLog ((s.cal.log.drop (n - 1)).take 16) s.cal.log.length)))
    ∧ (∀ n, s.mayBegin st tag (.readBracket n) → let c : Instr := .readBracket st tag n
        (s.session = none → exec c s = say 27 .noSession .none)
        ∧ (s.session ≠ none → s.bracket? n = none → exec c s = say 27 .badArgument .none)
        ∧ ∀ y b e, s.session = some y → s.bracket? n = some b →
            s.logEntry? b.openingLog = some e → exec c s = say 27 .ok
              (.bracket { b with toPresent := [] }
                (if b.state = .opened ∧ b.calDue = none then
                  some (b.openedAt + y.plan.limits.interval * 3600 - y.seconds) else none)
                e.rho e.aRef))
    ∧ (s.mayBegin st tag .readConfig → ∃ step, exec (.readConfig st tag) s = say 28 .ok
          (.config ⟨s.config.shadow, s.config.status, step, s.config.lastSave,
            s.config.cfgProtect⟩)
        ∧ (s.config.save = .idle → step = none)
        ∧ ∀ snapshot k ms, s.config.save = .running snapshot k ms → step = some k)

/-! Events. -/

/-- Events and the store-low flag. TUBE_ACQUIRED goes to the primary, and to the secondary in ANALYST mode;
TUBE_FINAL, TUBE_RETEST, BRACKET_CLOSED and SESSION_CLOSED go to all; every other event goes to the lead. An
event is offered to the stations of the roles it goes to, each of whose queues takes it while it holds fewer
than 64 records and otherwise sets EVENTS_LOST; before loading has ended it only sets EVENTS_LOST
everywhere. STORE_LOW is raised below 65,536 with the flag clear, STORE_OK from 131,072 with it set, and
nothing between the two bounds. -/
def Obligations.EventsGoToTheirStations : Prop :=
  (∀ (s : State) (e : Event) (st : Stn),
    let t := s.raise e
    let x := s.stn st
    (s.config.phase ≠ .ready → t.stn st = { x with eventsLost := true })
    ∧ (s.config.phase = .ready → ∀ role, x.role = some role →
        (routes s.mode e role = false → t.stn st = x)
        ∧ (routes s.mode e role = true → x.events.length < 64 →
            t.stn st = { x with events := x.events ++ [⟨e, s.time?⟩], attn := true })
        ∧ (routes s.mode e role = true → 64 ≤ x.events.length →
            t.stn st = { x with eventsLost := true }))
    ∧ t.session = s.session ∧ t.channels = s.channels ∧ t.store = s.store ∧ t.cal = s.cal
    ∧ t.comparisons = s.comparisons ∧ t.config = s.config ∧ t.pending = s.pending)
  ∧ (∀ (mode : Mode) (role : Role) (p : Pos) (ch : Chan) (a b c d : Nat) (g : Bool),
      (routes mode (.tubeAcquired p a ch) role = true ↔
        role = .primary ∨ role = .secondary ∧ mode = .analyst)
      ∧ (∀ e, (∃ y, e = .tubeResolution p a y) ∨ e = .calAccepted ch a b
            ∨ (∃ y, e = .calRejected ch a y) ∨ (∃ y z, e = .channelChange ch y z)
            ∨ e = .storeLow a ∨ e = .storeOk a ∨ (∃ y, e = .traverseReleased a y b)
            ∨ (∃ y, e = .configSaved y) → (routes mode e role = true ↔ role = .lead))
      ∧ ∀ e, (∃ y z o, e = .tubeFinal p a y z o) ∨ (∃ y, e = .tubeRetest p y a)
            ∨ e = .bracketClosed ch a g b ∨ (∃ f n, e = .sessionClosed a b f c d n) →
          routes mode e role = true)
  ∧ ∀ s : State,
      let v := poolCount s.store.pool - s.store.reservedPages
      let set := fun low : Bool => { s with store := { s.store with low := low } }
      (v < 65536 → s.store.low = false → s.watchStore = State.raise (set true) (.storeLow v))
      ∧ (131072 ≤ v → s.store.low = true → s.watchStore = State.raise (set false) (.storeOk v))
      ∧ (65536 ≤ v → v < 131072 → s.watchStore = s)
      ∧ (v < 65536 → s.store.low = true → s.watchStore = s)
      ∧ (131072 ≤ v → s.store.low = false → s.watchStore = s)
end

