-- ==== Sys2Proof/Laws/State.lean ====
section
/-! SUPPORT. The small lemmas of the state's updates: what each update leaves of every field. -/

namespace Sys2Proof.Machine

/-! Fixed numbers of like things. -/

@[simp] theorem Four.get_set_self {α : Type} (f : Four α) (i : Chan) (v : α) :
    (f.set i v).get i = v := by
  unfold Four.set Four.get
  match i with
  | 0 => rfl
  | 1 => rfl
  | 2 => rfl
  | 3 => rfl

theorem Four.get_set_other {α : Type} (f : Four α) (i j : Chan) (v : α) (h : j ≠ i) :
    (f.set i v).get j = f.get j := by
  match i, j with
  | 0, 0 => exact absurd rfl h
  | 0, 1 => rfl
  | 0, 2 => rfl
  | 0, 3 => rfl
  | 1, 0 => rfl
  | 1, 1 => exact absurd rfl h
  | 1, 2 => rfl
  | 1, 3 => rfl
  | 2, 0 => rfl
  | 2, 1 => rfl
  | 2, 2 => exact absurd rfl h
  | 2, 3 => rfl
  | 3, 0 => rfl
  | 3, 1 => rfl
  | 3, 2 => rfl
  | 3, 3 => exact absurd rfl h

@[simp] theorem Three.get_set_self {α : Type} (f : Three α) (i : Stn) (v : α) :
    (f.set i v).get i = v := by
  match i with
  | 0 => rfl
  | 1 => rfl
  | 2 => rfl

theorem Three.get_set_other {α : Type} (f : Three α) (i j : Stn) (v : α) (h : j ≠ i) :
    (f.set i v).get j = f.get j := by
  match i, j with
  | 0, 0 => exact absurd rfl h
  | 0, 1 => rfl
  | 0, 2 => rfl
  | 1, 0 => rfl
  | 1, 1 => exact absurd rfl h
  | 1, 2 => rfl
  | 2, 0 => rfl
  | 2, 1 => rfl
  | 2, 2 => exact absurd rfl h

@[simp] theorem Four.get_all {α : Type} (v : α) (i : Chan) : (Four.all v).get i = v := by
  match i with
  | 0 => rfl
  | 1 => rfl
  | 2 => rfl
  | 3 => rfl

@[simp] theorem Three.get_all {α : Type} (v : α) (i : Stn) : (Three.all v).get i = v := by
  match i with
  | 0 => rfl
  | 1 => rfl
  | 2 => rfl

/-! Reads through the updates. -/

variable (s : State)

@[simp] theorem State.chan_modChan_self (ch : Chan) (f : Channel → Channel) :
    (s.modChan ch f).chan ch = f (s.chan ch) := by simp [State.modChan, State.chan]

theorem State.chan_modChan_other (ch c : Chan) (f : Channel → Channel) (h : c ≠ ch) :
    (s.modChan ch f).chan c = s.chan c := by
  simp [State.modChan, State.chan, Four.get_set_other, h]

@[simp] theorem State.stn_modStn_self (st : Stn) (f : StationLink → StationLink) :
    (s.modStn st f).stn st = f (s.stn st) := by simp [State.modStn, State.stn]

theorem State.stn_modStn_other (st x : Stn) (f : StationLink → StationLink) (h : x ≠ st) :
    (s.modStn st f).stn x = s.stn x := by
  simp [State.modStn, State.stn, Three.get_set_other, h]

@[simp] theorem State.stn_modChan (ch : Chan) (f : Channel → Channel) (st : Stn) :
    (s.modChan ch f).stn st = s.stn st := rfl
@[simp] theorem State.chan_modStn (st : Stn) (f : StationLink → StationLink) (ch : Chan) :
    (s.modStn st f).chan ch = s.chan ch := rfl
@[simp] theorem State.chan_modStore (f : Store → Store) (ch : Chan) :
    (s.modStore f).chan ch = s.chan ch := rfl
@[simp] theorem State.stn_modStore (f : Store → Store) (st : Stn) :
    (s.modStore f).stn st = s.stn st := rfl
@[simp] theorem State.chan_modCal (f : Calibration → Calibration) (ch : Chan) :
    (s.modCal f).chan ch = s.chan ch := rfl
@[simp] theorem State.stn_modCal (f : Calibration → Calibration) (st : Stn) :
    (s.modCal f).stn st = s.stn st := rfl
@[simp] theorem State.chan_modSession (f : Session → Session) (ch : Chan) :
    (s.modSession f).chan ch = s.chan ch := rfl
@[simp] theorem State.stn_modSession (f : Session → Session) (st : Stn) :
    (s.modSession f).stn st = s.stn st := rfl
@[simp] theorem State.chan_modConfig (f : ConfigMem → ConfigMem) (ch : Chan) :
    (s.modConfig f).chan ch = s.chan ch := rfl
@[simp] theorem State.stn_modConfig (f : ConfigMem → ConfigMem) (st : Stn) :
    (s.modConfig f).stn st = s.stn st := rfl

/-! The field an update changes. -/

@[simp] theorem State.session_modSession (f : Session → Session) :
    (s.modSession f).session = s.session.map f := rfl
@[simp] theorem State.store_modStore (f : Store → Store) : (s.modStore f).store = f s.store := rfl
@[simp] theorem State.cal_modCal (f : Calibration → Calibration) : (s.modCal f).cal = f s.cal := rfl
@[simp] theorem State.config_modConfig (f : ConfigMem → ConfigMem) :
    (s.modConfig f).config = f s.config := rfl

/-! The fields an update leaves. -/

@[simp] theorem State.pending_modChan (ch : Chan) (f : Channel → Channel) :
    (s.modChan ch f).pending = s.pending := rfl
@[simp] theorem State.session_modChan (ch : Chan) (f : Channel → Channel) :
    (s.modChan ch f).session = s.session := rfl
@[simp] theorem State.store_modChan (ch : Chan) (f : Channel → Channel) :
    (s.modChan ch f).store = s.store := rfl
@[simp] theorem State.cal_modChan (ch : Chan) (f : Channel → Channel) :
    (s.modChan ch f).cal = s.cal := rfl
@[simp] theorem State.comparisons_modChan (ch : Chan) (f : Channel → Channel) :
    (s.modChan ch f).comparisons = s.comparisons := rfl
@[simp] theorem State.config_modChan (ch : Chan) (f : Channel → Channel) :
    (s.modChan ch f).config = s.config := rfl
@[simp] theorem State.stations_modChan (ch : Chan) (f : Channel → Channel) :
    (s.modChan ch f).stations = s.stations := rfl

@[simp] theorem State.pending_modStn (st : Stn) (f : StationLink → StationLink) :
    (s.modStn st f).pending = s.pending := rfl
@[simp] theorem State.session_modStn (st : Stn) (f : StationLink → StationLink) :
    (s.modStn st f).session = s.session := rfl
@[simp] theorem State.channels_modStn (st : Stn) (f : StationLink → StationLink) :
    (s.modStn st f).channels = s.channels := rfl
@[simp] theorem State.store_modStn (st : Stn) (f : StationLink → StationLink) :
    (s.modStn st f).store = s.store := rfl
@[simp] theorem State.cal_modStn (st : Stn) (f : StationLink → StationLink) :
    (s.modStn st f).cal = s.cal := rfl
@[simp] theorem State.comparisons_modStn (st : Stn) (f : StationLink → StationLink) :
    (s.modStn st f).comparisons = s.comparisons := rfl
@[simp] theorem State.config_modStn (st : Stn) (f : StationLink → StationLink) :
    (s.modStn st f).config = s.config := rfl

@[simp] theorem State.pending_modSession (f : Session → Session) :
    (s.modSession f).pending = s.pending := rfl
@[simp] theorem State.channels_modSession (f : Session → Session) :
    (s.modSession f).channels = s.channels := rfl
@[simp] theorem State.store_modSession (f : Session → Session) :
    (s.modSession f).store = s.store := rfl
@[simp] theorem State.cal_modSession (f : Session → Session) :
    (s.modSession f).cal = s.cal := rfl
@[simp] theorem State.comparisons_modSession (f : Session → Session) :
    (s.modSession f).comparisons = s.comparisons := rfl
@[simp] theorem State.config_modSession (f : Session → Session) :
    (s.modSession f).config = s.config := rfl
@[simp] theorem State.stations_modSession (f : Session → Session) :
    (s.modSession f).stations = s.stations := rfl

@[simp] theorem State.pending_modStore (f : Store → Store) :
    (s.modStore f).pending = s.pending := rfl
@[simp] theorem State.session_modStore (f : Store → Store) :
    (s.modStore f).session = s.session := rfl
@[simp] theorem State.channels_modStore (f : Store → Store) :
    (s.modStore f).channels = s.channels := rfl
@[simp] theorem State.cal_modStore (f : Store → Store) :
    (s.modStore f).cal = s.cal := rfl
@[simp] theorem State.comparisons_modStore (f : Store → Store) :
    (s.modStore f).comparisons = s.comparisons := rfl
@[simp] theorem State.config_modStore (f : Store → Store) :
    (s.modStore f).config = s.config := rfl
@[simp] theorem State.stations_modStore (f : Store → Store) :
    (s.modStore f).stations = s.stations := rfl

@[simp] theorem State.pending_modCal (f : Calibration → Calibration) :
    (s.modCal f).pending = s.pending := rfl
@[simp] theorem State.session_modCal (f : Calibration → Calibration) :
    (s.modCal f).session = s.session := rfl
@[simp] theorem State.channels_modCal (f : Calibration → Calibration) :
    (s.modCal f).channels = s.channels := rfl
@[simp] theorem State.store_modCal (f : Calibration → Calibration) :
    (s.modCal f).store = s.store := rfl
@[simp] theorem State.comparisons_modCal (f : Calibration → Calibration) :
    (s.modCal f).comparisons = s.comparisons := rfl
@[simp] theorem State.config_modCal (f : Calibration → Calibration) :
    (s.modCal f).config = s.config := rfl
@[simp] theorem State.stations_modCal (f : Calibration → Calibration) :
    (s.modCal f).stations = s.stations := rfl

@[simp] theorem State.pending_modConfig (f : ConfigMem → ConfigMem) :
    (s.modConfig f).pending = s.pending := rfl
@[simp] theorem State.session_modConfig (f : ConfigMem → ConfigMem) :
    (s.modConfig f).session = s.session := rfl
@[simp] theorem State.channels_modConfig (f : ConfigMem → ConfigMem) :
    (s.modConfig f).channels = s.channels := rfl
@[simp] theorem State.store_modConfig (f : ConfigMem → ConfigMem) :
    (s.modConfig f).store = s.store := rfl
@[simp] theorem State.cal_modConfig (f : ConfigMem → ConfigMem) :
    (s.modConfig f).cal = s.cal := rfl
@[simp] theorem State.comparisons_modConfig (f : ConfigMem → ConfigMem) :
    (s.modConfig f).comparisons = s.comparisons := rfl
@[simp] theorem State.stations_modConfig (f : ConfigMem → ConfigMem) :
    (s.modConfig f).stations = s.stations := rfl

end Sys2Proof.Machine
end

