-- ==== Sys2Proof/Laws/Frames.lean ====
section
/-! SUPPORT. Frames: for every operation of the model, the parts of the state it leaves as they were.
One lemma per operation and part; what an operation does not leave has no lemma here. -/

namespace Sys2Proof.Machine

set_option Elab.async false

/-- A part of the state that one step of a fold leaves is left by the whole fold. -/
theorem foldl_frame {β γ : Type} (f : State → β → State) (g : State → γ)
    (h : ∀ s b, g (f s b) = g s) (l : List β) (s : State) : g (l.foldl f s) = g s := by
  induction l generalizing s with
  | nil => rfl
  | cons b rest ih => rw [List.foldl_cons, ih, h]

/-! Frames of the shared operations of Ops.lean. -/

@[simp] theorem State.pending_modTrav (s : State) (id : Nat) (f : Traverse → Traverse) :
    (s.modTrav id f).pending = s.pending := by
  rfl

@[simp] theorem State.session_modTrav (s : State) (id : Nat) (f : Traverse → Traverse) :
    (s.modTrav id f).session = s.session := by
  rfl

@[simp] theorem State.channels_modTrav (s : State) (id : Nat) (f : Traverse → Traverse) :
    (s.modTrav id f).channels = s.channels := by
  rfl

@[simp] theorem State.cal_modTrav (s : State) (id : Nat) (f : Traverse → Traverse) :
    (s.modTrav id f).cal = s.cal := by
  rfl

@[simp] theorem State.comparisons_modTrav (s : State) (id : Nat) (f : Traverse → Traverse) :
    (s.modTrav id f).comparisons = s.comparisons := by
  rfl

@[simp] theorem State.config_modTrav (s : State) (id : Nat) (f : Traverse → Traverse) :
    (s.modTrav id f).config = s.config := by
  rfl

@[simp] theorem State.stations_modTrav (s : State) (id : Nat) (f : Traverse → Traverse) :
    (s.modTrav id f).stations = s.stations := by
  rfl

@[simp] theorem State.pending_modBracket (s : State) (n : Nat) (f : Bracket → Bracket) :
    (s.modBracket n f).pending = s.pending := by
  rfl

@[simp] theorem State.session_modBracket (s : State) (n : Nat) (f : Bracket → Bracket) :
    (s.modBracket n f).session = s.session := by
  rfl

@[simp] theorem State.channels_modBracket (s : State) (n : Nat) (f : Bracket → Bracket) :
    (s.modBracket n f).channels = s.channels := by
  rfl

@[simp] theorem State.store_modBracket (s : State) (n : Nat) (f : Bracket → Bracket) :
    (s.modBracket n f).store = s.store := by
  rfl

@[simp] theorem State.comparisons_modBracket (s : State) (n : Nat) (f : Bracket → Bracket) :
    (s.modBracket n f).comparisons = s.comparisons := by
  rfl

@[simp] theorem State.config_modBracket (s : State) (n : Nat) (f : Bracket → Bracket) :
    (s.modBracket n f).config = s.config := by
  rfl

@[simp] theorem State.stations_modBracket (s : State) (n : Nat) (f : Bracket → Bracket) :
    (s.modBracket n f).stations = s.stations := by
  rfl

@[simp] theorem State.pending_setAttempt (s : State) (ch : Chan) (a : Option Attempt) :
    (s.setAttempt ch a).pending = s.pending := by
  rfl

@[simp] theorem State.session_setAttempt (s : State) (ch : Chan) (a : Option Attempt) :
    (s.setAttempt ch a).session = s.session := by
  rfl

@[simp] theorem State.channels_setAttempt (s : State) (ch : Chan) (a : Option Attempt) :
    (s.setAttempt ch a).channels = s.channels := by
  rfl

@[simp] theorem State.store_setAttempt (s : State) (ch : Chan) (a : Option Attempt) :
    (s.setAttempt ch a).store = s.store := by
  rfl

@[simp] theorem State.comparisons_setAttempt (s : State) (ch : Chan) (a : Option Attempt) :
    (s.setAttempt ch a).comparisons = s.comparisons := by
  rfl

@[simp] theorem State.config_setAttempt (s : State) (ch : Chan) (a : Option Attempt) :
    (s.setAttempt ch a).config = s.config := by
  rfl

@[simp] theorem State.stations_setAttempt (s : State) (ch : Chan) (a : Option Attempt) :
    (s.setAttempt ch a).stations = s.stations := by
  rfl

@[simp] theorem State.pending_raise (s : State) (e : Event) :
    (s.raise e).pending = s.pending := by
  rfl

@[simp] theorem State.session_raise (s : State) (e : Event) :
    (s.raise e).session = s.session := by
  rfl

@[simp] theorem State.channels_raise (s : State) (e : Event) :
    (s.raise e).channels = s.channels := by
  rfl

@[simp] theorem State.store_raise (s : State) (e : Event) :
    (s.raise e).store = s.store := by
  rfl

@[simp] theorem State.cal_raise (s : State) (e : Event) :
    (s.raise e).cal = s.cal := by
  rfl

@[simp] theorem State.comparisons_raise (s : State) (e : Event) :
    (s.raise e).comparisons = s.comparisons := by
  rfl

@[simp] theorem State.config_raise (s : State) (e : Event) :
    (s.raise e).config = s.config := by
  rfl

@[simp] theorem State.pending_sendProbe (s : State) (ch : Chan) (f : ProbeOut) :
    (s.sendProbe ch f).pending = s.pending := by
  rfl

@[simp] theorem State.session_sendProbe (s : State) (ch : Chan) (f : ProbeOut) :
    (s.sendProbe ch f).session = s.session := by
  rfl

@[simp] theorem State.store_sendProbe (s : State) (ch : Chan) (f : ProbeOut) :
    (s.sendProbe ch f).store = s.store := by
  rfl

@[simp] theorem State.cal_sendProbe (s : State) (ch : Chan) (f : ProbeOut) :
    (s.sendProbe ch f).cal = s.cal := by
  rfl

@[simp] theorem State.comparisons_sendProbe (s : State) (ch : Chan) (f : ProbeOut) :
    (s.sendProbe ch f).comparisons = s.comparisons := by
  rfl

@[simp] theorem State.config_sendProbe (s : State) (ch : Chan) (f : ProbeOut) :
    (s.sendProbe ch f).config = s.config := by
  rfl

@[simp] theorem State.stations_sendProbe (s : State) (ch : Chan) (f : ProbeOut) :
    (s.sendProbe ch f).stations = s.stations := by
  rfl

@[simp] theorem State.pending_refreshPermit (s : State) (ch : Chan) :
    (s.refreshPermit ch).pending = s.pending := by
  unfold State.refreshPermit
  extract_lets
  (repeat' split) <;> simp +zetaDelta <;> (repeat' split) <;> simp

@[simp] theorem State.session_refreshPermit (s : State) (ch : Chan) :
    (s.refreshPermit ch).session = s.session := by
  unfold State.refreshPermit
  extract_lets
  (repeat' split) <;> simp +zetaDelta <;> (repeat' split) <;> simp

@[simp] theorem State.store_refreshPermit (s : State) (ch : Chan) :
    (s.refreshPermit ch).store = s.store := by
  unfold State.refreshPermit
  extract_lets
  (repeat' split) <;> simp +zetaDelta <;> (repeat' split) <;> simp

@[simp] theorem State.cal_refreshPermit (s : State) (ch : Chan) :
    (s.refreshPermit ch).cal = s.cal := by
  unfold State.refreshPermit
  extract_lets
  (repeat' split) <;> simp +zetaDelta <;> (repeat' split) <;> simp

@[simp] theorem State.comparisons_refreshPermit (s : State) (ch : Chan) :
    (s.refreshPermit ch).comparisons = s.comparisons := by
  unfold State.refreshPermit
  extract_lets
  (repeat' split) <;> simp +zetaDelta <;> (repeat' split) <;> simp

@[simp] theorem State.config_refreshPermit (s : State) (ch : Chan) :
    (s.refreshPermit ch).config = s.config := by
  unfold State.refreshPermit
  extract_lets
  (repeat' split) <;> simp +zetaDelta <;> (repeat' split) <;> simp

@[simp] theorem State.stations_refreshPermit (s : State) (ch : Chan) :
    (s.refreshPermit ch).stations = s.stations := by
  unfold State.refreshPermit
  extract_lets
  (repeat' split) <;> simp +zetaDelta <;> (repeat' split) <;> simp

@[simp] theorem State.pending_setChan (s : State) (ch : Chan) (new : ChanState) :
    (s.setChan ch new).pending = s.pending := by
  unfold State.setChan
  split <;> rfl

@[simp] theorem State.session_setChan (s : State) (ch : Chan) (new : ChanState) :
    (s.setChan ch new).session = s.session := by
  unfold State.setChan
  split <;> rfl

@[simp] theorem State.store_setChan (s : State) (ch : Chan) (new : ChanState) :
    (s.setChan ch new).store = s.store := by
  unfold State.setChan
  split <;> rfl

@[simp] theorem State.cal_setChan (s : State) (ch : Chan) (new : ChanState) :
    (s.setChan ch new).cal = s.cal := by
  unfold State.setChan
  split <;> rfl

@[simp] theorem State.comparisons_setChan (s : State) (ch : Chan) (new : ChanState) :
    (s.setChan ch new).comparisons = s.comparisons := by
  unfold State.setChan
  split <;> rfl

@[simp] theorem State.config_setChan (s : State) (ch : Chan) (new : ChanState) :
    (s.setChan ch new).config = s.config := by
  unfold State.setChan
  split <;> rfl

@[simp] theorem State.pending_moveChan (s : State) (ch : Chan) (new : ChanState) :
    (s.moveChan ch new).pending = s.pending := by
  unfold State.moveChan
  simp

@[simp] theorem State.session_moveChan (s : State) (ch : Chan) (new : ChanState) :
    (s.moveChan ch new).session = s.session := by
  unfold State.moveChan
  simp

@[simp] theorem State.store_moveChan (s : State) (ch : Chan) (new : ChanState) :
    (s.moveChan ch new).store = s.store := by
  unfold State.moveChan
  simp

@[simp] theorem State.cal_moveChan (s : State) (ch : Chan) (new : ChanState) :
    (s.moveChan ch new).cal = s.cal := by
  unfold State.moveChan
  simp

@[simp] theorem State.comparisons_moveChan (s : State) (ch : Chan) (new : ChanState) :
    (s.moveChan ch new).comparisons = s.comparisons := by
  unfold State.moveChan
  simp

@[simp] theorem State.config_moveChan (s : State) (ch : Chan) (new : ChanState) :
    (s.moveChan ch new).config = s.config := by
  unfold State.moveChan
  simp

@[simp] theorem State.pending_setCalDue (s : State) (ch : Chan) (cause : CalDue) :
    (s.setCalDue ch cause).pending = s.pending := by
  unfold State.setCalDue
  (repeat' split) <;> simp [apply_ite State.pending]

@[simp] theorem State.session_setCalDue (s : State) (ch : Chan) (cause : CalDue) :
    (s.setCalDue ch cause).session = s.session := by
  unfold State.setCalDue
  (repeat' split) <;> simp [apply_ite State.session]

@[simp] theorem State.store_setCalDue (s : State) (ch : Chan) (cause : CalDue) :
    (s.setCalDue ch cause).store = s.store := by
  unfold State.setCalDue
  (repeat' split) <;> simp [apply_ite State.store]

@[simp] theorem State.comparisons_setCalDue (s : State) (ch : Chan) (cause : CalDue) :
    (s.setCalDue ch cause).comparisons = s.comparisons := by
  unfold State.setCalDue
  (repeat' split) <;> simp [apply_ite State.comparisons]

@[simp] theorem State.config_setCalDue (s : State) (ch : Chan) (cause : CalDue) :
    (s.setCalDue ch cause).config = s.config := by
  unfold State.setCalDue
  (repeat' split) <;> simp [apply_ite State.config]

/-! Frames of the operations of the Traverse Store Controller. -/

@[simp] theorem State.pending_watchStore (s : State) :
    (s.watchStore).pending = s.pending := by
  unfold State.watchStore
  simp [apply_ite State.pending]

@[simp] theorem State.session_watchStore (s : State) :
    (s.watchStore).session = s.session := by
  unfold State.watchStore
  simp [apply_ite State.session]

@[simp] theorem State.channels_watchStore (s : State) :
    (s.watchStore).channels = s.channels := by
  unfold State.watchStore
  simp [apply_ite State.channels]

@[simp] theorem State.cal_watchStore (s : State) :
    (s.watchStore).cal = s.cal := by
  unfold State.watchStore
  simp [apply_ite State.cal]

@[simp] theorem State.comparisons_watchStore (s : State) :
    (s.watchStore).comparisons = s.comparisons := by
  unfold State.watchStore
  simp [apply_ite State.comparisons]

@[simp] theorem State.config_watchStore (s : State) :
    (s.watchStore).config = s.config := by
  unfold State.watchStore
  simp [apply_ite State.config]

@[simp] theorem State.pending_reserve (s : State) :
    (s.reserve).pending = s.pending := by
  unfold State.reserve
  simp

@[simp] theorem State.session_reserve (s : State) :
    (s.reserve).session = s.session := by
  unfold State.reserve
  simp

@[simp] theorem State.channels_reserve (s : State) :
    (s.reserve).channels = s.channels := by
  unfold State.reserve
  simp

@[simp] theorem State.cal_reserve (s : State) :
    (s.reserve).cal = s.cal := by
  unfold State.reserve
  simp

@[simp] theorem State.comparisons_reserve (s : State) :
    (s.reserve).comparisons = s.comparisons := by
  unfold State.reserve
  simp

@[simp] theorem State.config_reserve (s : State) :
    (s.reserve).config = s.config := by
  unfold State.reserve
  simp

@[simp] theorem State.pending_unreserve (s : State) :
    (s.unreserve).pending = s.pending := by
  unfold State.unreserve
  simp

@[simp] theorem State.session_unreserve (s : State) :
    (s.unreserve).session = s.session := by
  unfold State.unreserve
  simp

@[simp] theorem State.channels_unreserve (s : State) :
    (s.unreserve).channels = s.channels := by
  unfold State.unreserve
  simp

@[simp] theorem State.cal_unreserve (s : State) :
    (s.unreserve).cal = s.cal := by
  unfold State.unreserve
  simp

@[simp] theorem State.comparisons_unreserve (s : State) :
    (s.unreserve).comparisons = s.comparisons := by
  unfold State.unreserve
  simp

@[simp] theorem State.config_unreserve (s : State) :
    (s.unreserve).config = s.config := by
  unfold State.unreserve
  simp

@[simp] theorem State.pending_returnReservation (s : State) (id keep : Nat) :
    (s.returnReservation id keep).pending = s.pending := by
  unfold State.returnReservation
  split <;> simp

@[simp] theorem State.session_returnReservation (s : State) (id keep : Nat) :
    (s.returnReservation id keep).session = s.session := by
  unfold State.returnReservation
  split <;> simp

@[simp] theorem State.channels_returnReservation (s : State) (id keep : Nat) :
    (s.returnReservation id keep).channels = s.channels := by
  unfold State.returnReservation
  split <;> simp

@[simp] theorem State.cal_returnReservation (s : State) (id keep : Nat) :
    (s.returnReservation id keep).cal = s.cal := by
  unfold State.returnReservation
  split <;> simp

@[simp] theorem State.comparisons_returnReservation (s : State) (id keep : Nat) :
    (s.returnReservation id keep).comparisons = s.comparisons := by
  unfold State.returnReservation
  split <;> simp

@[simp] theorem State.config_returnReservation (s : State) (id keep : Nat) :
    (s.returnReservation id keep).config = s.config := by
  unfold State.returnReservation
  split <;> simp

@[simp] theorem State.pending_release (s : State) (t : Traverse) :
    (s.release t).pending = s.pending := by
  unfold State.release
  simp

@[simp] theorem State.session_release (s : State) (t : Traverse) :
    (s.release t).session = s.session := by
  unfold State.release
  simp

@[simp] theorem State.channels_release (s : State) (t : Traverse) :
    (s.release t).channels = s.channels := by
  unfold State.release
  simp

@[simp] theorem State.cal_release (s : State) (t : Traverse) :
    (s.release t).cal = s.cal := by
  unfold State.release
  simp

@[simp] theorem State.comparisons_release (s : State) (t : Traverse) :
    (s.release t).comparisons = s.comparisons := by
  unfold State.release
  simp

@[simp] theorem State.config_release (s : State) (t : Traverse) :
    (s.release t).config = s.config := by
  unfold State.release
  simp

@[simp] theorem State.pending_testRelease (s : State) (id : Nat) :
    (s.testRelease id).pending = s.pending := by
  unfold State.testRelease
  (repeat' split) <;> simp

@[simp] theorem State.session_testRelease (s : State) (id : Nat) :
    (s.testRelease id).session = s.session := by
  unfold State.testRelease
  (repeat' split) <;> simp

@[simp] theorem State.channels_testRelease (s : State) (id : Nat) :
    (s.testRelease id).channels = s.channels := by
  unfold State.testRelease
  (repeat' split) <;> simp

@[simp] theorem State.cal_testRelease (s : State) (id : Nat) :
    (s.testRelease id).cal = s.cal := by
  unfold State.testRelease
  (repeat' split) <;> simp

@[simp] theorem State.comparisons_testRelease (s : State) (id : Nat) :
    (s.testRelease id).comparisons = s.comparisons := by
  unfold State.testRelease
  (repeat' split) <;> simp

@[simp] theorem State.config_testRelease (s : State) (id : Nat) :
    (s.testRelease id).config = s.config := by
  unfold State.testRelease
  (repeat' split) <;> simp

@[simp] theorem State.pending_settle (s : State) (id : Nat) :
    (s.settle id).pending = s.pending := by
  unfold State.settle
  (repeat' split) <;> simp

@[simp] theorem State.session_settle (s : State) (id : Nat) :
    (s.settle id).session = s.session := by
  unfold State.settle
  (repeat' split) <;> simp

@[simp] theorem State.channels_settle (s : State) (id : Nat) :
    (s.settle id).channels = s.channels := by
  unfold State.settle
  (repeat' split) <;> simp

@[simp] theorem State.cal_settle (s : State) (id : Nat) :
    (s.settle id).cal = s.cal := by
  unfold State.settle
  (repeat' split) <;> simp

@[simp] theorem State.comparisons_settle (s : State) (id : Nat) :
    (s.settle id).comparisons = s.comparisons := by
  unfold State.settle
  (repeat' split) <;> simp

@[simp] theorem State.config_settle (s : State) (id : Nat) :
    (s.settle id).config = s.config := by
  unfold State.settle
  (repeat' split) <;> simp

@[simp] theorem State.pending_invalidate (s : State) (id : Nat) :
    (s.invalidate id).pending = s.pending := by
  unfold State.invalidate
  (repeat' split) <;> simp

@[simp] theorem State.session_invalidate (s : State) (id : Nat) :
    (s.invalidate id).session = s.session := by
  unfold State.invalidate
  (repeat' split) <;> simp

@[simp] theorem State.channels_invalidate (s : State) (id : Nat) :
    (s.invalidate id).channels = s.channels := by
  unfold State.invalidate
  (repeat' split) <;> simp

@[simp] theorem State.cal_invalidate (s : State) (id : Nat) :
    (s.invalidate id).cal = s.cal := by
  unfold State.invalidate
  (repeat' split) <;> simp

@[simp] theorem State.comparisons_invalidate (s : State) (id : Nat) :
    (s.invalidate id).comparisons = s.comparisons := by
  unfold State.invalidate
  (repeat' split) <;> simp

@[simp] theorem State.config_invalidate (s : State) (id : Nat) :
    (s.invalidate id).config = s.config := by
  unfold State.invalidate
  (repeat' split) <;> simp

@[simp] theorem State.pending_grantWrite (s : State) (ch : Chan) :
    (s.grantWrite ch).pending = s.pending := by
  unfold State.grantWrite
  split
  · rfl
  · split <;> rfl

@[simp] theorem State.session_grantWrite (s : State) (ch : Chan) :
    (s.grantWrite ch).session = s.session := by
  unfold State.grantWrite
  split
  · rfl
  · split <;> rfl

@[simp] theorem State.channels_grantWrite (s : State) (ch : Chan) :
    (s.grantWrite ch).channels = s.channels := by
  unfold State.grantWrite
  split
  · rfl
  · split <;> rfl

@[simp] theorem State.cal_grantWrite (s : State) (ch : Chan) :
    (s.grantWrite ch).cal = s.cal := by
  unfold State.grantWrite
  split
  · rfl
  · split <;> rfl

@[simp] theorem State.comparisons_grantWrite (s : State) (ch : Chan) :
    (s.grantWrite ch).comparisons = s.comparisons := by
  unfold State.grantWrite
  split
  · rfl
  · split <;> rfl

@[simp] theorem State.config_grantWrite (s : State) (ch : Chan) :
    (s.grantWrite ch).config = s.config := by
  unfold State.grantWrite
  split
  · rfl
  · split <;> rfl

@[simp] theorem State.stations_grantWrite (s : State) (ch : Chan) :
    (s.grantWrite ch).stations = s.stations := by
  unfold State.grantWrite
  split
  · rfl
  · split <;> rfl

@[simp] theorem State.pending_modStream (s : State) (st : Stn) (f : Stream → Stream) :
    (s.modStream st f).pending = s.pending := by
  rfl

@[simp] theorem State.session_modStream (s : State) (st : Stn) (f : Stream → Stream) :
    (s.modStream st f).session = s.session := by
  rfl

@[simp] theorem State.channels_modStream (s : State) (st : Stn) (f : Stream → Stream) :
    (s.modStream st f).channels = s.channels := by
  rfl

@[simp] theorem State.store_modStream (s : State) (st : Stn) (f : Stream → Stream) :
    (s.modStream st f).store = s.store := by
  rfl

@[simp] theorem State.cal_modStream (s : State) (st : Stn) (f : Stream → Stream) :
    (s.modStream st f).cal = s.cal := by
  rfl

@[simp] theorem State.comparisons_modStream (s : State) (st : Stn) (f : Stream → Stream) :
    (s.modStream st f).comparisons = s.comparisons := by
  rfl

@[simp] theorem State.config_modStream (s : State) (st : Stn) (f : Stream → Stream) :
    (s.modStream st f).config = s.config := by
  rfl

@[simp] theorem State.pending_grantFetch (s : State) (st : Stn) :
    (s.grantFetch st).pending = s.pending := by
  unfold State.grantFetch
  split <;> rfl

@[simp] theorem State.session_grantFetch (s : State) (st : Stn) :
    (s.grantFetch st).session = s.session := by
  unfold State.grantFetch
  split <;> rfl

@[simp] theorem State.channels_grantFetch (s : State) (st : Stn) :
    (s.grantFetch st).channels = s.channels := by
  unfold State.grantFetch
  split <;> rfl

@[simp] theorem State.cal_grantFetch (s : State) (st : Stn) :
    (s.grantFetch st).cal = s.cal := by
  unfold State.grantFetch
  split <;> rfl

@[simp] theorem State.comparisons_grantFetch (s : State) (st : Stn) :
    (s.grantFetch st).comparisons = s.comparisons := by
  unfold State.grantFetch
  split <;> rfl

@[simp] theorem State.config_grantFetch (s : State) (st : Stn) :
    (s.grantFetch st).config = s.config := by
  unfold State.grantFetch
  split <;> rfl

@[simp] theorem State.pending_arbitrate (s : State) :
    (s.arbitrate).pending = s.pending := by
  unfold State.arbitrate
  (repeat' split) <;> simp

@[simp] theorem State.session_arbitrate (s : State) :
    (s.arbitrate).session = s.session := by
  unfold State.arbitrate
  (repeat' split) <;> simp

@[simp] theorem State.channels_arbitrate (s : State) :
    (s.arbitrate).channels = s.channels := by
  unfold State.arbitrate
  (repeat' split) <;> simp

@[simp] theorem State.cal_arbitrate (s : State) :
    (s.arbitrate).cal = s.cal := by
  unfold State.arbitrate
  (repeat' split) <;> simp

@[simp] theorem State.comparisons_arbitrate (s : State) :
    (s.arbitrate).comparisons = s.comparisons := by
  unfold State.arbitrate
  (repeat' split) <;> simp

@[simp] theorem State.config_arbitrate (s : State) :
    (s.arbitrate).config = s.config := by
  unfold State.arbitrate
  (repeat' split) <;> simp

@[simp] theorem State.pending_handOver (s : State) (ch : Chan) (i : BufId) (last aborted : Bool) :
    (s.handOver ch i last aborted).pending = s.pending := by
  unfold State.handOver
  simp

@[simp] theorem State.session_handOver (s : State) (ch : Chan) (i : BufId) (last aborted : Bool) :
    (s.handOver ch i last aborted).session = s.session := by
  unfold State.handOver
  simp

@[simp] theorem State.cal_handOver (s : State) (ch : Chan) (i : BufId) (last aborted : Bool) :
    (s.handOver ch i last aborted).cal = s.cal := by
  unfold State.handOver
  simp

@[simp] theorem State.comparisons_handOver (s : State) (ch : Chan) (i : BufId) (last aborted : Bool) :
    (s.handOver ch i last aborted).comparisons = s.comparisons := by
  unfold State.handOver
  simp

@[simp] theorem State.config_handOver (s : State) (ch : Chan) (i : BufId) (last aborted : Bool) :
    (s.handOver ch i last aborted).config = s.config := by
  unfold State.handOver
  simp

@[simp] theorem State.pending_finalPage (s : State) (ch : Chan) (id : Nat) (aborted : Bool) :
    (s.finalPage ch id aborted).pending = s.pending := by
  unfold State.finalPage
  simp [apply_ite State.pending]

@[simp] theorem State.session_finalPage (s : State) (ch : Chan) (id : Nat) (aborted : Bool) :
    (s.finalPage ch id aborted).session = s.session := by
  unfold State.finalPage
  simp [apply_ite State.session]

@[simp] theorem State.cal_finalPage (s : State) (ch : Chan) (id : Nat) (aborted : Bool) :
    (s.finalPage ch id aborted).cal = s.cal := by
  unfold State.finalPage
  simp [apply_ite State.cal]

@[simp] theorem State.comparisons_finalPage (s : State) (ch : Chan) (id : Nat) (aborted : Bool) :
    (s.finalPage ch id aborted).comparisons = s.comparisons := by
  unfold State.finalPage
  simp [apply_ite State.comparisons]

@[simp] theorem State.config_finalPage (s : State) (ch : Chan) (id : Nat) (aborted : Bool) :
    (s.finalPage ch id aborted).config = s.config := by
  unfold State.finalPage
  simp [apply_ite State.config]

@[simp] theorem State.pending_abortTraverse (s : State) (id : Nat) :
    (s.abortTraverse id).pending = s.pending := by
  unfold State.abortTraverse
  (repeat' split) <;> simp

@[simp] theorem State.session_abortTraverse (s : State) (id : Nat) :
    (s.abortTraverse id).session = s.session := by
  unfold State.abortTraverse
  (repeat' split) <;> simp

@[simp] theorem State.channels_abortTraverse (s : State) (id : Nat) :
    (s.abortTraverse id).channels = s.channels := by
  unfold State.abortTraverse
  (repeat' split) <;> simp

@[simp] theorem State.cal_abortTraverse (s : State) (id : Nat) :
    (s.abortTraverse id).cal = s.cal := by
  unfold State.abortTraverse
  (repeat' split) <;> simp

@[simp] theorem State.comparisons_abortTraverse (s : State) (id : Nat) :
    (s.abortTraverse id).comparisons = s.comparisons := by
  unfold State.abortTraverse
  (repeat' split) <;> simp

@[simp] theorem State.config_abortTraverse (s : State) (id : Nat) :
    (s.abortTraverse id).config = s.config := by
  unfold State.abortTraverse
  (repeat' split) <;> simp

@[simp] theorem State.pending_reportAbort (s : State) (id : Nat) :
    (s.reportAbort id).pending = s.pending := by
  unfold State.reportAbort
  (repeat' split) <;> rfl

@[simp] theorem State.session_reportAbort (s : State) (id : Nat) :
    (s.reportAbort id).session = s.session := by
  unfold State.reportAbort
  (repeat' split) <;> rfl

@[simp] theorem State.store_reportAbort (s : State) (id : Nat) :
    (s.reportAbort id).store = s.store := by
  unfold State.reportAbort
  (repeat' split) <;> rfl

@[simp] theorem State.cal_reportAbort (s : State) (id : Nat) :
    (s.reportAbort id).cal = s.cal := by
  unfold State.reportAbort
  (repeat' split) <;> rfl

@[simp] theorem State.comparisons_reportAbort (s : State) (id : Nat) :
    (s.reportAbort id).comparisons = s.comparisons := by
  unfold State.reportAbort
  (repeat' split) <;> rfl

@[simp] theorem State.config_reportAbort (s : State) (id : Nat) :
    (s.reportAbort id).config = s.config := by
  unfold State.reportAbort
  (repeat' split) <;> rfl

@[simp] theorem State.stations_reportAbort (s : State) (id : Nat) :
    (s.reportAbort id).stations = s.stations := by
  unfold State.reportAbort
  (repeat' split) <;> rfl

@[simp] theorem State.pending_register (s : State) (id : Nat) :
    (s.register id).pending = s.pending := by
  rfl

@[simp] theorem State.session_register (s : State) (id : Nat) :
    (s.register id).session = s.session := by
  rfl

@[simp] theorem State.channels_register (s : State) (id : Nat) :
    (s.register id).channels = s.channels := by
  rfl

@[simp] theorem State.cal_register (s : State) (id : Nat) :
    (s.register id).cal = s.cal := by
  rfl

@[simp] theorem State.comparisons_register (s : State) (id : Nat) :
    (s.register id).comparisons = s.comparisons := by
  rfl

@[simp] theorem State.config_register (s : State) (id : Nat) :
    (s.register id).config = s.config := by
  rfl

@[simp] theorem State.stations_register (s : State) (id : Nat) :
    (s.register id).stations = s.stations := by
  rfl

@[simp] theorem State.pending_deregister (s : State) (id : Nat) :
    (s.deregister id).pending = s.pending := by
  unfold State.deregister
  simp

@[simp] theorem State.session_deregister (s : State) (id : Nat) :
    (s.deregister id).session = s.session := by
  unfold State.deregister
  simp

@[simp] theorem State.channels_deregister (s : State) (id : Nat) :
    (s.deregister id).channels = s.channels := by
  unfold State.deregister
  simp

@[simp] theorem State.cal_deregister (s : State) (id : Nat) :
    (s.deregister id).cal = s.cal := by
  unfold State.deregister
  simp

@[simp] theorem State.comparisons_deregister (s : State) (id : Nat) :
    (s.deregister id).comparisons = s.comparisons := by
  unfold State.deregister
  simp

@[simp] theorem State.config_deregister (s : State) (id : Nat) :
    (s.deregister id).config = s.config := by
  unfold State.deregister
  simp

/-! Frames of the operations of the Tube Table Unit. -/

@[simp] theorem State.pending_modTube (s : State) (p : Pos) (f : TubeEntry → TubeEntry) :
    (s.modTube p f).pending = s.pending := by
  rfl

@[simp] theorem State.channels_modTube (s : State) (p : Pos) (f : TubeEntry → TubeEntry) :
    (s.modTube p f).channels = s.channels := by
  rfl

@[simp] theorem State.store_modTube (s : State) (p : Pos) (f : TubeEntry → TubeEntry) :
    (s.modTube p f).store = s.store := by
  rfl

@[simp] theorem State.cal_modTube (s : State) (p : Pos) (f : TubeEntry → TubeEntry) :
    (s.modTube p f).cal = s.cal := by
  rfl

@[simp] theorem State.comparisons_modTube (s : State) (p : Pos) (f : TubeEntry → TubeEntry) :
    (s.modTube p f).comparisons = s.comparisons := by
  rfl

@[simp] theorem State.config_modTube (s : State) (p : Pos) (f : TubeEntry → TubeEntry) :
    (s.modTube p f).config = s.config := by
  rfl

@[simp] theorem State.stations_modTube (s : State) (p : Pos) (f : TubeEntry → TubeEntry) :
    (s.modTube p f).stations = s.stations := by
  rfl

@[simp] theorem State.pending_moveTube (s : State) (p : Pos) (new : TubeState) (f : TubeEntry → TubeEntry) :
    (s.moveTube p new f).pending = s.pending := by
  unfold State.moveTube
  split <;> rfl

@[simp] theorem State.channels_moveTube (s : State) (p : Pos) (new : TubeState) (f : TubeEntry → TubeEntry) :
    (s.moveTube p new f).channels = s.channels := by
  unfold State.moveTube
  split <;> rfl

@[simp] theorem State.store_moveTube (s : State) (p : Pos) (new : TubeState) (f : TubeEntry → TubeEntry) :
    (s.moveTube p new f).store = s.store := by
  unfold State.moveTube
  split <;> rfl

@[simp] theorem State.cal_moveTube (s : State) (p : Pos) (new : TubeState) (f : TubeEntry → TubeEntry) :
    (s.moveTube p new f).cal = s.cal := by
  unfold State.moveTube
  split <;> rfl

@[simp] theorem State.comparisons_moveTube (s : State) (p : Pos) (new : TubeState) (f : TubeEntry → TubeEntry) :
    (s.moveTube p new f).comparisons = s.comparisons := by
  unfold State.moveTube
  split <;> rfl

@[simp] theorem State.config_moveTube (s : State) (p : Pos) (new : TubeState) (f : TubeEntry → TubeEntry) :
    (s.moveTube p new f).config = s.config := by
  unfold State.moveTube
  split <;> rfl

@[simp] theorem State.stations_moveTube (s : State) (p : Pos) (new : TubeState) (f : TubeEntry → TubeEntry) :
    (s.moveTube p new f).stations = s.stations := by
  unfold State.moveTube
  split <;> rfl

@[simp] theorem State.pending_grantClaim (s : State) (ch : Chan) (p : Pos) :
    (s.grantClaim ch p).pending = s.pending := by
  unfold State.grantClaim
  simp

@[simp] theorem State.cal_grantClaim (s : State) (ch : Chan) (p : Pos) :
    (s.grantClaim ch p).cal = s.cal := by
  unfold State.grantClaim
  simp

@[simp] theorem State.comparisons_grantClaim (s : State) (ch : Chan) (p : Pos) :
    (s.grantClaim ch p).comparisons = s.comparisons := by
  unfold State.grantClaim
  simp

@[simp] theorem State.config_grantClaim (s : State) (ch : Chan) (p : Pos) :
    (s.grantClaim ch p).config = s.config := by
  unfold State.grantClaim
  simp

@[simp] theorem State.pending_endClaim (s : State) (ch : Chan) (restriction : Bool) :
    (s.endClaim ch restriction).pending = s.pending := by
  unfold State.endClaim
  split <;> simp

@[simp] theorem State.cal_endClaim (s : State) (ch : Chan) (restriction : Bool) :
    (s.endClaim ch restriction).cal = s.cal := by
  unfold State.endClaim
  split <;> simp

@[simp] theorem State.comparisons_endClaim (s : State) (ch : Chan) (restriction : Bool) :
    (s.endClaim ch restriction).comparisons = s.comparisons := by
  unfold State.endClaim
  split <;> simp

@[simp] theorem State.config_endClaim (s : State) (ch : Chan) (restriction : Bool) :
    (s.endClaim ch restriction).config = s.config := by
  unfold State.endClaim
  split <;> simp

@[simp] theorem State.pending_raiseRetest (s : State) (p : Pos) :
    (s.raiseRetest p).pending = s.pending := by
  unfold State.raiseRetest
  split <;> rfl

@[simp] theorem State.session_raiseRetest (s : State) (p : Pos) :
    (s.raiseRetest p).session = s.session := by
  unfold State.raiseRetest
  split <;> rfl

@[simp] theorem State.channels_raiseRetest (s : State) (p : Pos) :
    (s.raiseRetest p).channels = s.channels := by
  unfold State.raiseRetest
  split <;> rfl

@[simp] theorem State.store_raiseRetest (s : State) (p : Pos) :
    (s.raiseRetest p).store = s.store := by
  unfold State.raiseRetest
  split <;> rfl

@[simp] theorem State.cal_raiseRetest (s : State) (p : Pos) :
    (s.raiseRetest p).cal = s.cal := by
  unfold State.raiseRetest
  split <;> rfl

@[simp] theorem State.comparisons_raiseRetest (s : State) (p : Pos) :
    (s.raiseRetest p).comparisons = s.comparisons := by
  unfold State.raiseRetest
  split <;> rfl

@[simp] theorem State.config_raiseRetest (s : State) (p : Pos) :
    (s.raiseRetest p).config = s.config := by
  unfold State.raiseRetest
  split <;> rfl

@[simp] theorem State.pending_abortTube (s : State) (p : Pos) (restriction : Bool) :
    (s.abortTube p restriction).pending = s.pending := by
  unfold State.abortTube
  split <;> simp

@[simp] theorem State.channels_abortTube (s : State) (p : Pos) (restriction : Bool) :
    (s.abortTube p restriction).channels = s.channels := by
  unfold State.abortTube
  split <;> simp

@[simp] theorem State.store_abortTube (s : State) (p : Pos) (restriction : Bool) :
    (s.abortTube p restriction).store = s.store := by
  unfold State.abortTube
  split <;> simp

@[simp] theorem State.cal_abortTube (s : State) (p : Pos) (restriction : Bool) :
    (s.abortTube p restriction).cal = s.cal := by
  unfold State.abortTube
  split <;> simp

@[simp] theorem State.comparisons_abortTube (s : State) (p : Pos) (restriction : Bool) :
    (s.abortTube p restriction).comparisons = s.comparisons := by
  unfold State.abortTube
  split <;> simp

@[simp] theorem State.config_abortTube (s : State) (p : Pos) (restriction : Bool) :
    (s.abortTube p restriction).config = s.config := by
  unfold State.abortTube
  split <;> simp

@[simp] theorem State.pending_retestTube (s : State) (p : Pos) (cause : RetestCause) (reset : Bool)
    (traverse : Option Nat) : (s.retestTube p cause reset traverse).pending = s.pending := by
  unfold State.retestTube
  cases traverse <;> simp

@[simp] theorem State.channels_retestTube (s : State) (p : Pos) (cause : RetestCause) (reset : Bool)
    (traverse : Option Nat) : (s.retestTube p cause reset traverse).channels = s.channels := by
  unfold State.retestTube
  cases traverse <;> simp

@[simp] theorem State.cal_retestTube (s : State) (p : Pos) (cause : RetestCause) (reset : Bool)
    (traverse : Option Nat) : (s.retestTube p cause reset traverse).cal = s.cal := by
  unfold State.retestTube
  cases traverse <;> simp

@[simp] theorem State.comparisons_retestTube (s : State) (p : Pos) (cause : RetestCause) (reset : Bool)
    (traverse : Option Nat) : (s.retestTube p cause reset traverse).comparisons = s.comparisons := by
  unfold State.retestTube
  cases traverse <;> simp

@[simp] theorem State.config_retestTube (s : State) (p : Pos) (cause : RetestCause) (reset : Bool)
    (traverse : Option Nat) : (s.retestTube p cause reset traverse).config = s.config := by
  unfold State.retestTube
  cases traverse <;> simp

@[simp] theorem State.pending_decideTube (s : State) (p : Pos) (call : Call) :
    (s.decideTube p call).pending = s.pending := by
  unfold State.decideTube
  simp

@[simp] theorem State.channels_decideTube (s : State) (p : Pos) (call : Call) :
    (s.decideTube p call).channels = s.channels := by
  unfold State.decideTube
  simp

@[simp] theorem State.cal_decideTube (s : State) (p : Pos) (call : Call) :
    (s.decideTube p call).cal = s.cal := by
  unfold State.decideTube
  simp

@[simp] theorem State.comparisons_decideTube (s : State) (p : Pos) (call : Call) :
    (s.decideTube p call).comparisons = s.comparisons := by
  unfold State.decideTube
  simp

@[simp] theorem State.config_decideTube (s : State) (p : Pos) (call : Call) :
    (s.decideTube p call).config = s.config := by
  unfold State.decideTube
  simp

/-! Frames of the operations of the Calibration Unit. -/

@[simp] theorem State.pending_closeBracket (s : State) (n : Nat) (good : Bool) (cause : ClosingCause) :
    (s.closeBracket n good cause).pending = s.pending := by
  rfl

@[simp] theorem State.session_closeBracket (s : State) (n : Nat) (good : Bool) (cause : ClosingCause) :
    (s.closeBracket n good cause).session = s.session := by
  rfl

@[simp] theorem State.channels_closeBracket (s : State) (n : Nat) (good : Bool) (cause : ClosingCause) :
    (s.closeBracket n good cause).channels = s.channels := by
  rfl

@[simp] theorem State.store_closeBracket (s : State) (n : Nat) (good : Bool) (cause : ClosingCause) :
    (s.closeBracket n good cause).store = s.store := by
  rfl

@[simp] theorem State.comparisons_closeBracket (s : State) (n : Nat) (good : Bool) (cause : ClosingCause) :
    (s.closeBracket n good cause).comparisons = s.comparisons := by
  rfl

@[simp] theorem State.config_closeBracket (s : State) (n : Nat) (good : Bool) (cause : ClosingCause) :
    (s.closeBracket n good cause).config = s.config := by
  rfl

@[simp] theorem State.stations_closeBracket (s : State) (n : Nat) (good : Bool) (cause : ClosingCause) :
    (s.closeBracket n good cause).stations = s.stations := by
  rfl

@[simp] theorem State.pending_settleSweep (s : State) (n : Nat) :
    (s.settleSweep n).pending = s.pending := by
  unfold State.settleSweep
  (repeat' split) <;> rfl

@[simp] theorem State.session_settleSweep (s : State) (n : Nat) :
    (s.settleSweep n).session = s.session := by
  unfold State.settleSweep
  (repeat' split) <;> rfl

@[simp] theorem State.channels_settleSweep (s : State) (n : Nat) :
    (s.settleSweep n).channels = s.channels := by
  unfold State.settleSweep
  (repeat' split) <;> rfl

@[simp] theorem State.store_settleSweep (s : State) (n : Nat) :
    (s.settleSweep n).store = s.store := by
  unfold State.settleSweep
  (repeat' split) <;> rfl

@[simp] theorem State.comparisons_settleSweep (s : State) (n : Nat) :
    (s.settleSweep n).comparisons = s.comparisons := by
  unfold State.settleSweep
  (repeat' split) <;> rfl

@[simp] theorem State.config_settleSweep (s : State) (n : Nat) :
    (s.settleSweep n).config = s.config := by
  unfold State.settleSweep
  (repeat' split) <;> rfl

@[simp] theorem State.pending_failBracket (s : State) (ch : Chan) (cause : ClosingCause) :
    (s.failBracket ch cause).pending = s.pending := by
  unfold State.failBracket
  split <;> simp

@[simp] theorem State.session_failBracket (s : State) (ch : Chan) (cause : ClosingCause) :
    (s.failBracket ch cause).session = s.session := by
  unfold State.failBracket
  split <;> simp

@[simp] theorem State.channels_failBracket (s : State) (ch : Chan) (cause : ClosingCause) :
    (s.failBracket ch cause).channels = s.channels := by
  unfold State.failBracket
  split <;> simp

@[simp] theorem State.store_failBracket (s : State) (ch : Chan) (cause : ClosingCause) :
    (s.failBracket ch cause).store = s.store := by
  unfold State.failBracket
  split <;> simp

@[simp] theorem State.comparisons_failBracket (s : State) (ch : Chan) (cause : ClosingCause) :
    (s.failBracket ch cause).comparisons = s.comparisons := by
  unfold State.failBracket
  split <;> simp

@[simp] theorem State.config_failBracket (s : State) (ch : Chan) (cause : ClosingCause) :
    (s.failBracket ch cause).config = s.config := by
  unfold State.failBracket
  split <;> simp

@[simp] theorem State.pending_abortCalibration (s : State) (ch : Chan) :
    (s.abortCalibration ch).pending = s.pending := by
  unfold State.abortCalibration
  split <;> simp

@[simp] theorem State.session_abortCalibration (s : State) (ch : Chan) :
    (s.abortCalibration ch).session = s.session := by
  unfold State.abortCalibration
  split <;> simp

@[simp] theorem State.comparisons_abortCalibration (s : State) (ch : Chan) :
    (s.abortCalibration ch).comparisons = s.comparisons := by
  unfold State.abortCalibration
  split <;> simp

@[simp] theorem State.config_abortCalibration (s : State) (ch : Chan) :
    (s.abortCalibration ch).config = s.config := by
  unfold State.abortCalibration
  split <;> simp

@[simp] theorem State.pending_endEvaluation (s : State) (ch : Chan) (id : Nat) (v : CalVerdict) :
    (s.endEvaluation ch id v).pending = s.pending := by
  unfold State.endEvaluation
  simp [apply_ite State.pending]

@[simp] theorem State.session_endEvaluation (s : State) (ch : Chan) (id : Nat) (v : CalVerdict) :
    (s.endEvaluation ch id v).session = s.session := by
  unfold State.endEvaluation
  simp [apply_ite State.session]

@[simp] theorem State.store_endEvaluation (s : State) (ch : Chan) (id : Nat) (v : CalVerdict) :
    (s.endEvaluation ch id v).store = s.store := by
  unfold State.endEvaluation
  simp [apply_ite State.store]

@[simp] theorem State.comparisons_endEvaluation (s : State) (ch : Chan) (id : Nat) (v : CalVerdict) :
    (s.endEvaluation ch id v).comparisons = s.comparisons := by
  unfold State.endEvaluation
  simp [apply_ite State.comparisons]

@[simp] theorem State.config_endEvaluation (s : State) (ch : Chan) (id : Nat) (v : CalVerdict) :
    (s.endEvaluation ch id v).config = s.config := by
  unfold State.endEvaluation
  simp [apply_ite State.config]

@[simp] theorem State.pending_rejectCalibration (s : State) (ch : Chan) (a : Attempt) (reason : CalReject) :
    (s.rejectCalibration ch a reason).pending = s.pending := by
  unfold State.rejectCalibration
  simp

@[simp] theorem State.session_rejectCalibration (s : State) (ch : Chan) (a : Attempt) (reason : CalReject) :
    (s.rejectCalibration ch a reason).session = s.session := by
  unfold State.rejectCalibration
  simp

@[simp] theorem State.comparisons_rejectCalibration (s : State) (ch : Chan) (a : Attempt) (reason : CalReject) :
    (s.rejectCalibration ch a reason).comparisons = s.comparisons := by
  unfold State.rejectCalibration
  simp

@[simp] theorem State.config_rejectCalibration (s : State) (ch : Chan) (a : Attempt) (reason : CalReject) :
    (s.rejectCalibration ch a reason).config = s.config := by
  unfold State.rejectCalibration
  simp

@[simp] theorem State.pending_acceptCalibration (s : State) (ch : Chan) (a : Attempt) (f : Figures) :
    (s.acceptCalibration ch a f).pending = s.pending := by
  unfold State.acceptCalibration
  extract_lets
  (repeat' split) <;> simp +zetaDelta <;> (repeat' split) <;> simp

@[simp] theorem State.session_acceptCalibration (s : State) (ch : Chan) (a : Attempt) (f : Figures) :
    (s.acceptCalibration ch a f).session = s.session := by
  unfold State.acceptCalibration
  extract_lets
  (repeat' split) <;> simp +zetaDelta <;> (repeat' split) <;> simp

@[simp] theorem State.comparisons_acceptCalibration (s : State) (ch : Chan) (a : Attempt) (f : Figures) :
    (s.acceptCalibration ch a f).comparisons = s.comparisons := by
  unfold State.acceptCalibration
  extract_lets
  (repeat' split) <;> simp +zetaDelta <;> (repeat' split) <;> simp

@[simp] theorem State.config_acceptCalibration (s : State) (ch : Chan) (a : Attempt) (f : Figures) :
    (s.acceptCalibration ch a f).config = s.config := by
  unfold State.acceptCalibration
  extract_lets
  (repeat' split) <;> simp +zetaDelta <;> (repeat' split) <;> simp

/-! Frames of the operations of the Agreement Unit. -/

@[simp] theorem State.pending_dropComparison (s : State) (p : Pos) :
    (s.dropComparison p).pending = s.pending := by
  rfl

@[simp] theorem State.session_dropComparison (s : State) (p : Pos) :
    (s.dropComparison p).session = s.session := by
  rfl

@[simp] theorem State.channels_dropComparison (s : State) (p : Pos) :
    (s.dropComparison p).channels = s.channels := by
  rfl

@[simp] theorem State.store_dropComparison (s : State) (p : Pos) :
    (s.dropComparison p).store = s.store := by
  rfl

@[simp] theorem State.cal_dropComparison (s : State) (p : Pos) :
    (s.dropComparison p).cal = s.cal := by
  rfl

@[simp] theorem State.config_dropComparison (s : State) (p : Pos) :
    (s.dropComparison p).config = s.config := by
  rfl

@[simp] theorem State.stations_dropComparison (s : State) (p : Pos) :
    (s.dropComparison p).stations = s.stations := by
  rfl

@[simp] theorem State.pending_beginComparison (s : State) (c : Comparison) :
    (s.beginComparison c).pending = s.pending := by
  rfl

@[simp] theorem State.session_beginComparison (s : State) (c : Comparison) :
    (s.beginComparison c).session = s.session := by
  rfl

@[simp] theorem State.channels_beginComparison (s : State) (c : Comparison) :
    (s.beginComparison c).channels = s.channels := by
  rfl

@[simp] theorem State.store_beginComparison (s : State) (c : Comparison) :
    (s.beginComparison c).store = s.store := by
  rfl

@[simp] theorem State.cal_beginComparison (s : State) (c : Comparison) :
    (s.beginComparison c).cal = s.cal := by
  rfl

@[simp] theorem State.config_beginComparison (s : State) (c : Comparison) :
    (s.beginComparison c).config = s.config := by
  rfl

@[simp] theorem State.stations_beginComparison (s : State) (c : Comparison) :
    (s.beginComparison c).stations = s.stations := by
  rfl

@[simp] theorem State.pending_testComparison (s : State) (p : Pos) :
    (s.testComparison p).pending = s.pending := by
  unfold State.testComparison
  (repeat' split) <;> rfl

@[simp] theorem State.session_testComparison (s : State) (p : Pos) :
    (s.testComparison p).session = s.session := by
  unfold State.testComparison
  (repeat' split) <;> rfl

@[simp] theorem State.channels_testComparison (s : State) (p : Pos) :
    (s.testComparison p).channels = s.channels := by
  unfold State.testComparison
  (repeat' split) <;> rfl

@[simp] theorem State.store_testComparison (s : State) (p : Pos) :
    (s.testComparison p).store = s.store := by
  unfold State.testComparison
  (repeat' split) <;> rfl

@[simp] theorem State.cal_testComparison (s : State) (p : Pos) :
    (s.testComparison p).cal = s.cal := by
  unfold State.testComparison
  (repeat' split) <;> rfl

@[simp] theorem State.config_testComparison (s : State) (p : Pos) :
    (s.testComparison p).config = s.config := by
  unfold State.testComparison
  (repeat' split) <;> rfl

@[simp] theorem State.stations_testComparison (s : State) (p : Pos) :
    (s.testComparison p).stations = s.stations := by
  unfold State.testComparison
  (repeat' split) <;> rfl

@[simp] theorem State.pending_applyOutcome (s : State) (c : Comparison) :
    (s.applyOutcome c).pending = s.pending := by
  unfold State.applyOutcome
  (repeat' split) <;> simp

@[simp] theorem State.channels_applyOutcome (s : State) (c : Comparison) :
    (s.applyOutcome c).channels = s.channels := by
  unfold State.applyOutcome
  (repeat' split) <;> simp

@[simp] theorem State.cal_applyOutcome (s : State) (c : Comparison) :
    (s.applyOutcome c).cal = s.cal := by
  unfold State.applyOutcome
  (repeat' split) <;> simp

@[simp] theorem State.comparisons_applyOutcome (s : State) (c : Comparison) :
    (s.applyOutcome c).comparisons = s.comparisons := by
  unfold State.applyOutcome
  (repeat' split) <;> simp

@[simp] theorem State.config_applyOutcome (s : State) (c : Comparison) :
    (s.applyOutcome c).config = s.config := by
  unfold State.applyOutcome
  (repeat' split) <;> simp

/-! Frames of the work of a probe channel. -/

@[simp] theorem State.pending_createTraverse (s : State) (t : Traverse) :
    (s.createTraverse t).pending = s.pending := by
  rfl

@[simp] theorem State.channels_createTraverse (s : State) (t : Traverse) :
    (s.createTraverse t).channels = s.channels := by
  rfl

@[simp] theorem State.cal_createTraverse (s : State) (t : Traverse) :
    (s.createTraverse t).cal = s.cal := by
  rfl

@[simp] theorem State.comparisons_createTraverse (s : State) (t : Traverse) :
    (s.createTraverse t).comparisons = s.comparisons := by
  rfl

@[simp] theorem State.config_createTraverse (s : State) (t : Traverse) :
    (s.createTraverse t).config = s.config := by
  rfl

@[simp] theorem State.stations_createTraverse (s : State) (t : Traverse) :
    (s.createTraverse t).stations = s.stations := by
  rfl

@[simp] theorem State.pending_setUpPull (s : State) (ch : Chan) (id : Nat) (p : ScreenParams) :
    (s.setUpPull ch id p).pending = s.pending := by
  rfl

@[simp] theorem State.session_setUpPull (s : State) (ch : Chan) (id : Nat) (p : ScreenParams) :
    (s.setUpPull ch id p).session = s.session := by
  rfl

@[simp] theorem State.store_setUpPull (s : State) (ch : Chan) (id : Nat) (p : ScreenParams) :
    (s.setUpPull ch id p).store = s.store := by
  rfl

@[simp] theorem State.cal_setUpPull (s : State) (ch : Chan) (id : Nat) (p : ScreenParams) :
    (s.setUpPull ch id p).cal = s.cal := by
  rfl

@[simp] theorem State.comparisons_setUpPull (s : State) (ch : Chan) (id : Nat) (p : ScreenParams) :
    (s.setUpPull ch id p).comparisons = s.comparisons := by
  rfl

@[simp] theorem State.config_setUpPull (s : State) (ch : Chan) (id : Nat) (p : ScreenParams) :
    (s.setUpPull ch id p).config = s.config := by
  rfl

@[simp] theorem State.stations_setUpPull (s : State) (ch : Chan) (id : Nat) (p : ScreenParams) :
    (s.setUpPull ch id p).stations = s.stations := by
  rfl

@[simp] theorem State.pending_joinBracket (s : State) (ch : Chan) (id : Nat) :
    (s.joinBracket ch id).pending = s.pending := by
  unfold State.joinBracket
  (repeat' split) <;> simp

@[simp] theorem State.session_joinBracket (s : State) (ch : Chan) (id : Nat) :
    (s.joinBracket ch id).session = s.session := by
  unfold State.joinBracket
  (repeat' split) <;> simp

@[simp] theorem State.store_joinBracket (s : State) (ch : Chan) (id : Nat) :
    (s.joinBracket ch id).store = s.store := by
  unfold State.joinBracket
  (repeat' split) <;> simp

@[simp] theorem State.comparisons_joinBracket (s : State) (ch : Chan) (id : Nat) :
    (s.joinBracket ch id).comparisons = s.comparisons := by
  unfold State.joinBracket
  (repeat' split) <;> simp

@[simp] theorem State.config_joinBracket (s : State) (ch : Chan) (id : Nat) :
    (s.joinBracket ch id).config = s.config := by
  unfold State.joinBracket
  (repeat' split) <;> simp

@[simp] theorem State.pending_beginPull (s : State) (ch : Chan) (p : Pos) :
    (s.beginPull ch p).pending = s.pending := by
  unfold State.beginPull
  simp

@[simp] theorem State.comparisons_beginPull (s : State) (ch : Chan) (p : Pos) :
    (s.beginPull ch p).comparisons = s.comparisons := by
  unfold State.beginPull
  simp

@[simp] theorem State.config_beginPull (s : State) (ch : Chan) (p : Pos) :
    (s.beginPull ch p).config = s.config := by
  unfold State.beginPull
  simp

@[simp] theorem State.pending_beginCalibration (s : State) (ch : Chan) (id : Nat) (std : Standard) :
    (s.beginCalibration ch id std).pending = s.pending := by
  unfold State.beginCalibration
  simp

@[simp] theorem State.comparisons_beginCalibration (s : State) (ch : Chan) (id : Nat) (std : Standard) :
    (s.beginCalibration ch id std).comparisons = s.comparisons := by
  unfold State.beginCalibration
  simp

@[simp] theorem State.config_beginCalibration (s : State) (ch : Chan) (id : Nat) (std : Standard) :
    (s.beginCalibration ch id std).config = s.config := by
  unfold State.beginCalibration
  simp

@[simp] theorem State.pending_countLost (s : State) (ch : Chan) (id n : Nat) :
    (s.countLost ch id n).pending = s.pending := by
  rfl

@[simp] theorem State.session_countLost (s : State) (ch : Chan) (id n : Nat) :
    (s.countLost ch id n).session = s.session := by
  rfl

@[simp] theorem State.cal_countLost (s : State) (ch : Chan) (id n : Nat) :
    (s.countLost ch id n).cal = s.cal := by
  rfl

@[simp] theorem State.comparisons_countLost (s : State) (ch : Chan) (id n : Nat) :
    (s.countLost ch id n).comparisons = s.comparisons := by
  rfl

@[simp] theorem State.config_countLost (s : State) (ch : Chan) (id n : Nat) :
    (s.countLost ch id n).config = s.config := by
  rfl

@[simp] theorem State.stations_countLost (s : State) (ch : Chan) (id n : Nat) :
    (s.countLost ch id n).stations = s.stations := by
  rfl

@[simp] theorem State.pending_passFull (s : State) (ch : Chan) (i : BufId) :
    (s.passFull ch i).pending = s.pending := by
  unfold State.passFull
  simp [apply_ite State.pending]

@[simp] theorem State.session_passFull (s : State) (ch : Chan) (i : BufId) :
    (s.passFull ch i).session = s.session := by
  unfold State.passFull
  simp [apply_ite State.session]

@[simp] theorem State.cal_passFull (s : State) (ch : Chan) (i : BufId) :
    (s.passFull ch i).cal = s.cal := by
  unfold State.passFull
  simp [apply_ite State.cal]

@[simp] theorem State.comparisons_passFull (s : State) (ch : Chan) (i : BufId) :
    (s.passFull ch i).comparisons = s.comparisons := by
  unfold State.passFull
  simp [apply_ite State.comparisons]

@[simp] theorem State.config_passFull (s : State) (ch : Chan) (i : BufId) :
    (s.passFull ch i).config = s.config := by
  unfold State.passFull
  simp [apply_ite State.config]

@[simp] theorem State.pending_storeSample (s : State) (ch : Chan) (t : Traverse) (i : BufId) (r : Reading) :
    (s.storeSample ch t i r).pending = s.pending := by
  unfold State.storeSample
  extract_lets
  (repeat' split) <;> simp

@[simp] theorem State.session_storeSample (s : State) (ch : Chan) (t : Traverse) (i : BufId) (r : Reading) :
    (s.storeSample ch t i r).session = s.session := by
  unfold State.storeSample
  extract_lets
  (repeat' split) <;> simp

@[simp] theorem State.cal_storeSample (s : State) (ch : Chan) (t : Traverse) (i : BufId) (r : Reading) :
    (s.storeSample ch t i r).cal = s.cal := by
  unfold State.storeSample
  extract_lets
  (repeat' split) <;> simp

@[simp] theorem State.comparisons_storeSample (s : State) (ch : Chan) (t : Traverse) (i : BufId) (r : Reading) :
    (s.storeSample ch t i r).comparisons = s.comparisons := by
  unfold State.storeSample
  extract_lets
  (repeat' split) <;> simp

@[simp] theorem State.config_storeSample (s : State) (ch : Chan) (t : Traverse) (i : BufId) (r : Reading) :
    (s.storeSample ch t i r).config = s.config := by
  unfold State.storeSample
  extract_lets
  (repeat' split) <;> simp

@[simp] theorem State.pending_takeSample (s : State) (ch : Chan) (id seq missed : Nat) (r : Reading) :
    (s.takeSample ch id seq missed r).pending = s.pending := by
  unfold State.takeSample
  extract_lets
  (repeat' split) <;> simp +zetaDelta [apply_ite State.pending]

@[simp] theorem State.session_takeSample (s : State) (ch : Chan) (id seq missed : Nat) (r : Reading) :
    (s.takeSample ch id seq missed r).session = s.session := by
  unfold State.takeSample
  extract_lets
  (repeat' split) <;> simp +zetaDelta [apply_ite State.session]

@[simp] theorem State.cal_takeSample (s : State) (ch : Chan) (id seq missed : Nat) (r : Reading) :
    (s.takeSample ch id seq missed r).cal = s.cal := by
  unfold State.takeSample
  extract_lets
  (repeat' split) <;> simp +zetaDelta [apply_ite State.cal]

@[simp] theorem State.comparisons_takeSample (s : State) (ch : Chan) (id seq missed : Nat) (r : Reading) :
    (s.takeSample ch id seq missed r).comparisons = s.comparisons := by
  unfold State.takeSample
  extract_lets
  (repeat' split) <;> simp +zetaDelta [apply_ite State.comparisons]

@[simp] theorem State.config_takeSample (s : State) (ch : Chan) (id seq missed : Nat) (r : Reading) :
    (s.takeSample ch id seq missed r).config = s.config := by
  unfold State.takeSample
  extract_lets
  (repeat' split) <;> simp +zetaDelta [apply_ite State.config]

@[simp] theorem State.pending_offerSample (s : State) (ch : Chan) (t : Traverse) (seq : Nat) (r : Reading) :
    (s.offerSample ch t seq r).pending = s.pending := by
  unfold State.offerSample
  (repeat' split) <;> simp

@[simp] theorem State.session_offerSample (s : State) (ch : Chan) (t : Traverse) (seq : Nat) (r : Reading) :
    (s.offerSample ch t seq r).session = s.session := by
  unfold State.offerSample
  (repeat' split) <;> simp

@[simp] theorem State.cal_offerSample (s : State) (ch : Chan) (t : Traverse) (seq : Nat) (r : Reading) :
    (s.offerSample ch t seq r).cal = s.cal := by
  unfold State.offerSample
  (repeat' split) <;> simp

@[simp] theorem State.comparisons_offerSample (s : State) (ch : Chan) (t : Traverse) (seq : Nat) (r : Reading) :
    (s.offerSample ch t seq r).comparisons = s.comparisons := by
  unfold State.offerSample
  (repeat' split) <;> simp

@[simp] theorem State.config_offerSample (s : State) (ch : Chan) (t : Traverse) (seq : Nat) (r : Reading) :
    (s.offerSample ch t seq r).config = s.config := by
  unfold State.offerSample
  (repeat' split) <;> simp

@[simp] theorem State.pending_acquireTube (s : State) (p : Pos) (id : Nat) (ch : Chan) :
    (s.acquireTube p id ch).pending = s.pending := by
  unfold State.acquireTube
  simp

@[simp] theorem State.channels_acquireTube (s : State) (p : Pos) (id : Nat) (ch : Chan) :
    (s.acquireTube p id ch).channels = s.channels := by
  unfold State.acquireTube
  simp

@[simp] theorem State.store_acquireTube (s : State) (p : Pos) (id : Nat) (ch : Chan) :
    (s.acquireTube p id ch).store = s.store := by
  unfold State.acquireTube
  simp

@[simp] theorem State.cal_acquireTube (s : State) (p : Pos) (id : Nat) (ch : Chan) :
    (s.acquireTube p id ch).cal = s.cal := by
  unfold State.acquireTube
  simp

@[simp] theorem State.config_acquireTube (s : State) (p : Pos) (id : Nat) (ch : Chan) :
    (s.acquireTube p id ch).config = s.config := by
  unfold State.acquireTube
  simp

@[simp] theorem State.pending_completeTraverse (s : State) (t : Traverse) :
    (s.completeTraverse t).pending = s.pending := by
  unfold State.completeTraverse
  extract_lets
  (repeat' split) <;> simp

@[simp] theorem State.config_completeTraverse (s : State) (t : Traverse) :
    (s.completeTraverse t).config = s.config := by
  unfold State.completeTraverse
  extract_lets
  (repeat' split) <;> simp

@[simp] theorem State.pending_tryComplete (s : State) (id : Nat) :
    (s.tryComplete id).pending = s.pending := by
  unfold State.tryComplete
  (repeat' split) <;> simp

@[simp] theorem State.config_tryComplete (s : State) (id : Nat) :
    (s.tryComplete id).config = s.config := by
  unfold State.tryComplete
  (repeat' split) <;> simp

@[simp] theorem State.pending_finishPull (s : State) (ch : Chan) (id : Nat) (new : ChanState) :
    (s.finishPull ch id new).pending = s.pending := by
  unfold State.finishPull
  simp

@[simp] theorem State.config_finishPull (s : State) (ch : Chan) (id : Nat) (new : ChanState) :
    (s.finishPull ch id new).config = s.config := by
  unfold State.finishPull
  simp

@[simp] theorem State.pending_abortPull (s : State) (ch : Chan) (restriction report : Bool) :
    (s.abortPull ch restriction report).pending = s.pending := by
  unfold State.abortPull
  split <;> simp

@[simp] theorem State.cal_abortPull (s : State) (ch : Chan) (restriction report : Bool) :
    (s.abortPull ch restriction report).cal = s.cal := by
  unfold State.abortPull
  split <;> simp

@[simp] theorem State.comparisons_abortPull (s : State) (ch : Chan) (restriction report : Bool) :
    (s.abortPull ch restriction report).comparisons = s.comparisons := by
  unfold State.abortPull
  split <;> simp

@[simp] theorem State.config_abortPull (s : State) (ch : Chan) (restriction report : Bool) :
    (s.abortPull ch restriction report).config = s.config := by
  unfold State.abortPull
  split <;> simp

@[simp] theorem State.pending_loseWork (s : State) (ch : Chan) (was : ChanState) :
    (s.loseWork ch was).pending = s.pending := by
  unfold State.loseWork
  split <;> simp

@[simp] theorem State.comparisons_loseWork (s : State) (ch : Chan) (was : ChanState) :
    (s.loseWork ch was).comparisons = s.comparisons := by
  unfold State.loseWork
  split <;> simp

@[simp] theorem State.config_loseWork (s : State) (ch : Chan) (was : ChanState) :
    (s.loseWork ch was).config = s.config := by
  unfold State.loseWork
  split <;> simp

@[simp] theorem State.pending_loseLink (s : State) (ch : Chan) :
    (s.loseLink ch).pending = s.pending := by
  unfold State.loseLink
  simp

@[simp] theorem State.comparisons_loseLink (s : State) (ch : Chan) :
    (s.loseLink ch).comparisons = s.comparisons := by
  unfold State.loseLink
  simp

@[simp] theorem State.config_loseLink (s : State) (ch : Chan) :
    (s.loseLink ch).config = s.config := by
  unfold State.loseLink
  simp

@[simp] theorem State.pending_checkIdentity (s : State) (ch : Chan) (id : ProbeId) :
    (s.checkIdentity ch id).pending = s.pending := by
  unfold State.checkIdentity
  simp [apply_ite State.pending]

@[simp] theorem State.session_checkIdentity (s : State) (ch : Chan) (id : ProbeId) :
    (s.checkIdentity ch id).session = s.session := by
  unfold State.checkIdentity
  simp [apply_ite State.session]

@[simp] theorem State.comparisons_checkIdentity (s : State) (ch : Chan) (id : ProbeId) :
    (s.checkIdentity ch id).comparisons = s.comparisons := by
  unfold State.checkIdentity
  simp [apply_ite State.comparisons]

@[simp] theorem State.config_checkIdentity (s : State) (ch : Chan) (id : ProbeId) :
    (s.checkIdentity ch id).config = s.config := by
  unfold State.checkIdentity
  simp [apply_ite State.config]

@[simp] theorem State.pending_linkUp (s : State) (ch : Chan) (id : Identity) :
    (s.linkUp ch id).pending = s.pending := by
  unfold State.linkUp
  simp

@[simp] theorem State.session_linkUp (s : State) (ch : Chan) (id : Identity) :
    (s.linkUp ch id).session = s.session := by
  unfold State.linkUp
  simp

@[simp] theorem State.comparisons_linkUp (s : State) (ch : Chan) (id : Identity) :
    (s.linkUp ch id).comparisons = s.comparisons := by
  unfold State.linkUp
  simp

@[simp] theorem State.config_linkUp (s : State) (ch : Chan) (id : Identity) :
    (s.linkUp ch id).config = s.config := by
  unfold State.linkUp
  simp

@[simp] theorem State.pending_failWork (s : State) (ch : Chan) :
    (s.failWork ch).pending = s.pending := by
  unfold State.failWork
  (repeat' split) <;> simp

@[simp] theorem State.comparisons_failWork (s : State) (ch : Chan) :
    (s.failWork ch).comparisons = s.comparisons := by
  unfold State.failWork
  (repeat' split) <;> simp

@[simp] theorem State.config_failWork (s : State) (ch : Chan) :
    (s.failWork ch).config = s.config := by
  unfold State.failWork
  (repeat' split) <;> simp

@[simp] theorem State.pending_reportAborts (s : State) (ch : Chan) :
    (s.reportAborts ch).pending = s.pending := by
  unfold State.reportAborts
  exact foldl_frame _ (fun s => s.pending) (fun s id => State.pending_reportAbort s id) _ _

@[simp] theorem State.session_reportAborts (s : State) (ch : Chan) :
    (s.reportAborts ch).session = s.session := by
  unfold State.reportAborts
  exact foldl_frame _ (fun s => s.session) (fun s id => State.session_reportAbort s id) _ _

@[simp] theorem State.store_reportAborts (s : State) (ch : Chan) :
    (s.reportAborts ch).store = s.store := by
  unfold State.reportAborts
  exact foldl_frame _ (fun s => s.store) (fun s id => State.store_reportAbort s id) _ _

@[simp] theorem State.cal_reportAborts (s : State) (ch : Chan) :
    (s.reportAborts ch).cal = s.cal := by
  unfold State.reportAborts
  exact foldl_frame _ (fun s => s.cal) (fun s id => State.cal_reportAbort s id) _ _

@[simp] theorem State.comparisons_reportAborts (s : State) (ch : Chan) :
    (s.reportAborts ch).comparisons = s.comparisons := by
  unfold State.reportAborts
  exact foldl_frame _ (fun s => s.comparisons) (fun s id => State.comparisons_reportAbort s id) _ _

@[simp] theorem State.config_reportAborts (s : State) (ch : Chan) :
    (s.reportAborts ch).config = s.config := by
  unfold State.reportAborts
  exact foldl_frame _ (fun s => s.config) (fun s id => State.config_reportAbort s id) _ _

@[simp] theorem State.stations_reportAborts (s : State) (ch : Chan) :
    (s.reportAborts ch).stations = s.stations := by
  unfold State.reportAborts
  exact foldl_frame _ (fun s => s.stations) (fun s id => State.stations_reportAbort s id) _ _

@[simp] theorem State.pending_abortAndRest (s : State) (ch : Chan) (restriction : Bool) :
    (s.abortAndRest ch restriction).pending = s.pending := by
  unfold State.abortAndRest
  simp

@[simp] theorem State.cal_abortAndRest (s : State) (ch : Chan) (restriction : Bool) :
    (s.abortAndRest ch restriction).cal = s.cal := by
  unfold State.abortAndRest
  simp

@[simp] theorem State.comparisons_abortAndRest (s : State) (ch : Chan) (restriction : Bool) :
    (s.abortAndRest ch restriction).comparisons = s.comparisons := by
  unfold State.abortAndRest
  simp

@[simp] theorem State.config_abortAndRest (s : State) (ch : Chan) (restriction : Bool) :
    (s.abortAndRest ch restriction).config = s.config := by
  unfold State.abortAndRest
  simp

@[simp] theorem State.pending_failProbe (s : State) (ch : Chan) :
    (s.failProbe ch).pending = s.pending := by
  unfold State.failProbe
  simp [apply_ite State.pending]

@[simp] theorem State.comparisons_failProbe (s : State) (ch : Chan) :
    (s.failProbe ch).comparisons = s.comparisons := by
  unfold State.failProbe
  simp [apply_ite State.comparisons]

@[simp] theorem State.config_failProbe (s : State) (ch : Chan) :
    (s.failProbe ch).config = s.config := by
  unfold State.failProbe
  simp [apply_ite State.config]

/-! Frames of the station links and the configuration memory. -/

@[simp] theorem State.pending_stationFrame (s : State) (st : Stn) :
    (s.stationFrame st).pending = s.pending := by
  rfl

@[simp] theorem State.session_stationFrame (s : State) (st : Stn) :
    (s.stationFrame st).session = s.session := by
  rfl

@[simp] theorem State.channels_stationFrame (s : State) (st : Stn) :
    (s.stationFrame st).channels = s.channels := by
  rfl

@[simp] theorem State.store_stationFrame (s : State) (st : Stn) :
    (s.stationFrame st).store = s.store := by
  rfl

@[simp] theorem State.cal_stationFrame (s : State) (st : Stn) :
    (s.stationFrame st).cal = s.cal := by
  rfl

@[simp] theorem State.comparisons_stationFrame (s : State) (st : Stn) :
    (s.stationFrame st).comparisons = s.comparisons := by
  rfl

@[simp] theorem State.config_stationFrame (s : State) (st : Stn) :
    (s.stationFrame st).config = s.config := by
  rfl

@[simp] theorem State.pending_schedule (s : State) (st : Stn) :
    (s.schedule st).pending = s.pending := by
  rfl

@[simp] theorem State.session_schedule (s : State) (st : Stn) :
    (s.schedule st).session = s.session := by
  rfl

@[simp] theorem State.channels_schedule (s : State) (st : Stn) :
    (s.schedule st).channels = s.channels := by
  rfl

@[simp] theorem State.store_schedule (s : State) (st : Stn) :
    (s.schedule st).store = s.store := by
  rfl

@[simp] theorem State.cal_schedule (s : State) (st : Stn) :
    (s.schedule st).cal = s.cal := by
  rfl

@[simp] theorem State.comparisons_schedule (s : State) (st : Stn) :
    (s.schedule st).comparisons = s.comparisons := by
  rfl

@[simp] theorem State.config_schedule (s : State) (st : Stn) :
    (s.schedule st).config = s.config := by
  rfl

@[simp] theorem State.pending_arrive (s : State) (st : Stn) (r : QueuedRequest) :
    (s.arrive st r).pending = s.pending := by
  rfl

@[simp] theorem State.session_arrive (s : State) (st : Stn) (r : QueuedRequest) :
    (s.arrive st r).session = s.session := by
  rfl

@[simp] theorem State.channels_arrive (s : State) (st : Stn) (r : QueuedRequest) :
    (s.arrive st r).channels = s.channels := by
  rfl

@[simp] theorem State.store_arrive (s : State) (st : Stn) (r : QueuedRequest) :
    (s.arrive st r).store = s.store := by
  rfl

@[simp] theorem State.cal_arrive (s : State) (st : Stn) (r : QueuedRequest) :
    (s.arrive st r).cal = s.cal := by
  rfl

@[simp] theorem State.comparisons_arrive (s : State) (st : Stn) (r : QueuedRequest) :
    (s.arrive st r).comparisons = s.comparisons := by
  rfl

@[simp] theorem State.config_arrive (s : State) (st : Stn) (r : QueuedRequest) :
    (s.arrive st r).config = s.config := by
  rfl

@[simp] theorem State.pending_respond (s : State) (st : Stn) (tag name : Nat) (r : Reply) :
    (s.respond st tag name r).pending = s.pending := by
  rfl

@[simp] theorem State.session_respond (s : State) (st : Stn) (tag name : Nat) (r : Reply) :
    (s.respond st tag name r).session = s.session := by
  rfl

@[simp] theorem State.channels_respond (s : State) (st : Stn) (tag name : Nat) (r : Reply) :
    (s.respond st tag name r).channels = s.channels := by
  rfl

@[simp] theorem State.store_respond (s : State) (st : Stn) (tag name : Nat) (r : Reply) :
    (s.respond st tag name r).store = s.store := by
  rfl

@[simp] theorem State.cal_respond (s : State) (st : Stn) (tag name : Nat) (r : Reply) :
    (s.respond st tag name r).cal = s.cal := by
  rfl

@[simp] theorem State.comparisons_respond (s : State) (st : Stn) (tag name : Nat) (r : Reply) :
    (s.respond st tag name r).comparisons = s.comparisons := by
  rfl

@[simp] theorem State.config_respond (s : State) (st : Stn) (tag name : Nat) (r : Reply) :
    (s.respond st tag name r).config = s.config := by
  rfl

@[simp] theorem State.pending_pump (s : State) (st : Stn) :
    (s.pump st).pending = s.pending := by
  unfold State.pump
  (repeat' split) <;> simp [apply_ite State.pending]

@[simp] theorem State.session_pump (s : State) (st : Stn) :
    (s.pump st).session = s.session := by
  unfold State.pump
  (repeat' split) <;> simp [apply_ite State.session]

@[simp] theorem State.channels_pump (s : State) (st : Stn) :
    (s.pump st).channels = s.channels := by
  unfold State.pump
  (repeat' split) <;> simp [apply_ite State.channels]

@[simp] theorem State.cal_pump (s : State) (st : Stn) :
    (s.pump st).cal = s.cal := by
  unfold State.pump
  (repeat' split) <;> simp [apply_ite State.cal]

@[simp] theorem State.comparisons_pump (s : State) (st : Stn) :
    (s.pump st).comparisons = s.comparisons := by
  unfold State.pump
  (repeat' split) <;> simp [apply_ite State.comparisons]

@[simp] theorem State.config_pump (s : State) (st : Stn) :
    (s.pump st).config = s.config := by
  unfold State.pump
  (repeat' split) <;> simp [apply_ite State.config]

@[simp] theorem State.pending_abortStream (s : State) (st : Stn) :
    (s.abortStream st).pending = s.pending := by
  unfold State.abortStream
  split <;> simp

@[simp] theorem State.session_abortStream (s : State) (st : Stn) :
    (s.abortStream st).session = s.session := by
  unfold State.abortStream
  split <;> simp

@[simp] theorem State.channels_abortStream (s : State) (st : Stn) :
    (s.abortStream st).channels = s.channels := by
  unfold State.abortStream
  split <;> simp

@[simp] theorem State.cal_abortStream (s : State) (st : Stn) :
    (s.abortStream st).cal = s.cal := by
  unfold State.abortStream
  split <;> simp

@[simp] theorem State.comparisons_abortStream (s : State) (st : Stn) :
    (s.abortStream st).comparisons = s.comparisons := by
  unfold State.abortStream
  split <;> simp

@[simp] theorem State.config_abortStream (s : State) (st : Stn) :
    (s.abortStream st).config = s.config := by
  unfold State.abortStream
  split <;> simp

@[simp] theorem State.pending_loseStation (s : State) (st : Stn) :
    (s.loseStation st).pending = s.pending := by
  unfold State.loseStation
  extract_lets
  (repeat' split) <;> simp +zetaDelta <;> (repeat' split) <;> simp

@[simp] theorem State.session_loseStation (s : State) (st : Stn) :
    (s.loseStation st).session = s.session := by
  unfold State.loseStation
  extract_lets
  (repeat' split) <;> simp +zetaDelta <;> (repeat' split) <;> simp

@[simp] theorem State.channels_loseStation (s : State) (st : Stn) :
    (s.loseStation st).channels = s.channels := by
  unfold State.loseStation
  extract_lets
  (repeat' split) <;> simp +zetaDelta <;> (repeat' split) <;> simp

@[simp] theorem State.cal_loseStation (s : State) (st : Stn) :
    (s.loseStation st).cal = s.cal := by
  unfold State.loseStation
  extract_lets
  (repeat' split) <;> simp +zetaDelta <;> (repeat' split) <;> simp

@[simp] theorem State.comparisons_loseStation (s : State) (st : Stn) :
    (s.loseStation st).comparisons = s.comparisons := by
  unfold State.loseStation
  extract_lets
  (repeat' split) <;> simp +zetaDelta <;> (repeat' split) <;> simp

@[simp] theorem State.config_loseStation (s : State) (st : Stn) :
    (s.loseStation st).config = s.config := by
  unfold State.loseStation
  extract_lets
  (repeat' split) <;> simp +zetaDelta <;> (repeat' split) <;> simp

@[simp] theorem State.pending_endLoading (s : State) (image : List Byte) :
    (s.endLoading image).pending = s.pending := by
  rfl

@[simp] theorem State.session_endLoading (s : State) (image : List Byte) :
    (s.endLoading image).session = s.session := by
  rfl

@[simp] theorem State.channels_endLoading (s : State) (image : List Byte) :
    (s.endLoading image).channels = s.channels := by
  rfl

@[simp] theorem State.store_endLoading (s : State) (image : List Byte) :
    (s.endLoading image).store = s.store := by
  rfl

@[simp] theorem State.cal_endLoading (s : State) (image : List Byte) :
    (s.endLoading image).cal = s.cal := by
  rfl

@[simp] theorem State.comparisons_endLoading (s : State) (image : List Byte) :
    (s.endLoading image).comparisons = s.comparisons := by
  rfl

@[simp] theorem State.pending_setSave (s : State) (snapshot : Shadow) (step : SaveStep) :
    (s.setSave snapshot step).pending = s.pending := by
  rfl

@[simp] theorem State.session_setSave (s : State) (snapshot : Shadow) (step : SaveStep) :
    (s.setSave snapshot step).session = s.session := by
  rfl

@[simp] theorem State.channels_setSave (s : State) (snapshot : Shadow) (step : SaveStep) :
    (s.setSave snapshot step).channels = s.channels := by
  rfl

@[simp] theorem State.store_setSave (s : State) (snapshot : Shadow) (step : SaveStep) :
    (s.setSave snapshot step).store = s.store := by
  rfl

@[simp] theorem State.cal_setSave (s : State) (snapshot : Shadow) (step : SaveStep) :
    (s.setSave snapshot step).cal = s.cal := by
  rfl

@[simp] theorem State.comparisons_setSave (s : State) (snapshot : Shadow) (step : SaveStep) :
    (s.setSave snapshot step).comparisons = s.comparisons := by
  rfl

@[simp] theorem State.stations_setSave (s : State) (snapshot : Shadow) (step : SaveStep) :
    (s.setSave snapshot step).stations = s.stations := by
  rfl

@[simp] theorem State.pending_endSave (s : State) (r : SaveResult) :
    (s.endSave r).pending = s.pending := by
  rfl

@[simp] theorem State.session_endSave (s : State) (r : SaveResult) :
    (s.endSave r).session = s.session := by
  rfl

@[simp] theorem State.channels_endSave (s : State) (r : SaveResult) :
    (s.endSave r).channels = s.channels := by
  rfl

@[simp] theorem State.store_endSave (s : State) (r : SaveResult) :
    (s.endSave r).store = s.store := by
  rfl

@[simp] theorem State.cal_endSave (s : State) (r : SaveResult) :
    (s.endSave r).cal = s.cal := by
  rfl

@[simp] theorem State.comparisons_endSave (s : State) (r : SaveResult) :
    (s.endSave r).comparisons = s.comparisons := by
  rfl

@[simp] theorem State.pending_verified (s : State) (differs : Option Nat) :
    (s.verified differs).pending = s.pending := by
  unfold State.verified
  split <;> rfl

@[simp] theorem State.session_verified (s : State) (differs : Option Nat) :
    (s.verified differs).session = s.session := by
  unfold State.verified
  split <;> rfl

@[simp] theorem State.channels_verified (s : State) (differs : Option Nat) :
    (s.verified differs).channels = s.channels := by
  unfold State.verified
  split <;> rfl

@[simp] theorem State.store_verified (s : State) (differs : Option Nat) :
    (s.verified differs).store = s.store := by
  unfold State.verified
  split <;> rfl

@[simp] theorem State.cal_verified (s : State) (differs : Option Nat) :
    (s.verified differs).cal = s.cal := by
  unfold State.verified
  split <;> rfl

@[simp] theorem State.comparisons_verified (s : State) (differs : Option Nat) :
    (s.verified differs).comparisons = s.comparisons := by
  unfold State.verified
  split <;> rfl

@[simp] theorem State.pending_issueEnable (s : State) (snapshot : Shadow) (t : FlashTarget) :
    (s.issueEnable snapshot t).pending = s.pending := by
  unfold State.issueEnable
  split <;> rfl

@[simp] theorem State.session_issueEnable (s : State) (snapshot : Shadow) (t : FlashTarget) :
    (s.issueEnable snapshot t).session = s.session := by
  unfold State.issueEnable
  split <;> rfl

@[simp] theorem State.channels_issueEnable (s : State) (snapshot : Shadow) (t : FlashTarget) :
    (s.issueEnable snapshot t).channels = s.channels := by
  unfold State.issueEnable
  split <;> rfl

@[simp] theorem State.store_issueEnable (s : State) (snapshot : Shadow) (t : FlashTarget) :
    (s.issueEnable snapshot t).store = s.store := by
  unfold State.issueEnable
  split <;> rfl

@[simp] theorem State.cal_issueEnable (s : State) (snapshot : Shadow) (t : FlashTarget) :
    (s.issueEnable snapshot t).cal = s.cal := by
  unfold State.issueEnable
  split <;> rfl

@[simp] theorem State.comparisons_issueEnable (s : State) (snapshot : Shadow) (t : FlashTarget) :
    (s.issueEnable snapshot t).comparisons = s.comparisons := by
  unfold State.issueEnable
  split <;> rfl

@[simp] theorem State.pending_eraseTimedOut (s : State) :
    (s.eraseTimedOut).pending = s.pending := by
  unfold State.eraseTimedOut
  split <;> rfl

@[simp] theorem State.session_eraseTimedOut (s : State) :
    (s.eraseTimedOut).session = s.session := by
  unfold State.eraseTimedOut
  split <;> rfl

@[simp] theorem State.channels_eraseTimedOut (s : State) :
    (s.eraseTimedOut).channels = s.channels := by
  unfold State.eraseTimedOut
  split <;> rfl

@[simp] theorem State.store_eraseTimedOut (s : State) :
    (s.eraseTimedOut).store = s.store := by
  unfold State.eraseTimedOut
  split <;> rfl

@[simp] theorem State.cal_eraseTimedOut (s : State) :
    (s.eraseTimedOut).cal = s.cal := by
  unfold State.eraseTimedOut
  split <;> rfl

@[simp] theorem State.comparisons_eraseTimedOut (s : State) :
    (s.eraseTimedOut).comparisons = s.comparisons := by
  unfold State.eraseTimedOut
  split <;> rfl

@[simp] theorem State.pending_programTimedOut (s : State) :
    (s.programTimedOut).pending = s.pending := by
  unfold State.programTimedOut
  split <;> rfl

@[simp] theorem State.session_programTimedOut (s : State) :
    (s.programTimedOut).session = s.session := by
  unfold State.programTimedOut
  split <;> rfl

@[simp] theorem State.channels_programTimedOut (s : State) :
    (s.programTimedOut).channels = s.channels := by
  unfold State.programTimedOut
  split <;> rfl

@[simp] theorem State.store_programTimedOut (s : State) :
    (s.programTimedOut).store = s.store := by
  unfold State.programTimedOut
  split <;> rfl

@[simp] theorem State.cal_programTimedOut (s : State) :
    (s.programTimedOut).cal = s.cal := by
  unfold State.programTimedOut
  split <;> rfl

@[simp] theorem State.comparisons_programTimedOut (s : State) :
    (s.programTimedOut).comparisons = s.comparisons := by
  unfold State.programTimedOut
  split <;> rfl

@[simp] theorem State.pending_saveCommandEnd (s : State) (shown : Bool) (upset : List Host.Cell) :
    (s.saveCommandEnd shown upset).pending = s.pending := by
  unfold State.saveCommandEnd
  split
  · rfl
  · rename_i snapshot step ms h
    cases step with
    | start => exact State.pending_issueEnable ..
    | writeEnable t =>
      dsimp only
      split
      · exact State.pending_setSave ..
      · exact State.pending_endSave ..
    | erase => exact (State.pending_setSave ..).trans (State.pending_modConfig ..)
    | eraseWait =>
      dsimp only
      split
      · exact State.pending_issueEnable ..
      · rfl
    | program k => exact State.pending_setSave ..
    | programWait k =>
      dsimp only
      split
      · split
        · exact (State.pending_issueEnable ..).trans (State.pending_modConfig ..)
        · exact (State.pending_setSave ..).trans (State.pending_modConfig ..)
      · rfl
    | readBack => simp

@[simp] theorem State.session_saveCommandEnd (s : State) (shown : Bool) (upset : List Host.Cell) :
    (s.saveCommandEnd shown upset).session = s.session := by
  unfold State.saveCommandEnd
  split
  · rfl
  · rename_i snapshot step ms h
    cases step with
    | start => exact State.session_issueEnable ..
    | writeEnable t =>
      dsimp only
      split
      · exact State.session_setSave ..
      · exact State.session_endSave ..
    | erase => exact (State.session_setSave ..).trans (State.session_modConfig ..)
    | eraseWait =>
      dsimp only
      split
      · exact State.session_issueEnable ..
      · rfl
    | program k => exact State.session_setSave ..
    | programWait k =>
      dsimp only
      split
      · split
        · exact (State.session_issueEnable ..).trans (State.session_modConfig ..)
        · exact (State.session_setSave ..).trans (State.session_modConfig ..)
      · rfl
    | readBack => simp

@[simp] theorem State.channels_saveCommandEnd (s : State) (shown : Bool) (upset : List Host.Cell) :
    (s.saveCommandEnd shown upset).channels = s.channels := by
  unfold State.saveCommandEnd
  split
  · rfl
  · rename_i snapshot step ms h
    cases step with
    | start => exact State.channels_issueEnable ..
    | writeEnable t =>
      dsimp only
      split
      · exact State.channels_setSave ..
      · exact State.channels_endSave ..
    | erase => exact (State.channels_setSave ..).trans (State.channels_modConfig ..)
    | eraseWait =>
      dsimp only
      split
      · exact State.channels_issueEnable ..
      · rfl
    | program k => exact State.channels_setSave ..
    | programWait k =>
      dsimp only
      split
      · split
        · exact (State.channels_issueEnable ..).trans (State.channels_modConfig ..)
        · exact (State.channels_setSave ..).trans (State.channels_modConfig ..)
      · rfl
    | readBack => simp

@[simp] theorem State.store_saveCommandEnd (s : State) (shown : Bool) (upset : List Host.Cell) :
    (s.saveCommandEnd shown upset).store = s.store := by
  unfold State.saveCommandEnd
  split
  · rfl
  · rename_i snapshot step ms h
    cases step with
    | start => exact State.store_issueEnable ..
    | writeEnable t =>
      dsimp only
      split
      · exact State.store_setSave ..
      · exact State.store_endSave ..
    | erase => exact (State.store_setSave ..).trans (State.store_modConfig ..)
    | eraseWait =>
      dsimp only
      split
      · exact State.store_issueEnable ..
      · rfl
    | program k => exact State.store_setSave ..
    | programWait k =>
      dsimp only
      split
      · split
        · exact (State.store_issueEnable ..).trans (State.store_modConfig ..)
        · exact (State.store_setSave ..).trans (State.store_modConfig ..)
      · rfl
    | readBack => simp

@[simp] theorem State.cal_saveCommandEnd (s : State) (shown : Bool) (upset : List Host.Cell) :
    (s.saveCommandEnd shown upset).cal = s.cal := by
  unfold State.saveCommandEnd
  split
  · rfl
  · rename_i snapshot step ms h
    cases step with
    | start => exact State.cal_issueEnable ..
    | writeEnable t =>
      dsimp only
      split
      · exact State.cal_setSave ..
      · exact State.cal_endSave ..
    | erase => exact (State.cal_setSave ..).trans (State.cal_modConfig ..)
    | eraseWait =>
      dsimp only
      split
      · exact State.cal_issueEnable ..
      · rfl
    | program k => exact State.cal_setSave ..
    | programWait k =>
      dsimp only
      split
      · split
        · exact (State.cal_issueEnable ..).trans (State.cal_modConfig ..)
        · exact (State.cal_setSave ..).trans (State.cal_modConfig ..)
      · rfl
    | readBack => simp

@[simp] theorem State.comparisons_saveCommandEnd (s : State) (shown : Bool) (upset : List Host.Cell) :
    (s.saveCommandEnd shown upset).comparisons = s.comparisons := by
  unfold State.saveCommandEnd
  split
  · rfl
  · rename_i snapshot step ms h
    cases step with
    | start => exact State.comparisons_issueEnable ..
    | writeEnable t =>
      dsimp only
      split
      · exact State.comparisons_setSave ..
      · exact State.comparisons_endSave ..
    | erase => exact (State.comparisons_setSave ..).trans (State.comparisons_modConfig ..)
    | eraseWait =>
      dsimp only
      split
      · exact State.comparisons_issueEnable ..
      · rfl
    | program k => exact State.comparisons_setSave ..
    | programWait k =>
      dsimp only
      split
      · split
        · exact (State.comparisons_issueEnable ..).trans (State.comparisons_modConfig ..)
        · exact (State.comparisons_setSave ..).trans (State.comparisons_modConfig ..)
      · rfl
    | readBack => simp

/-! Frames of the acts of the commands. -/

@[simp] theorem State.pending_takeClaim (s : State) (ch : Chan) (row col : Nat) :
    (s.takeClaim ch row col).pending = s.pending := by
  unfold State.takeClaim
  split <;> simp

@[simp] theorem State.cal_takeClaim (s : State) (ch : Chan) (row col : Nat) :
    (s.takeClaim ch row col).cal = s.cal := by
  unfold State.takeClaim
  split <;> simp

@[simp] theorem State.comparisons_takeClaim (s : State) (ch : Chan) (row col : Nat) :
    (s.takeClaim ch row col).comparisons = s.comparisons := by
  unfold State.takeClaim
  split <;> simp

@[simp] theorem State.config_takeClaim (s : State) (ch : Chan) (row col : Nat) :
    (s.takeClaim ch row col).config = s.config := by
  unfold State.takeClaim
  split <;> simp

@[simp] theorem State.pending_endClaimAndRest (s : State) (ch : Chan) (restriction : Bool) :
    (s.endClaimAndRest ch restriction).pending = s.pending := by
  unfold State.endClaimAndRest
  simp

@[simp] theorem State.cal_endClaimAndRest (s : State) (ch : Chan) (restriction : Bool) :
    (s.endClaimAndRest ch restriction).cal = s.cal := by
  unfold State.endClaimAndRest
  simp

@[simp] theorem State.comparisons_endClaimAndRest (s : State) (ch : Chan) (restriction : Bool) :
    (s.endClaimAndRest ch restriction).comparisons = s.comparisons := by
  unfold State.endClaimAndRest
  simp

@[simp] theorem State.config_endClaimAndRest (s : State) (ch : Chan) (restriction : Bool) :
    (s.endClaimAndRest ch restriction).config = s.config := by
  unfold State.endClaimAndRest
  simp

@[simp] theorem State.pending_takePullStart (s : State) (ch : Chan) :
    (s.takePullStart ch).pending = s.pending := by
  unfold State.takePullStart
  (repeat' split) <;> simp

@[simp] theorem State.comparisons_takePullStart (s : State) (ch : Chan) :
    (s.takePullStart ch).comparisons = s.comparisons := by
  unfold State.takePullStart
  (repeat' split) <;> simp

@[simp] theorem State.config_takePullStart (s : State) (ch : Chan) :
    (s.takePullStart ch).config = s.config := by
  unfold State.takePullStart
  (repeat' split) <;> simp

@[simp] theorem State.pending_takeCalStart (s : State) (ch : Chan) (std : Nat) :
    (s.takeCalStart ch std).pending = s.pending := by
  unfold State.takeCalStart
  split <;> simp

@[simp] theorem State.comparisons_takeCalStart (s : State) (ch : Chan) (std : Nat) :
    (s.takeCalStart ch std).comparisons = s.comparisons := by
  unfold State.takeCalStart
  split <;> simp

@[simp] theorem State.config_takeCalStart (s : State) (ch : Chan) (std : Nat) :
    (s.takeCalStart ch std).config = s.config := by
  unfold State.takeCalStart
  split <;> simp

@[simp] theorem State.pending_freeBuffer (s : State) (ch : Chan) (i : BufId) :
    (s.freeBuffer ch i).pending = s.pending := by
  unfold State.freeBuffer
  simp [apply_ite State.pending]

@[simp] theorem State.session_freeBuffer (s : State) (ch : Chan) (i : BufId) :
    (s.freeBuffer ch i).session = s.session := by
  unfold State.freeBuffer
  simp [apply_ite State.session]

@[simp] theorem State.cal_freeBuffer (s : State) (ch : Chan) (i : BufId) :
    (s.freeBuffer ch i).cal = s.cal := by
  unfold State.freeBuffer
  simp [apply_ite State.cal]

@[simp] theorem State.comparisons_freeBuffer (s : State) (ch : Chan) (i : BufId) :
    (s.freeBuffer ch i).comparisons = s.comparisons := by
  unfold State.freeBuffer
  simp [apply_ite State.comparisons]

@[simp] theorem State.config_freeBuffer (s : State) (ch : Chan) (i : BufId) :
    (s.freeBuffer ch i).config = s.config := by
  unfold State.freeBuffer
  simp [apply_ite State.config]

@[simp] theorem State.pending_writeEnded (s : State) (ch : Chan) (i : BufId) (traverse : Option Nat) (page : Nat) (bytes : List Byte) :
    (s.writeEnded ch i traverse page bytes).pending = s.pending := by
  unfold State.writeEnded
  split <;> simp

@[simp] theorem State.config_writeEnded (s : State) (ch : Chan) (i : BufId) (traverse : Option Nat) (page : Nat) (bytes : List Byte) :
    (s.writeEnded ch i traverse page bytes).config = s.config := by
  unfold State.writeEnded
  split <;> simp

@[simp] theorem State.pending_fetchEnded (s : State) (st : Stn) (page seq : Nat) (deliver : Bool) (bytes : List Byte) :
    (s.fetchEnded st page seq deliver bytes).pending = s.pending := by
  unfold State.fetchEnded
  split <;> simp

@[simp] theorem State.session_fetchEnded (s : State) (st : Stn) (page seq : Nat) (deliver : Bool) (bytes : List Byte) :
    (s.fetchEnded st page seq deliver bytes).session = s.session := by
  unfold State.fetchEnded
  split <;> simp

@[simp] theorem State.channels_fetchEnded (s : State) (st : Stn) (page seq : Nat) (deliver : Bool) (bytes : List Byte) :
    (s.fetchEnded st page seq deliver bytes).channels = s.channels := by
  unfold State.fetchEnded
  split <;> simp

@[simp] theorem State.cal_fetchEnded (s : State) (st : Stn) (page seq : Nat) (deliver : Bool) (bytes : List Byte) :
    (s.fetchEnded st page seq deliver bytes).cal = s.cal := by
  unfold State.fetchEnded
  split <;> simp

@[simp] theorem State.comparisons_fetchEnded (s : State) (st : Stn) (page seq : Nat) (deliver : Bool) (bytes : List Byte) :
    (s.fetchEnded st page seq deliver bytes).comparisons = s.comparisons := by
  unfold State.fetchEnded
  split <;> simp

@[simp] theorem State.config_fetchEnded (s : State) (st : Stn) (page seq : Nat) (deliver : Bool) (bytes : List Byte) :
    (s.fetchEnded st page seq deliver bytes).config = s.config := by
  unfold State.fetchEnded
  split <;> simp

@[simp] theorem State.pending_presentFail (s : State) (n id : Nat) :
    (s.presentFail n id).pending = s.pending := by
  unfold State.presentFail
  (repeat' split) <;> simp

@[simp] theorem State.channels_presentFail (s : State) (n id : Nat) :
    (s.presentFail n id).channels = s.channels := by
  unfold State.presentFail
  (repeat' split) <;> simp

@[simp] theorem State.comparisons_presentFail (s : State) (n id : Nat) :
    (s.presentFail n id).comparisons = s.comparisons := by
  unfold State.presentFail
  (repeat' split) <;> simp

@[simp] theorem State.config_presentFail (s : State) (n id : Nat) :
    (s.presentFail n id).config = s.config := by
  unfold State.presentFail
  (repeat' split) <;> simp

@[simp] theorem State.pending_presentGood (s : State) (id : Nat) :
    (s.presentGood id).pending = s.pending := by
  unfold State.presentGood
  (repeat' split) <;> simp

@[simp] theorem State.session_presentGood (s : State) (id : Nat) :
    (s.presentGood id).session = s.session := by
  unfold State.presentGood
  (repeat' split) <;> simp

@[simp] theorem State.channels_presentGood (s : State) (id : Nat) :
    (s.presentGood id).channels = s.channels := by
  unfold State.presentGood
  (repeat' split) <;> simp

@[simp] theorem State.store_presentGood (s : State) (id : Nat) :
    (s.presentGood id).store = s.store := by
  unfold State.presentGood
  (repeat' split) <;> simp

@[simp] theorem State.cal_presentGood (s : State) (id : Nat) :
    (s.presentGood id).cal = s.cal := by
  unfold State.presentGood
  (repeat' split) <;> simp

@[simp] theorem State.config_presentGood (s : State) (id : Nat) :
    (s.presentGood id).config = s.config := by
  unfold State.presentGood
  (repeat' split) <;> simp

@[simp] theorem State.stations_presentGood (s : State) (id : Nat) :
    (s.presentGood id).stations = s.stations := by
  unfold State.presentGood
  (repeat' split) <;> simp

@[simp] theorem State.pending_refreshPermits (s : State) :
    (s.refreshPermits).pending = s.pending := by
  unfold State.refreshPermits
  simp

@[simp] theorem State.session_refreshPermits (s : State) :
    (s.refreshPermits).session = s.session := by
  unfold State.refreshPermits
  simp

@[simp] theorem State.store_refreshPermits (s : State) :
    (s.refreshPermits).store = s.store := by
  unfold State.refreshPermits
  simp

@[simp] theorem State.cal_refreshPermits (s : State) :
    (s.refreshPermits).cal = s.cal := by
  unfold State.refreshPermits
  simp

@[simp] theorem State.comparisons_refreshPermits (s : State) :
    (s.refreshPermits).comparisons = s.comparisons := by
  unfold State.refreshPermits
  simp

@[simp] theorem State.config_refreshPermits (s : State) :
    (s.refreshPermits).config = s.config := by
  unfold State.refreshPermits
  simp

@[simp] theorem State.stations_refreshPermits (s : State) :
    (s.refreshPermits).stations = s.stations := by
  unfold State.refreshPermits
  simp

@[simp] theorem State.pending_closeStream (s : State) (st : Stn) :
    (s.closeStream st).pending = s.pending := by
  unfold State.closeStream
  extract_lets
  (repeat' split) <;> simp +zetaDelta

@[simp] theorem State.session_closeStream (s : State) (st : Stn) :
    (s.closeStream st).session = s.session := by
  unfold State.closeStream
  extract_lets
  (repeat' split) <;> simp +zetaDelta

@[simp] theorem State.channels_closeStream (s : State) (st : Stn) :
    (s.closeStream st).channels = s.channels := by
  unfold State.closeStream
  extract_lets
  (repeat' split) <;> simp +zetaDelta

@[simp] theorem State.cal_closeStream (s : State) (st : Stn) :
    (s.closeStream st).cal = s.cal := by
  unfold State.closeStream
  extract_lets
  (repeat' split) <;> simp +zetaDelta

@[simp] theorem State.comparisons_closeStream (s : State) (st : Stn) :
    (s.closeStream st).comparisons = s.comparisons := by
  unfold State.closeStream
  extract_lets
  (repeat' split) <;> simp +zetaDelta

@[simp] theorem State.config_closeStream (s : State) (st : Stn) :
    (s.closeStream st).config = s.config := by
  unfold State.closeStream
  extract_lets
  (repeat' split) <;> simp +zetaDelta

@[simp] theorem State.pending_closeClaim (s : State) (ch : Chan) :
    (s.closeClaim ch).pending = s.pending := by
  unfold State.closeClaim
  split <;> simp

@[simp] theorem State.cal_closeClaim (s : State) (ch : Chan) :
    (s.closeClaim ch).cal = s.cal := by
  unfold State.closeClaim
  split <;> simp

@[simp] theorem State.comparisons_closeClaim (s : State) (ch : Chan) :
    (s.closeClaim ch).comparisons = s.comparisons := by
  unfold State.closeClaim
  split <;> simp

@[simp] theorem State.config_closeClaim (s : State) (ch : Chan) :
    (s.closeClaim ch).config = s.config := by
  unfold State.closeClaim
  split <;> simp

@[simp] theorem State.pending_closePull (s : State) (t : Traverse) :
    (s.closePull t).pending = s.pending := by
  unfold State.closePull
  split <;> simp

@[simp] theorem State.channels_closePull (s : State) (t : Traverse) :
    (s.closePull t).channels = s.channels := by
  unfold State.closePull
  split <;> simp

@[simp] theorem State.cal_closePull (s : State) (t : Traverse) :
    (s.closePull t).cal = s.cal := by
  unfold State.closePull
  split <;> simp

@[simp] theorem State.comparisons_closePull (s : State) (t : Traverse) :
    (s.closePull t).comparisons = s.comparisons := by
  unfold State.closePull
  split <;> simp

@[simp] theorem State.config_closePull (s : State) (t : Traverse) :
    (s.closePull t).config = s.config := by
  unfold State.closePull
  split <;> simp

@[simp] theorem State.pending_dropLanes (s : State) :
    (s.dropLanes).pending = s.pending := by
  rfl

@[simp] theorem State.session_dropLanes (s : State) :
    (s.dropLanes).session = s.session := by
  rfl

@[simp] theorem State.channels_dropLanes (s : State) :
    (s.dropLanes).channels = s.channels := by
  rfl

@[simp] theorem State.cal_dropLanes (s : State) :
    (s.dropLanes).cal = s.cal := by
  rfl

@[simp] theorem State.comparisons_dropLanes (s : State) :
    (s.dropLanes).comparisons = s.comparisons := by
  rfl

@[simp] theorem State.config_dropLanes (s : State) :
    (s.dropLanes).config = s.config := by
  rfl

@[simp] theorem State.stations_dropLanes (s : State) :
    (s.dropLanes).stations = s.stations := by
  rfl

@[simp] theorem State.pending_closeAttempt (s : State) (ch : Chan) :
    (s.closeAttempt ch).pending = s.pending := by
  unfold State.closeAttempt
  split <;> simp

@[simp] theorem State.session_closeAttempt (s : State) (ch : Chan) :
    (s.closeAttempt ch).session = s.session := by
  unfold State.closeAttempt
  split <;> simp

@[simp] theorem State.channels_closeAttempt (s : State) (ch : Chan) :
    (s.closeAttempt ch).channels = s.channels := by
  unfold State.closeAttempt
  split <;> simp

@[simp] theorem State.comparisons_closeAttempt (s : State) (ch : Chan) :
    (s.closeAttempt ch).comparisons = s.comparisons := by
  unfold State.closeAttempt
  split <;> simp

@[simp] theorem State.config_closeAttempt (s : State) (ch : Chan) :
    (s.closeAttempt ch).config = s.config := by
  unfold State.closeAttempt
  split <;> simp

@[simp] theorem State.pending_closeChannel (s : State) (ch : Chan) :
    (s.closeChannel ch).pending = s.pending := by
  unfold State.closeChannel
  split <;> simp

@[simp] theorem State.session_closeChannel (s : State) (ch : Chan) :
    (s.closeChannel ch).session = s.session := by
  unfold State.closeChannel
  split <;> simp

@[simp] theorem State.store_closeChannel (s : State) (ch : Chan) :
    (s.closeChannel ch).store = s.store := by
  unfold State.closeChannel
  split <;> simp

@[simp] theorem State.cal_closeChannel (s : State) (ch : Chan) :
    (s.closeChannel ch).cal = s.cal := by
  unfold State.closeChannel
  split <;> simp

@[simp] theorem State.comparisons_closeChannel (s : State) (ch : Chan) :
    (s.closeChannel ch).comparisons = s.comparisons := by
  unfold State.closeChannel
  split <;> simp

@[simp] theorem State.config_closeChannel (s : State) (ch : Chan) :
    (s.closeChannel ch).config = s.config := by
  unfold State.closeChannel
  split <;> simp

@[simp] theorem State.pending_clearSession (s : State) :
    (s.clearSession).pending = s.pending := by
  rfl

@[simp] theorem State.config_clearSession (s : State) :
    (s.clearSession).config = s.config := by
  rfl

@[simp] theorem State.stations_clearSession (s : State) :
    (s.clearSession).stations = s.stations := by
  rfl

@[simp] theorem State.pending_finishClose (s : State) (e : Event) :
    (s.finishClose e).pending = s.pending := by
  unfold State.finishClose
  simp

@[simp] theorem State.config_finishClose (s : State) (e : Event) :
    (s.finishClose e).config = s.config := by
  unfold State.finishClose
  simp

@[simp] theorem State.pending_modPlan (s : State) (f : Plan → Plan) :
    (s.modPlan f).pending = s.pending := by
  rfl

@[simp] theorem State.channels_modPlan (s : State) (f : Plan → Plan) :
    (s.modPlan f).channels = s.channels := by
  rfl

@[simp] theorem State.store_modPlan (s : State) (f : Plan → Plan) :
    (s.modPlan f).store = s.store := by
  rfl

@[simp] theorem State.cal_modPlan (s : State) (f : Plan → Plan) :
    (s.modPlan f).cal = s.cal := by
  rfl

@[simp] theorem State.comparisons_modPlan (s : State) (f : Plan → Plan) :
    (s.modPlan f).comparisons = s.comparisons := by
  rfl

@[simp] theorem State.config_modPlan (s : State) (f : Plan → Plan) :
    (s.modPlan f).config = s.config := by
  rfl

@[simp] theorem State.stations_modPlan (s : State) (f : Plan → Plan) :
    (s.modPlan f).stations = s.stations := by
  rfl

@[simp] theorem State.pending_takeAbandon (s : State) (ch : Chan) (restriction : Bool) :
    (s.takeAbandon ch restriction).pending = s.pending := by
  unfold State.takeAbandon
  split <;> simp

@[simp] theorem State.comparisons_takeAbandon (s : State) (ch : Chan) (restriction : Bool) :
    (s.takeAbandon ch restriction).comparisons = s.comparisons := by
  unfold State.takeAbandon
  split <;> simp

@[simp] theorem State.config_takeAbandon (s : State) (ch : Chan) (restriction : Bool) :
    (s.takeAbandon ch restriction).config = s.config := by
  unfold State.takeAbandon
  split <;> simp

theorem State.pending_sweepStep (s : State) (n : Nat) (verdict : BracketState)
    (present : State → Nat → State) (h : ∀ s id, (present s id).pending = s.pending) :
    (s.sweepStep n verdict present).pending = s.pending := by
  unfold State.sweepStep
  (repeat' split) <;> simp [h]

theorem State.config_sweepStep (s : State) (n : Nat) (verdict : BracketState)
    (present : State → Nat → State) (h : ∀ s id, (present s id).config = s.config) :
    (s.sweepStep n verdict present).config = s.config := by
  unfold State.sweepStep
  (repeat' split) <;> simp [h]

@[simp] theorem State.pending_endWork (s : State) : s.endWork.pending = s.pending := by
  unfold State.endWork
  simp [foldl_frame State.closePull State.pending (fun s t => State.pending_closePull s t)]

@[simp] theorem State.config_endWork (s : State) : s.endWork.config = s.config := by
  unfold State.endWork
  simp [foldl_frame State.closePull State.config (fun s t => State.config_closePull s t)]

end Sys2Proof.Machine
end

