-- ==== Sys2Proof/Laws/Ops.lean ====
section
/-! SUPPORT. What the shared operations do, each said once: the acceptance of arrivals, the beginning and
the answering of requests, the sending of a frame, and the tables of tubes and traverses. -/

namespace Sys2Proof.Machine

/-! Replacing what is already there. -/

@[simp] theorem Four.set_get {α : Type} (f : Four α) (i : Chan) : f.set i (f.get i) = f := by
  match i with
  | 0 => rfl
  | 1 => rfl
  | 2 => rfl
  | 3 => rfl

@[simp] theorem Four.set_set {α : Type} (f : Four α) (i : Chan) (v w : α) :
    (f.set i v).set i w = f.set i w := by
  match i with
  | 0 => rfl
  | 1 => rfl
  | 2 => rfl
  | 3 => rfl

@[simp] theorem Three.set_get {α : Type} (f : Three α) (i : Stn) : f.set i (f.get i) = f := by
  match i with
  | 0 => rfl
  | 1 => rfl
  | 2 => rfl

@[simp] theorem Three.set_set {α : Type} (f : Three α) (i : Stn) (v w : α) :
    (f.set i v).set i w = f.set i w := by
  match i with
  | 0 => rfl
  | 1 => rfl
  | 2 => rfl

/-! Arrivals. -/

/-- Out of reset an arrival acts whole. -/
theorem State.act_awake (s : State) (f : State → State) (h : s.awake) : s.act f = .next (f s) := by
  simp [State.act, h]

/-- On an up link a valid probe frame restarts the silence timer and acts. -/
theorem State.probeFrame_up (s : State) (ch : Chan) (f : State → State) (h : s.probeUp ch) :
    s.probeFrame ch f = .next (f (s.hearProbe ch)) := by
  unfold State.probeFrame
  rw [State.act_awake _ _ h.1, if_neg h.2]
  rfl

/-- On an up link a frame is sent. -/
theorem State.sendProbe_up (s : State) (ch : Chan) (f : ProbeOut) (h : (s.chan ch).state ≠ .offline) :
    s.sendProbe ch f = s.sentOn ch f := by
  unfold State.chan at h
  simp [State.sendProbe, State.modChan, State.sentOn, h]

@[simp] theorem State.chan_hearProbe_self (s : State) (ch : Chan) :
    (s.hearProbe ch).chan ch = { s.chan ch with silenceMs := 0 } := by
  simp [State.hearProbe, State.chan]

@[simp] theorem State.session_hearProbe (s : State) (ch : Chan) :
    (s.hearProbe ch).session = s.session := rfl
@[simp] theorem State.store_hearProbe (s : State) (ch : Chan) :
    (s.hearProbe ch).store = s.store := rfl
@[simp] theorem State.cal_hearProbe (s : State) (ch : Chan) : (s.hearProbe ch).cal = s.cal := rfl
@[simp] theorem State.config_hearProbe (s : State) (ch : Chan) :
    (s.hearProbe ch).config = s.config := rfl

/-! Requests. -/

/-- What a controller may begin, as the model tests it. -/
theorem State.begins_iff (s : State) (st : Stn) (r : QueuedRequest) :
    s.begins st r = true ↔ s.mayBegin st r.tag r.req := by
  unfold State.begins
  simp [State.mayBegin, and_assoc]

/-- A request that its controller may begin is executed in the same act. -/
theorem State.takeRequest_begun (s : State) (st : Stn) (tag : Nat) (req : Request)
    (run : State → State) (h : s.mayBegin st tag req) :
    s.takeRequest st tag req run = .next (run (s.begun st)) := by
  have hb : s.begins st ⟨tag, req⟩ = true := (State.begins_iff s st ⟨tag, req⟩).2 h
  have ha : s.awake := by
    intro hr
    exact absurd (hr.symm.trans h.1) (by decide)
  unfold State.takeRequest
  rw [State.act_awake _ _ ha]
  simp only [hb, if_true]
  rfl

/-- The next frame chosen on a link whose request in hand has just produced one. -/
theorem StationLink.schedule_reply (x : StationLink) (f : StationOut) :
    StationLink.schedule { x with reply := some f } = x.withReply f := by
  unfold StationLink.schedule StationLink.withReply StationLink.put
  rcases x with ⟨_, _, _, _, _, _, queueFull, _, line, _, _, _, _, _⟩
  cases line <;> cases queueFull <;> simp

/-- The answer to the request in hand. -/
theorem State.respond_eq (s : State) (st : Stn) (tag name : Nat) (r : Reply) :
    s.respond st tag name r = s.answered st tag name r.status r.content := by
  unfold State.respond State.answered State.modStn
  simp only [StationLink.schedule_reply]

/-- A request that its controller may begin is answered in the same act. -/
theorem State.request_begun (s : State) (st : Stn) (tag : Nat) (req : Request)
    (body : State → State × Reply) (h : s.mayBegin st tag req) :
    s.request st tag req body = .next ((body (s.begun st)).1.answered st tag (requestCode req)
      (body (s.begun st)).2.status (body (s.begun st)).2.content) := by
  unfold State.request
  rw [State.takeRequest_begun s st tag req _ h]
  simp only [State.respond_eq]

@[simp] theorem State.stn_begun_self (s : State) (st : Stn) :
    (s.begun st).stn st = { s.stn st with inHand := true } := by
  simp [State.begun, State.stn]

theorem State.stn_begun_other (s : State) (st k : Stn) (h : k ≠ st) :
    (s.begun st).stn k = s.stn k := by
  simp [State.begun, State.stn, Three.get_set_other, h]

@[simp] theorem State.session_begun (s : State) (st : Stn) : (s.begun st).session = s.session := rfl
@[simp] theorem State.channels_begun (s : State) (st : Stn) : (s.begun st).channels = s.channels := rfl
@[simp] theorem State.chan_begun (s : State) (st : Stn) (ch : Chan) :
    (s.begun st).chan ch = s.chan ch := rfl
@[simp] theorem State.store_begun (s : State) (st : Stn) : (s.begun st).store = s.store := rfl
@[simp] theorem State.cal_begun (s : State) (st : Stn) : (s.begun st).cal = s.cal := rfl
@[simp] theorem State.comparisons_begun (s : State) (st : Stn) :
    (s.begun st).comparisons = s.comparisons := rfl
@[simp] theorem State.config_begun (s : State) (st : Stn) : (s.begun st).config = s.config := rfl
@[simp] theorem State.tube_begun (s : State) (st : Stn) (p : Pos) :
    (s.begun st).tube? p = s.tube? p := rfl
@[simp] theorem State.trav_begun (s : State) (st : Stn) (id : Nat) :
    (s.begun st).trav? id = s.trav? id := rfl

/-- A lead's request runs its body on the lead's station. -/
theorem State.leadRequest_begun (s : State) (st : Stn) (tag : Nat) (req : Request)
    (body : State → State × Reply) (h : s.leadBegins st tag req) :
    s.leadRequest st tag req body = .next ((body (s.begun st)).1.answered st tag (requestCode req)
      (body (s.begun st)).2.status (body (s.begun st)).2.content) := by
  unfold State.leadRequest
  rw [State.request_begun s st tag req _ h.1]
  simp [State.forLead, State.forRole, h.2]

/-- A lead's request from another role is refused. -/
theorem State.leadRequest_wrongRole (s : State) (st : Stn) (tag : Nat) (req : Request)
    (body : State → State × Reply) (h : s.mayBegin st tag req) (hr : (s.stn st).role ≠ some .lead) :
    s.leadRequest st tag req body =
      .next ((s.begun st).answered st tag (requestCode req) .wrongRole .none) := by
  unfold State.leadRequest
  rw [State.request_begun s st tag req _ h]
  have : (s.stn st).role.any (· == Role.lead) = false := by
    rcases hx : (s.stn st).role with _ | r
    · rfl
    · cases r with
      | lead => exact absurd hx hr
      | primary => rfl
      | secondary => rfl
  simp [State.forLead, State.forRole, this, Reply.refuse]

/-! The tables. -/

/-- The entry found at a position stands at that position. -/
theorem State.tube_pos (s : State) (p : Pos) (e : TubeEntry) (h : s.tube? p = some e) : e.pos = p := by
  have := List.find?_some h
  simpa using this

/-- The traverse found by an id bears it. -/
theorem State.trav_id (s : State) (id : Nat) (t : Traverse) (h : s.trav? id = some t) : t.id = id := by
  have := List.find?_some h
  simpa using this

/-- An entry is moved in the table and in the counters at once. -/
theorem State.moveTube_eq (s : State) (p : Pos) (new : TubeState) (f : TubeEntry → TubeEntry)
    (x : Session) (e : TubeEntry) (hx : s.session = some x) (he : s.tube? p = some e) :
    s.moveTube p new f =
      { s with
        session := some (x.updTube p
          (fun t => { f t with pos := t.pos, state := new, changed := x.seconds })
          (x.counts.move e.state new)) } := by
  unfold State.moveTube
  rw [he]
  simp [State.modTube, State.modSession, hx, Session.updTube, State.time, State.time?]

/-- A traverse's entry is changed wherever its id stands. -/
theorem State.modTrav_eq (s : State) (id : Nat) (f : Traverse → Traverse) :
    s.modTrav id f = { s with store := s.store.updTrav id f } := rfl

/-- A changed entry that keeps its id is found in place of the old one. -/
theorem State.trav_modTrav_self (s : State) (id : Nat) (f : Traverse → Traverse) (t : Traverse)
    (hf : ∀ u, (f u).id = u.id) (h : s.trav? id = some t) : (s.modTrav id f).trav? id = some (f t) := by
  unfold State.modTrav State.trav? State.modStore at *
  simp only [List.find?_map]
  have hc : ((fun t : Traverse => t.id == id) ∘ fun t : Traverse => if t.id = id then f t else t)
      = fun t : Traverse => t.id == id := by
    funext u
    by_cases hu : u.id = id <;> simp [hu, hf]
  rw [hc, h]
  have := List.find?_some h
  simp at this
  simp [this]

/-- READ_TRAVERSE carries window counts exactly while finalisation has set no lists (R88). -/
theorem Traverse.windowCounts_eq_some (t : Traverse) (x : Nat × Nat) :
    t.windowCounts = some x ↔ t.landmarks = none ∧ x = (t.opened, t.closed) := by
  cases h : t.landmarks <;> simp [Traverse.windowCounts, h, eq_comm]

/-- Other entries are found as they were. -/
theorem State.trav_modTrav_other (s : State) (id n : Nat) (f : Traverse → Traverse)
    (hf : ∀ u, (f u).id = u.id) (h : n ≠ id) : (s.modTrav id f).trav? n = s.trav? n := by
  unfold State.modTrav State.trav? State.modStore
  simp only [List.find?_map]
  have hc : ((fun t : Traverse => t.id == n) ∘ fun t : Traverse => if t.id = id then f t else t)
      = fun t : Traverse => t.id == n := by
    funext u
    by_cases hu : u.id = id <;> simp [hu, hf]
  rw [hc]
  cases hx : s.store.directory.find? (fun t => t.id == n) with
  | none => simp
  | some t =>
    have := List.find?_some hx
    simp at this
    simp [this, h]

/-! The running save. -/

/-- A started save runs against the shadow, with nothing issued and no rise of the pin during it (R188). -/
theorem State.startSave_eq (s : State) :
    s.startSave =
      { s with config := { s.config with save := .running s.config.shadow .start 0, protectRose := false } } :=
  rfl

/-- The test before a write enable (R190): the pin, and its rise since the save began, end the save. -/
theorem State.issueEnable_eq (s : State) (snapshot : Shadow) (t : FlashTarget) :
    s.issueEnable snapshot t =
      if s.config.cfgProtect || s.config.protectRose then s.endSave (.failed (.cfgProtect t))
      else s.setSave snapshot (.writeEnable t) := rfl

@[simp] theorem ConfigMem.barred_eq_false (x : ConfigMem) :
    x.barred = false ↔ x.cfgProtect = false ∧ x.protectRose = false := by
  simp [ConfigMem.barred]

@[simp] theorem ConfigMem.barred_eq_true (x : ConfigMem) :
    x.barred = true ↔ x.cfgProtect = true ∨ x.protectRose = true := by
  simp [ConfigMem.barred]

end Sys2Proof.Machine
end

