-- ==== Sys2Proof/Laws/Arbiter.lean ====
section
/-! SUPPORT. The store arbiter, said once (R78, R79): whose turn it is, what a grant does, and how the port
passes on; and events raised in order. -/

namespace Sys2Proof.Machine

/-! Events raised in order. -/

@[simp] theorem State.raiseAll_nil (s : State) : s.raiseAll [] = s := rfl

theorem State.raiseAll_append (s : State) (es fs : List Event) :
    s.raiseAll (es ++ fs) = (s.raiseAll es).raiseAll fs := List.foldl_append ..

/-! Whose turn it is (R78). -/

/-- The order in which the arbiter looks at the lanes is the order of their turns (R78). -/
theorem chansAfter_find (last ch : Chan) (p : Chan → Bool) :
    (chansAfter last).find? p = some ch ↔
      p ch = true ∧ ∀ j, writeTurn last j < writeTurn last ch → p j = false := by
  have key : ∀ last ch : Chan, ∀ a b c d : Bool,
      ((chansAfter last).find? fun j => (Four.mk a b c d).get j) = some ch ↔
        (Four.mk a b c d).get ch = true
          ∧ ∀ j, writeTurn last j < writeTurn last ch → (Four.mk a b c d).get j = false := by decide
  have hp : p = fun j => (Four.mk (p 0) (p 1) (p 2) (p 3)).get j := by
    funext j
    match j with
    | 0 => rfl
    | 1 => rfl
    | 2 => rfl
    | 3 => rfl
  rw [hp]
  exact key last ch _ _ _ _

/-- The order in which the arbiter looks at the read ports is the order of their turns (R78). -/
theorem stnsAfter_find (last st : Stn) (p : Stn → Bool) :
    (stnsAfter last).find? p = some st ↔
      p st = true ∧ ∀ j, fetchTurn last j < fetchTurn last st → p j = false := by
  have key : ∀ last st : Stn, ∀ a b c : Bool,
      ((stnsAfter last).find? fun j => (Three.mk a b c).get j) = some st ↔
        (Three.mk a b c).get st = true
          ∧ ∀ j, fetchTurn last j < fetchTurn last st → (Three.mk a b c).get j = false := by decide
  have hp : p = fun j => (Three.mk (p 0) (p 1) (p 2)).get j := by
    funext j
    match j with
    | 0 => rfl
    | 1 => rfl
    | 2 => rfl
  rw [hp]
  exact key last st _ _ _

/-- Every lane has its place in the order. -/
theorem mem_chansAfter : ∀ last ch : Chan, ch ∈ chansAfter last := by decide

/-- Every read port has its place in the order. -/
theorem mem_stnsAfter : ∀ last st : Stn, st ∈ stnsAfter last := by decide

/-- The lane the arbiter chooses (R78). -/
theorem Store.nextLane_eq_some (x : Store) (ch : Chan) :
    x.nextLane = some ch ↔ x.lanes.get ch ≠ []
      ∧ ∀ j, writeTurn x.lastWrite j < writeTurn x.lastWrite ch → x.lanes.get j = [] := by
  simp [Store.nextLane, chansAfter_find]

/-- No lane is chosen exactly when every lane is empty (R78). -/
theorem Store.nextLane_eq_none (x : Store) : x.nextLane = none ↔ ∀ ch, x.lanes.get ch = [] := by
  simp [Store.nextLane, mem_chansAfter]

/-- The read port the arbiter chooses (R78). -/
theorem State.nextFetch_eq_some (s : State) (st : Stn) :
    s.nextFetch = some st ↔ (s.stn st).fetchWaiting = true
      ∧ ∀ j, fetchTurn s.store.lastFetch j < fetchTurn s.store.lastFetch st →
          (s.stn j).fetchWaiting = false := by
  simp [State.nextFetch, stnsAfter_find]

/-- No read port is chosen exactly when none waits (R78). -/
theorem State.nextFetch_eq_none (s : State) :
    s.nextFetch = none ↔ ∀ st, (s.stn st).fetchWaiting = false := by
  simp [State.nextFetch, mem_stnsAfter]

/-! What a grant does (R78, R79). -/

/-- A write granted from a pool that is not empty, of a live traverse (R79). -/
theorem State.grantWrite_eq (s : State) (ch : Chan) (e : LaneEntry) (rest : List LaneEntry) (page : Nat)
    (pool : List PageRun) (u : Traverse) (he : s.store.lanes.get ch = e :: rest)
    (hp : poolPop s.store.pool = some (page, pool)) (hu : s.trav? e.traverse = some u) :
    s.grantWrite ch =
      (s.modTrav e.traverse fun t =>
        { t with pages := t.pages ++ [page], reservation := t.reservation - 1 }).modStore fun x =>
          { x with
            pool := pool, reservedPages := x.reservedPages - 1, lanes := x.lanes.set ch rest
            lastWrite := ch
            port := .write ch e.buf (some e.traverse) page
              (pageImage u u.pages.length e ((s.chan ch).buf e.buf) s.time) } := by
  simp only [State.grantWrite, he, hp, hu]

/-- What the arbiter does at a free port, said once (R78): the first lane in turn, else the first read port
in turn, else nothing. -/
theorem State.arbitrate_cases (s : State) (h : s.store.port = .free) :
    (∃ ch e rest, s.writeDue s.store.lanes ch e rest ∧ s.arbitrate = s.grantWrite ch)
    ∨ ((∀ ch, s.store.lanes.get ch = [])
        ∧ ((∃ st, (s.stn st).fetchWaiting = true
              ∧ (∀ j, fetchTurn s.store.lastFetch j < fetchTurn s.store.lastFetch st →
                  (s.stn j).fetchWaiting = false) ∧ s.arbitrate = s.grantFetch st)
          ∨ ((∀ st, (s.stn st).fetchWaiting = false) ∧ s.arbitrate = s))) := by
  unfold State.arbitrate
  rw [h]
  cases hl : s.store.nextLane with
  | some ch =>
    obtain ⟨hne, hj⟩ := (Store.nextLane_eq_some _ _).1 hl
    obtain ⟨e, rest, he⟩ := List.exists_cons_of_ne_nil hne
    exact .inl ⟨ch, e, rest, ⟨he, hj⟩, rfl⟩
  | none =>
    refine .inr ⟨(Store.nextLane_eq_none _).1 hl, ?_⟩
    cases hf : s.nextFetch with
    | some st => exact .inl ⟨st, ((s.nextFetch_eq_some st).1 hf).1, ((s.nextFetch_eq_some st).1 hf).2, rfl⟩
    | none => exact .inr ⟨s.nextFetch_eq_none.1 hf, rfl⟩

/-- A busy port grants nothing (R78). -/
theorem State.arbitrate_busy (s : State) (h : s.store.port ≠ .free) : s.arbitrate = s := by
  unfold State.arbitrate
  split
  · contradiction
  · rfl

/-- At most one lane has its turn. -/
theorem State.writeDue_unique (s : State) (lanes : Four (List LaneEntry)) (a b : Chan)
    (e f : LaneEntry) (r q : List LaneEntry) (ha : s.writeDue lanes a e r)
    (hb : s.writeDue lanes b f q) : a = b ∧ e = f ∧ r = q := by
  have hab : a = b := by
    rcases Nat.lt_trichotomy (writeTurn s.store.lastWrite a) (writeTurn s.store.lastWrite b) with h | h | h
    · have := hb.2 a h
      simp [ha.1] at this
    · exact (by decide : ∀ l a b : Chan, writeTurn l a = writeTurn l b → a = b) _ _ _ h
    · have := ha.2 b h
      simp [hb.1] at this
  subst hab
  have := ha.1.symm.trans hb.1
  simp at this
  exact ⟨rfl, this⟩

/-- The arbiter leaves the page buffers as they are. -/
theorem State.chan_grantWrite (s : State) (ch k : Chan) : (s.grantWrite ch).chan k = s.chan k := by
  simp [State.chan]

/-- A granted fetch (R78, R173): the port carries the next page of the stream, which is FETCHING. -/
theorem State.grantFetch_eq (s : State) (st : Stn) (r : Stream) (h : (s.stn st).stream = some r) :
    s.grantFetch st =
      (s.modStream st fun r => { r with fetch := .fetching }).modStore fun x =>
        { x with
          port := .fetch st (((s.trav? r.traverse).bind fun t => t.pages[r.next]?).getD 0) r.next true
          lastFetch := st } := by
  simp only [State.grantFetch, h]

/-- A station whose fetch waits has a stream. -/
theorem StationLink.fetchWaiting_stream (x : StationLink) (h : x.fetchWaiting = true) :
    ∃ r, x.stream = some r ∧ r.fetch = .waiting := by
  unfold StationLink.fetchWaiting at h
  cases hr : x.stream with
  | none => simp [hr] at h
  | some r => exact ⟨r, rfl, by simpa [hr] using h⟩

/-- At a free port the arbiter makes the port pass on as R78 says. -/
theorem State.arbitrate_portPassesOn (s : State) (h : s.store.port = .free) :
    s.portPassesOn s.arbitrate s.store.lanes fun st => (s.stn st).fetchWaiting := by
  rcases s.arbitrate_cases h with ⟨ch, e, rest, hd, ha⟩ | ⟨he, ⟨st, hw, hj, ha⟩ | ⟨hn, ha⟩⟩
  · constructor
    · intro k f q page pool u hk hp hu
      obtain ⟨rfl, rfl, rfl⟩ := s.writeDue_unique _ _ _ _ _ _ _ hk hd
      rw [ha, State.chan_grantWrite, s.grantWrite_eq k f q page pool u hk.1 hp hu]
      exact ⟨rfl, rfl, rfl, rfl⟩
    · intro hall
      have := hd.1.symm.trans (hall ch)
      simp at this
  · obtain ⟨r, hr, -⟩ := StationLink.fetchWaiting_stream _ hw
    rw [ha, s.grantFetch_eq st r hr]
    refine ⟨fun k f q _ _ _ hk => absurd (hk.1.symm.trans (he k)) (by simp), fun _ =>
      ⟨rfl, rfl, fun k hk hjk => ?_, fun hall => absurd (hall st) (by simp [hw])⟩⟩
    obtain rfl : k = st := by
      rcases Nat.lt_trichotomy (fetchTurn s.store.lastFetch k) (fetchTurn s.store.lastFetch st)
        with hlt | heq | hlt
      · simp [hj k hlt] at hk
      · exact (by decide : ∀ l a b : Stn, fetchTurn l a = fetchTurn l b → a = b) _ _ _ heq
      · simp [hjk st hlt] at hw
    refine ⟨rfl, { r with fetch := .fetching }, ?_, rfl, rfl⟩
    unfold State.stn at hr
    simp [State.modStream, State.modStn, State.modStore, State.stn, hr]
  · rw [ha]
    exact ⟨fun k f q _ _ _ hk => absurd (hk.1.symm.trans (he k)) (by simp), fun _ =>
      ⟨rfl, rfl, fun k hk => absurd (hn k) (by simp [hk]), fun _ => ⟨h, rfl⟩⟩⟩

/-- At a free port the arbiter takes what a granted write takes, and nothing else. -/
theorem State.arbitrate_pageTaken (s : State) (h : s.store.port = .free) :
    s.pageTaken s.arbitrate s.store.lanes [] 0 := by
  rcases s.arbitrate_cases h with ⟨ch, e, rest, hd, ha⟩ | ⟨he, ⟨st, hw, -, ha⟩ | ⟨-, ha⟩⟩
  · refine ⟨fun k f q page pool u hk hp hu => ?_, fun hall => absurd (hd.1.symm.trans (hall ch)) (by simp)⟩
    obtain ⟨rfl, rfl, rfl⟩ := s.writeDue_unique _ _ _ _ _ _ _ hk hd
    rw [ha, s.grantWrite_eq k f q page pool u hk.1 hp hu]
    exact ⟨rfl, rfl, _, s.trav_modTrav_self f.traverse _ u (fun _ => rfl) hu, rfl, rfl⟩
  · obtain ⟨r, hr, -⟩ := StationLink.fetchWaiting_stream _ hw
    rw [ha, s.grantFetch_eq st r hr]
    exact ⟨fun k f q _ _ _ hk => absurd (hk.1.symm.trans (he k)) (by simp), fun _ => ⟨rfl, rfl⟩⟩
  · rw [ha]
    exact ⟨fun k f q _ _ _ hk => absurd (hk.1.symm.trans (he k)) (by simp), fun _ => ⟨rfl, rfl⟩⟩

end Sys2Proof.Machine
end

