-- ==== Sys2Proof/Laws/Direction.lean ====
section
/-! SUPPORT. The fixed point of `beyond` decides exactly: for a vector with components of at most 65,535
it says on which side of an odd twentieth of a degree the true direction lies (log entry 10). The sines
and cosines follow a chain of turns by two twentieths, each within a bound; and between two fractions
that are neighbours no vector of the part lies, so that the bound is never reached. -/

namespace Sys2Proof.Laws

open Sys2Proof.Machine Complex

/-! What the kernel evaluates. -/

/-- Two fractions a/b < tan < c/d that are neighbours, found by steps of the mediant while b + d is
at most 65,535. -/
def neighbours (sn cs : Nat) : Nat → Nat → Nat → Nat → Nat → Nat × Nat × Nat × Nat
  | 0, a, b, c, d => (a, b, c, d)
  | fuel + 1, a, b, c, d =>
    if 65535 < b + d then (a, b, c, d)
    else
      let k0 := (b * sn - a * cs - 1) / (c * cs - d * sn)
      let k := if d = 0 then k0 else min k0 ((65535 - b) / d)
      let a := a + k * c
      let b := b + k * d
      if 65535 < b + d then (a, b, c, d)
      else
        let m := min ((c * cs - d * sn - 1) / (b * sn - a * cs)) ((65535 - d) / b)
        neighbours sn cs fuel a b (c + m * a) (d + m * b)

/-- The tangent of `u` twentieths lies between two neighbours with a margin of 10^-16. -/
def apart (u : Nat) : Bool :=
  let sn := (fixSin u).toNat
  let cs := (fixCos u).toNat
  let f := neighbours sn cs 12 0 1 1 0
  let a := f.1
  let b := f.2.1
  let c := f.2.2.1
  let d := f.2.2.2
  decide ((sn : Int) = fixSin u) && decide ((cs : Int) = fixCos u)
    && decide (c * b = a * d + 1 ∧ 65535 < b + d ∧ 0 < b ∧ 0 < d)
    && decide (a * cs + 10 ^ 14 * (a + b) < b * sn ∧ d * sn + 10 ^ 14 * (c + d) < c * cs)

/-- A turn by two twentieths takes the fixed point of `u` to that of `u + 2`, within 10^-27. -/
def turns (u : Nat) : Bool :=
  decide ((fixSin (u + 2) * fixOne - (fixSin u * fixCos 2 + fixCos u * fixSin 2)).natAbs
      ≤ 1000 * fixOne)
    && decide ((fixCos (u + 2) * fixOne - (fixCos u * fixCos 2 - fixSin u * fixSin 2)).natAbs
      ≤ 1000 * fixOne)

theorem all_apart : (List.range 900).all (fun k => apart (2 * k + 1)) = true := by decide +kernel

theorem all_turn : (List.range 899).all (fun k => turns (2 * k + 1)) = true := by decide +kernel

/-! The chain of turns. -/

theorem turn_close (x q cs sn e : ℝ) (hx : |x - q| ≤ e) (he : e ≤ 1) (hq0 : 0 ≤ q) (hq : q ≤ 1 / 500)
    (hc : |1 - q ^ 2 / 2 + q ^ 4 / 24 - q ^ 6 / 720 - cs| ≤ 10⁻¹ ^ 22)
    (hs : |q - q ^ 3 / 6 + q ^ 5 / 120 - q ^ 7 / 5040 - sn| ≤ 10⁻¹ ^ 22) :
    ‖exp (x * I) - (cs + sn * I)‖ ≤ 2 * e + 4 * 10⁻¹ ^ 22 := by
  have hn : ‖(q : ℂ) * I‖ = q := by
    rw [norm_mul, norm_I, mul_one, norm_real, Real.norm_of_nonneg hq0]
  have h1 := exp_bound (x := (q : ℂ) * I) (by rw [hn]; linarith) (n := 8) (by norm_num)
  rw [hn] at h1
  have h2 : ‖exp (x * I) - exp (q * I)‖ ≤ 2 * e := by
    have : exp (x * I) - exp (q * I) = exp (q * I) * (exp (((x - q : ℝ) : ℂ) * I) - 1) := by
      rw [mul_sub, ← exp_add]; push_cast; ring_nf
    rw [this, norm_mul, norm_exp_ofReal_mul_I, one_mul]
    have hd : ‖((x - q : ℝ) : ℂ) * I‖ = |x - q| := by
      rw [norm_mul, norm_I, mul_one, norm_real, Real.norm_eq_abs]
    refine (norm_exp_sub_one_le (by rw [hd]; linarith)).trans ?_
    rw [hd]; linarith
  have h3 : ∑ m ∈ Finset.range 8, ((q : ℂ) * I) ^ m / m.factorial
      = ((1 - q ^ 2 / 2 + q ^ 4 / 24 - q ^ 6 / 720 : ℝ) : ℂ)
        + ((q - q ^ 3 / 6 + q ^ 5 / 120 - q ^ 7 / 5040 : ℝ) : ℂ) * I := by
    have i2 : I ^ 2 = -1 := I_sq
    have i3 : I ^ 3 = -I := by rw [pow_succ, i2]; ring
    have i4 : I ^ 4 = 1 := by rw [pow_succ, i3]; simp
    have i5 : I ^ 5 = I := by rw [pow_succ, i4]; ring
    have i6 : I ^ 6 = -1 := by rw [pow_succ, i5]; simp
    have i7 : I ^ 7 = -I := by rw [pow_succ, i6]; ring
    simp only [Finset.sum_range_succ, Finset.sum_range_zero, mul_pow, i2, i3, i4, i5, i6, i7,
      Nat.factorial]
    push_cast
    ring
  rw [h3] at h1
  have h4 : ‖((1 - q ^ 2 / 2 + q ^ 4 / 24 - q ^ 6 / 720 : ℝ) : ℂ)
        + ((q - q ^ 3 / 6 + q ^ 5 / 120 - q ^ 7 / 5040 : ℝ) : ℂ) * I - (cs + sn * I)‖
      ≤ 2 * 10⁻¹ ^ 22 := by
    have : ((1 - q ^ 2 / 2 + q ^ 4 / 24 - q ^ 6 / 720 : ℝ) : ℂ)
        + ((q - q ^ 3 / 6 + q ^ 5 / 120 - q ^ 7 / 5040 : ℝ) : ℂ) * I - (cs + sn * I)
        = ((1 - q ^ 2 / 2 + q ^ 4 / 24 - q ^ 6 / 720 - cs : ℝ) : ℂ)
          + ((q - q ^ 3 / 6 + q ^ 5 / 120 - q ^ 7 / 5040 - sn : ℝ) : ℂ) * I := by
      push_cast; ring
    rw [this]
    refine (norm_add_le _ _).trans ?_
    rw [norm_mul, norm_I, mul_one, norm_real, norm_real, Real.norm_eq_abs, Real.norm_eq_abs]
    linarith
  have h5 : q ^ 8 * ((Nat.succ 8 : ℝ) * ((Nat.factorial 8 : ℝ) * (8 : ℕ))⁻¹) ≤ 2 * 10⁻¹ ^ 22 := by
    have : q ^ 8 ≤ (1 / 500) ^ 8 := by gcongr
    norm_num [Nat.factorial] at this ⊢
    linarith
  calc _ ≤ ‖exp (x * I) - exp (q * I)‖ + ‖exp (q * I) - (((1 - q ^ 2 / 2 + q ^ 4 / 24 - q ^ 6 / 720 : ℝ) : ℂ)
        + ((q - q ^ 3 / 6 + q ^ 5 / 120 - q ^ 7 / 5040 : ℝ) : ℂ) * I)‖
        + ‖((1 - q ^ 2 / 2 + q ^ 4 / 24 - q ^ 6 / 720 : ℝ) : ℂ)
        + ((q - q ^ 3 / 6 + q ^ 5 / 120 - q ^ 7 / 5040 : ℝ) : ℂ) * I - (cs + sn * I)‖ := by
        refine le_trans (le_of_eq ?_) (norm_add₃_le ..)
        congr 1; ring
    _ ≤ _ := by linarith

/-- The fixed point of `u` twentieths as a point of the plane. -/
noncomputable def point (u : ℕ) : ℂ := ((fixCos u : ℝ) / 10 ^ 30 : ℝ) + ((fixSin u : ℝ) / 10 ^ 30 : ℝ) * I

noncomputable def turn : ℝ := Real.pi / 3600

theorem point_one : ‖exp ((1 * turn : ℝ) * I) - point 1‖ ≤ 10⁻¹ ^ 21 := by
  have h1 : fixSin 1 = 872664515235149543304589300 := by decide +kernel
  have h2 : fixCos 1 = 999999619228249431137709674042 := by decide +kernel
  have hp1 := Real.pi_gt_d20
  have hp2 := Real.pi_lt_d20
  refine (turn_close (1 * turn) (3.14159265358979323846 / 3600) _ _ (10⁻¹ ^ 23) ?_ ?_ ?_ ?_ ?_ ?_).trans ?_
  · unfold turn; rw [abs_le]; constructor <;> norm_num at * <;> linarith
  · norm_num
  · norm_num
  · norm_num
  · rw [h2]; norm_num [abs_le]
  · rw [h1]; norm_num [abs_le]
  · norm_num

theorem point_two : ‖exp ((2 * turn : ℝ) * I) - point 2‖ ≤ 10⁻¹ ^ 21 := by
  have h1 : fixSin 2 = 1745328365898308835778202721 := by decide +kernel
  have h2 : fixCos 2 = 999998476913287698802901247926 := by decide +kernel
  have hp1 := Real.pi_gt_d20
  have hp2 := Real.pi_lt_d20
  refine (turn_close (2 * turn) (3.14159265358979323846 / 1800) _ _ (10⁻¹ ^ 23) ?_ ?_ ?_ ?_ ?_ ?_).trans ?_
  · unfold turn; rw [abs_le]; constructor <;> norm_num at * <;> linarith
  · norm_num
  · norm_num
  · norm_num
  · rw [h2]; norm_num [abs_le]
  · rw [h1]; norm_num [abs_le]
  · norm_num

theorem small_of_natAbs (x : ℤ) (h : x.natAbs ≤ 1000 * fixOne) : |(x : ℝ) / 10 ^ 60| ≤ 10⁻¹ ^ 27 := by
  rw [abs_div, abs_of_pos (a := (10 : ℝ) ^ 60) (by positivity), div_le_iff₀ (by positivity)]
  have : ((x.natAbs : ℤ) : ℝ) ≤ ((1000 * fixOne : ℕ) : ℤ) := by exact_mod_cast h
  rw [Int.natCast_natAbs] at this
  push_cast [fixOne] at this
  norm_num at *
  linarith

theorem point_step (u : ℕ) (h : turns u = true) : ‖point u * point 2 - point (u + 2)‖ ≤ 2 * 10⁻¹ ^ 27 := by
  simp only [turns, Bool.and_eq_true, decide_eq_true_eq] at h
  have hs := small_of_natAbs _ h.1
  have hc := small_of_natAbs _ h.2
  have : point u * point 2 - point (u + 2)
      = ((-(((fixCos (u + 2) * fixOne - (fixCos u * fixCos 2 - fixSin u * fixSin 2) : ℤ) : ℝ) / 10 ^ 60) : ℝ) : ℂ)
        + ((-(((fixSin (u + 2) * fixOne - (fixSin u * fixCos 2 + fixCos u * fixSin 2) : ℤ) : ℝ) / 10 ^ 60) : ℝ) : ℂ) * I := by
    simp only [point, fixOne]
    push_cast
    linear_combination ((fixSin u : ℂ) / 10 ^ 30) * ((fixSin 2 : ℂ) / 10 ^ 30) * I_sq
  rw [this]
  refine (norm_add_le _ _).trans ?_
  rw [norm_mul, norm_I, mul_one, norm_real, norm_real, Real.norm_eq_abs, Real.norm_eq_abs, abs_neg, abs_neg]
  linarith

theorem point_near (k : ℕ) (hk : k < 900) :
    ‖exp (((2 * k + 1 : ℕ) * turn : ℝ) * I) - point (2 * k + 1)‖ ≤ (k + 1) * (4 * 10⁻¹ ^ 21) := by
  induction k with
  | zero => simpa using point_one.trans (by norm_num)
  | succ k ih =>
    have ih := ih (by omega)
    have hst := List.all_eq_true.1 all_turn k (List.mem_range.2 (by omega))
    have hstep := point_step _ hst
    have he : exp (((2 * (k + 1) + 1 : ℕ) * turn : ℝ) * I)
        = exp (((2 * k + 1 : ℕ) * turn : ℝ) * I) * exp ((2 * turn : ℝ) * I) := by
      rw [← exp_add]; push_cast; ring_nf
    have hk' : (k : ℝ) + 1 ≤ 900 := by exact_mod_cast (by omega : k + 1 ≤ 900)
    have hp : ‖point (2 * k + 1)‖ ≤ 2 := by
      have := norm_sub_norm_le (point (2 * k + 1)) (exp (((2 * k + 1 : ℕ) * turn : ℝ) * I))
      rw [norm_exp_ofReal_mul_I, norm_sub_rev] at this
      have h9 : ((k : ℝ) + 1) * (4 * 10⁻¹ ^ 21) ≤ 1 := by norm_num; linarith
      linarith
    have hsum : exp (((2 * (k + 1) + 1 : ℕ) * turn : ℝ) * I) - point (2 * (k + 1) + 1)
        = (exp (((2 * k + 1 : ℕ) * turn : ℝ) * I) - point (2 * k + 1)) * exp ((2 * turn : ℝ) * I)
          + point (2 * k + 1) * (exp ((2 * turn : ℝ) * I) - point 2)
          + (point (2 * k + 1) * point 2 - point (2 * k + 1 + 2)) := by
      rw [he, show 2 * (k + 1) + 1 = 2 * k + 1 + 2 by ring]; ring
    rw [hsum]
    refine (norm_add₃_le ..).trans ?_
    rw [norm_mul, norm_mul, norm_exp_ofReal_mul_I, mul_one]
    have := mul_le_mul hp point_two (norm_nonneg _) (by norm_num)
    push_cast
    norm_num at *
    linarith

theorem fix_near (k : ℕ) (hk : k < 900) :
    |Real.cos ((2 * k + 1 : ℕ) * turn) - fixCos (2 * k + 1) / 10 ^ 30| ≤ 10⁻¹ ^ 17
      ∧ |Real.sin ((2 * k + 1 : ℕ) * turn) - fixSin (2 * k + 1) / 10 ^ 30| ≤ 10⁻¹ ^ 17 := by
  have h := point_near k hk
  have hk' : (k : ℝ) + 1 ≤ 900 := by exact_mod_cast (by omega : k + 1 ≤ 900)
  have hb : ((k : ℝ) + 1) * (4 * 10⁻¹ ^ 21) ≤ 10⁻¹ ^ 17 := by norm_num; linarith
  have h' := h.trans hb
  have hr : (exp (((2 * k + 1 : ℕ) * turn : ℝ) * I) - point (2 * k + 1)).re
      = Real.cos ((2 * k + 1 : ℕ) * turn) - fixCos (2 * k + 1) / 10 ^ 30 := by
    rw [sub_re, exp_ofReal_mul_I_re, point, add_re, ofReal_re, re_ofReal_mul, I_re, mul_zero, add_zero]
  have hi : (exp (((2 * k + 1 : ℕ) * turn : ℝ) * I) - point (2 * k + 1)).im
      = Real.sin ((2 * k + 1 : ℕ) * turn) - fixSin (2 * k + 1) / 10 ^ 30 := by
    rw [sub_im, exp_ofReal_mul_I_im, point, add_im, ofReal_im, im_ofReal_mul, I_im, mul_one, zero_add]
  exact ⟨hr ▸ (abs_re_le_norm _).trans h', hi ▸ (abs_im_le_norm _).trans h'⟩

/-! The sides of a direction. -/

/-- A vector with abscissa at most 65,535 does not lie between two neighbours. -/
theorem not_between {x y a b c d : ℕ} (hx : x ≤ 65535) (h1 : c * b = a * d + 1) (h2 : 65535 < b + d) :
    y * b ≤ a * x ∨ c * x ≤ y * d := by
  by_contra h
  push Not at h
  obtain ⟨h3, h4⟩ := h
  have e : (x : ℤ) = b * (c * x - y * d) + d * (y * b - a * x) := by
    have : (c : ℤ) * b = a * d + 1 := by exact_mod_cast h1
    linear_combination (-(x : ℤ)) * this
  have h5 : (1 : ℤ) ≤ c * x - y * d := by have : (y : ℤ) * d < c * x := by exact_mod_cast h4
                                          linarith
  have h6 : (1 : ℤ) ≤ y * b - a * x := by have : (a : ℤ) * x < y * b := by exact_mod_cast h3
                                          linarith
  have h7 : (b : ℤ) ≤ b * (c * x - y * d) := le_mul_of_one_le_right (by positivity) h5
  have h8 : (d : ℤ) ≤ d * (y * b - a * x) := le_mul_of_one_le_right (by positivity) h6
  omega

/-- What a side of a pair of neighbours says of a direction (t, s) between them. -/
theorem side_of {x y a b c d : ℕ} {s t : ℝ} (h1 : c * b = a * d + 1) (hb : 0 < b) (hd : 0 < d)
    (ha : a * t < b * s) (hc : d * s < c * t) (h0 : ¬(x = 0 ∧ y = 0)) :
    (y * b ≤ a * x → y * t < x * s) ∧ (c * x ≤ y * d → x * s < y * t) := by
  have hb' : (0 : ℝ) < b := by exact_mod_cast hb
  have hd' : (0 : ℝ) < d := by exact_mod_cast hd
  have ht : 0 < t := by
    have e : (c : ℝ) * b = a * d + 1 := by exact_mod_cast h1
    nlinarith [mul_lt_mul_of_pos_left hc hb', mul_lt_mul_of_pos_left ha hd']
  constructor
  · intro h
    have hx : 0 < x := by
      rcases Nat.eq_zero_or_pos x with rfl | h'
      · simp only [mul_zero, Nat.le_zero, Nat.mul_eq_zero] at h; omega
      · exact h'
    have hx' : (0 : ℝ) < x := by exact_mod_cast hx
    have h' : (y : ℝ) * b ≤ a * x := by exact_mod_cast h
    have := mul_lt_mul_of_pos_left ha hx'
    have := mul_le_mul_of_nonneg_right h' ht.le
    refine lt_of_mul_lt_mul_left (a := (b : ℝ)) ?_ hb'.le
    linarith
  · intro h
    have hc0 : 0 < c := by rcases Nat.eq_zero_or_pos c with rfl | h'; · simp at h1
                           exact h'
    have hy : 0 < y := by
      rcases Nat.eq_zero_or_pos y with rfl | h'
      · simp only [zero_mul, Nat.le_zero, Nat.mul_eq_zero] at h; omega
      · exact h'
    have h' : (c : ℝ) * x ≤ y * d := by exact_mod_cast h
    rcases Nat.eq_zero_or_pos x with rfl | hx
    · have : (0 : ℝ) < y := by exact_mod_cast hy
      simpa using mul_pos this ht
    · have hx' : (0 : ℝ) < x := by exact_mod_cast hx
      have := mul_lt_mul_of_pos_left hc hx'
      have := mul_le_mul_of_nonneg_right h' ht.le
      refine lt_of_mul_lt_mul_left (a := (d : ℝ)) ?_ hd'.le
      linarith

theorem beyond_exact (x y : ℕ) (k : ℕ) (hk : k < 900) (hx : x ≤ 65535) (h0 : ¬(x = 0 ∧ y = 0)) :
    (beyond x y (2 * k + 1) = true →
        x * Real.sin ((2 * k + 1 : ℕ) * turn) < y * Real.cos ((2 * k + 1 : ℕ) * turn))
      ∧ (beyond x y (2 * k + 1) = false →
        y * Real.cos ((2 * k + 1 : ℕ) * turn) < x * Real.sin ((2 * k + 1 : ℕ) * turn)) := by
  have hap := List.all_eq_true.1 all_apart k (List.mem_range.2 hk)
  obtain ⟨hn1, hn2⟩ := fix_near k hk
  generalize 2 * k + 1 = u at *
  simp only [apart, Bool.and_eq_true, decide_eq_true_eq] at hap
  generalize neighbours (fixSin u).toNat (fixCos u).toNat 12 0 1 1 0 = f at hap
  obtain ⟨a, b, c, d⟩ := f
  generalize (fixSin u).toNat = sn at hap
  generalize (fixCos u).toNat = cs at hap
  obtain ⟨⟨⟨hsn, hcs⟩, h1, h2, hb, hd⟩, hl, hr⟩ := hap
  rw [← hcs] at hn1
  rw [← hsn] at hn2
  rw [abs_le] at hn1 hn2
  have hl' : (a : ℝ) * cs + 10 ^ 14 * (a + b) < b * sn := by exact_mod_cast hl
  have hr' : (d : ℝ) * sn + 10 ^ 14 * (c + d) < c * cs := by exact_mod_cast hr
  push_cast at hn1 hn2
  have fa : (a : ℝ) * cs < b * sn := lt_of_le_of_lt (le_add_of_nonneg_right (by positivity)) hl'
  have fc : (d : ℝ) * sn < c * cs := lt_of_le_of_lt (le_add_of_nonneg_right (by positivity)) hr'
  generalize Real.cos (u * turn) = t at *
  generalize Real.sin (u * turn) = s at *
  have a0 : (0 : ℝ) ≤ a := by positivity
  have b0 : (0 : ℝ) ≤ b := by positivity
  have c0 : (0 : ℝ) ≤ c := by positivity
  have d0 : (0 : ℝ) ≤ d := by positivity
  have ra : (a : ℝ) * t < b * s := by
    have e1 : t ≤ cs / 10 ^ 30 + 10⁻¹ ^ 17 := by linarith [hn1.2]
    have e2 : sn / 10 ^ 30 - 10⁻¹ ^ 17 ≤ s := by linarith [hn2.1]
    have e3 := mul_le_mul_of_nonneg_left e1 a0
    have e4 := mul_le_mul_of_nonneg_left e2 b0
    norm_num at e3 e4
    linarith
  have rc : (d : ℝ) * s < c * t := by
    have e1 : s ≤ sn / 10 ^ 30 + 10⁻¹ ^ 17 := by linarith [hn2.2]
    have e2 : cs / 10 ^ 30 - 10⁻¹ ^ 17 ≤ t := by linarith [hn1.1]
    have e3 := mul_le_mul_of_nonneg_left e1 d0
    have e4 := mul_le_mul_of_nonneg_left e2 c0
    norm_num at e3 e4
    linarith
  have hbe : beyond x y u = decide ((x : ℝ) * sn < y * cs) := by
    unfold beyond
    rw [← hsn, ← hcs, decide_eq_decide]
    exact_mod_cast Iff.rfl
  have F := side_of (x := x) (y := y) h1 hb hd fa fc h0
  have R := side_of (x := x) (y := y) h1 hb hd ra rc h0
  rw [hbe, decide_eq_true_eq, decide_eq_false_iff_not]
  rcases not_between (y := y) hx h1 h2 with h | h
  · exact ⟨fun h' => absurd h' (not_lt.2 (F.1 h).le), fun _ => R.1 h⟩
  · exact ⟨fun _ => R.2 h, fun h' => absurd (F.2 h) h'⟩

end Sys2Proof.Laws
end

