-- ==== Sys2Proof/Laws/Memory.lean ====
section
/-! SUPPORT. The laws of the two memories: a write is read back, leaves every other address, and keeps
the canonical form. -/

namespace Sys2Proof.Machine

/-- Every cell of a written block lies inside it. -/
theorem Memory.mem_cells {blank : Byte} {base : Nat} {bytes : List Byte} {c : Host.Cell}
    (h : c ∈ Memory.cells blank base bytes) :
    base ≤ c.1 ∧ c.1 < base + bytes.length ∧ c.2 ≠ blank := by
  induction bytes generalizing base with
  | nil => simp [Memory.cells] at h
  | cons b rest ih =>
    unfold Memory.cells at h
    split at h
    · obtain ⟨h1, h2, h3⟩ := ih h
      simp only [List.length_cons]
      exact ⟨by omega, by omega, h3⟩
    · rcases List.mem_cons.1 h with rfl | h
      · refine ⟨Nat.le_refl _, ?_, by assumption⟩
        simp
      · obtain ⟨h1, h2, h3⟩ := ih h
        simp only [List.length_cons]
        exact ⟨by omega, by omega, h3⟩

/-- Searching a run whose addresses all differ from `a` finds nothing. -/
theorem Memory.find_none {m : Memory} {a : Nat} (h : ∀ c ∈ m, c.1 ≠ a) :
    m.find? (fun c => c.1 == a) = none := by
  rw [List.find?_eq_none]
  intro c hc
  simpa using h c hc

/-- Searching a filtered memory for an address that the filter keeps. -/
theorem Memory.find_filter (m : Memory) (p : Host.Cell → Bool) (a : Nat)
    (h : ∀ c ∈ m, c.1 = a → p c = true) :
    (m.filter p).find? (fun c => c.1 == a) = m.find? (fun c => c.1 == a) := by
  induction m with
  | nil => rfl
  | cons c rest ih =>
    have ih := ih fun d hd => h d (List.mem_cons_of_mem _ hd)
    by_cases hp : p c = true
    · rw [List.filter_cons_of_pos hp, List.find?_cons, List.find?_cons, ih]
    · rw [List.filter_cons_of_neg hp, ih, List.find?_cons]
      have : (c.1 == a) = false := by
        simp only [beq_eq_false_iff_ne, ne_eq]
        exact fun e => hp (h c List.mem_cons_self e)
      rw [this]

/-- The search in a written block finds the byte written, unless it is the blank one. -/
theorem Memory.read_cells (blank : Byte) (base : Nat) (bytes : List Byte) (i : Nat)
    (h : i < bytes.length) : Memory.read blank (Memory.cells blank base bytes) (base + i) = bytes[i] := by
  induction bytes generalizing base i with
  | nil => simp at h
  | cons b rest ih =>
    cases i with
    | zero =>
      unfold Memory.cells
      split
      · rename_i hb
        have hn : (Memory.cells blank (base + 1) rest).find? (fun c => c.1 == base) = none :=
          Memory.find_none fun c hc => by have := Memory.mem_cells hc; omega
        simp [Memory.read, hn, hb]
      · simp [Memory.read]
    | succ i =>
      have hi : i < rest.length := by simpa using h
      have ih := ih (base + 1) i hi
      have e : base + (i + 1) = base + 1 + i := by omega
      unfold Memory.cells
      split
      · rw [e]; simpa using ih
      · have hne : ((base, b).1 == base + (i + 1)) = false := by simp
        rw [Memory.read, List.find?_cons, hne, e]
        simpa [Memory.read] using ih

/-- Reading inside a written block gives the bytes written. -/
theorem Memory.read_writeBlock_inside (blank : Byte) (m : Memory) (base : Nat) (bytes : List Byte)
    (i : Nat) (h : i < bytes.length) :
    (m.writeBlock blank base bytes).read blank (base + i) = bytes[i] := by
  have h1 : (m.filter fun c => decide (c.1 < base)).find? (fun c => c.1 == base + i) = none :=
    Memory.find_none fun c hc => by
      have := (List.mem_filter.1 hc).2
      simp only [decide_eq_true_eq] at this
      omega
  have h3 : (m.filter fun c => decide (base + bytes.length ≤ c.1)).find?
      (fun c => c.1 == base + i) = none :=
    Memory.find_none fun c hc => by
      have := (List.mem_filter.1 hc).2
      simp only [decide_eq_true_eq] at this
      omega
  have h2 := Memory.read_cells blank base bytes i h
  unfold Memory.read at h2 ⊢
  rw [Memory.writeBlock, List.find?_append, List.find?_append, h1, h3]
  simpa using h2

/-- Reading outside a written block gives what it gave before. -/
theorem Memory.read_writeBlock_outside (blank : Byte) (m : Memory) (base : Nat) (bytes : List Byte)
    (a : Nat) (h : a < base ∨ base + bytes.length ≤ a) :
    (m.writeBlock blank base bytes).read blank a = m.read blank a := by
  have h2 : (Memory.cells blank base bytes).find? (fun c => c.1 == a) = none :=
    Memory.find_none fun c hc => by have := Memory.mem_cells hc; omega
  unfold Memory.read
  rw [Memory.writeBlock, List.find?_append, List.find?_append, h2]
  rcases h with h | h
  · have h3 : (m.filter fun c => decide (base + bytes.length ≤ c.1)).find? (fun c => c.1 == a) = none :=
      Memory.find_none fun c hc => by
        have := (List.mem_filter.1 hc).2
        simp only [decide_eq_true_eq] at this
        omega
    rw [h3, Memory.find_filter m _ a (fun c _ e => by simp only [decide_eq_true_eq]; omega)]
    simp
  · have h1 : (m.filter fun c => decide (c.1 < base)).find? (fun c => c.1 == a) = none :=
      Memory.find_none fun c hc => by
        have := (List.mem_filter.1 hc).2
        simp only [decide_eq_true_eq] at this
        omega
    rw [h1, Memory.find_filter m _ a (fun c _ e => by simp only [decide_eq_true_eq]; omega)]
    simp

/-! The canonical form. -/

/-- Addresses rise from cell to cell exactly when every earlier one is below every later one. -/
theorem Memory.rising_iff (m : Memory) :
    m.rising = true ↔ m.Pairwise fun c d => c.1 < d.1 := by
  induction m with
  | nil => simp [Memory.rising]
  | cons c rest ih =>
    cases rest with
    | nil => simp [Memory.rising]
    | cons d rest =>
      rw [Memory.rising, Bool.and_eq_true, ih, List.pairwise_cons (a := c)]
      simp only [decide_eq_true_eq]
      constructor
      · rintro ⟨h, hp⟩
        refine ⟨fun e he => ?_, hp⟩
        rcases List.mem_cons.1 he with rfl | he
        · exact h
        · exact Nat.lt_trans h ((List.pairwise_cons.1 hp).1 e he)
      · rintro ⟨h, hp⟩
        exact ⟨h d List.mem_cons_self, hp⟩

/-- The cells of a block stand in rising order. -/
theorem Memory.cells_pairwise (blank : Byte) (base : Nat) (bytes : List Byte) :
    (Memory.cells blank base bytes).Pairwise fun c d => c.1 < d.1 := by
  induction bytes generalizing base with
  | nil => exact List.Pairwise.nil
  | cons b rest ih =>
    unfold Memory.cells
    split
    · exact ih (base + 1)
    · exact List.pairwise_cons.2 ⟨fun d hd => by have := Memory.mem_cells hd; simp; omega, ih (base + 1)⟩

/-- A write keeps the canonical form. -/
theorem Memory.writeBlock_wf (blank : Byte) (m : Memory) (base : Nat) (bytes : List Byte)
    (h : m.wf blank = true) : (m.writeBlock blank base bytes).wf blank = true := by
  rw [Memory.wf, Bool.and_eq_true, Memory.rising_iff, List.all_eq_true] at h ⊢
  obtain ⟨hp, hb⟩ := h
  refine ⟨?_, fun c hc => ?_⟩
  · rw [Memory.writeBlock, List.pairwise_append, List.pairwise_append]
    refine ⟨⟨hp.filter _, Memory.cells_pairwise .., fun c hc d hd => ?_⟩, hp.filter _,
      fun c hc d hd => ?_⟩
    · have h1 := (List.mem_filter.1 hc).2
      have h2 := Memory.mem_cells hd
      simp only [decide_eq_true_eq] at h1
      omega
    · have h2 := (List.mem_filter.1 hd).2
      simp only [decide_eq_true_eq] at h2
      rcases List.mem_append.1 hc with hc | hc
      · have h1 := (List.mem_filter.1 hc).2
        simp only [decide_eq_true_eq] at h1
        omega
      · have h1 := Memory.mem_cells hc
        omega
  · rw [Memory.writeBlock, List.mem_append, List.mem_append] at hc
    rcases hc with (hc | hc) | hc
    · exact hb c (List.mem_filter.1 hc).1
    · simpa using (Memory.mem_cells hc).2.2
    · exact hb c (List.mem_filter.1 hc).1

end Sys2Proof.Machine
end

