-- ==== Sys2Proof/Laws/Release.lean ====
section
/-! SUPPORT. The release of a traverse, said once (R83 to R86): what a release does, and what settling, the
end of a reader and an invalidation do to the traverse they name. -/

namespace Sys2Proof.Machine

/-- Raising events leaves the store. -/
@[simp] theorem State.store_raiseAll (s : State) (es : List Event) : (s.raiseAll es).store = s.store := by
  unfold State.raiseAll
  induction es generalizing s with
  | nil => rfl
  | cons e es ih => exact (ih (s.raise e)).trans (s.store_raise e)

/-- What a station hears does not depend on the store. -/
theorem State.raiseAll_withStore (s : State) (y : Store) (es : List Event) :
    State.raiseAll { s with store := y } es = { s.raiseAll es with store := y } := by
  unfold State.raiseAll
  induction es generalizing s with
  | nil => rfl
  | cons e es ih => exact ih (s.raise e)

/-- R85, said once: the flag follows the value, and a bound passed raises its event. -/
theorem State.watchStore_eq (s : State) :
    let v := s.freePages - s.store.reservedPages
    s.watchStore =
      State.raiseAll
        { s with store := { s.store with
            low := if v < 65536 then true else if 131072 ≤ v then false else s.store.low } }
        (if v < 65536 ∧ s.store.low = false then [.storeLow v]
          else if 131072 ≤ v ∧ s.store.low = true then [.storeOk v] else []) := by
  intro v
  unfold State.watchStore
  simp only [Config.storeLowBound, Config.storeOkBound]
  change (if v < 65536 ∧ s.store.low = false then _
    else if 131072 ≤ v ∧ s.store.low = true then _ else _) = _
  have same : ∀ b, s.store.low = b → { s with store := { s.store with low := b } } = s := by
    intro b h
    cases h
    rfl
  by_cases h1 : v < 65536
  · cases hl : s.store.low
    · simp [h1, State.raiseAll, State.modStore]
      rfl
    · have h2 : ¬ 131072 ≤ v := by omega
      simp [h1, h2, State.raiseAll, same true hl]
  · by_cases h2 : 131072 ≤ v
    · cases hl : s.store.low
      · simp [h1, h2, State.raiseAll, same false hl]
      · simp [h1, h2, State.raiseAll, State.modStore]
        rfl
    · simp [h1, h2, State.raiseAll]

/-- The store after the release of `t` (R84). -/
def Store.without (x : Store) (t : Traverse) : Store :=
  let pool := poolAppend x.pool t.pages
  let v := poolCount pool - x.reservedPages
  { x with pool := pool, directory := x.directory.filter fun u => u.id != t.id
           low := if v < 65536 then true else if 131072 ≤ v then false else x.low }

/-- A release, said once (R84, R85). -/
theorem State.release_eq (s : State) (t : Traverse) :
    s.release t =
      State.raiseAll { s with store := s.store.without t }
        (s.releaseNews { s with store := s.store.without t } t.id t true) := by
  unfold State.release
  rw [State.watchStore_eq]
  rfl

/-- Applying R84, said once: `settled` traverses that are archived are released, or wait. -/
theorem State.testRelease_goesOrStays (s : State) (id : Nat) (u : Traverse) (h : s.trav? id = some u) :
    let freed := u.archived && u.settled && u.readers == 0 && u.inWrite == 0
    s.goesOrStays (s.testRelease id) id u freed (fun v =>
        ∃ p, v = { u with releasePending := p } ∧ (u.archived = true → u.settled = true → p = true)
          ∧ (u.releasePending = true → p = true))
      ∧ (s.testRelease id).stations
          = (s.raiseAll (s.releaseNews (s.testRelease id) id u freed)).stations := by
  have hid := s.trav_id id u h
  unfold State.testRelease
  simp only [h]
  by_cases hc : (u.archived && u.settled) = true
  · by_cases hr : u.readers = 0 ∧ u.inWrite = 0
    · simp only [hc, hr, and_self, if_true, Bool.and_self, beq_self_eq_true]
      rw [State.release_eq]
      refine ⟨⟨?_, ?_, ?_, ?_⟩, ?_⟩
      · intro n hn
        unfold State.trav?
        simp only [State.store_raiseAll, Store.without]
        rw [List.find?_filter]
        congr 1
        funext w
        by_cases hw : w.id = n
        · simp [hw]
          intro e; exact hn (hid ▸ e)
        · simp [hw]
      · simp [Store.without]
      · intro _
        refine ⟨?_, ?_, ?_⟩
        · unfold State.trav?
          simp only [State.store_raiseAll, Store.without]
          rw [List.find?_filter, List.find?_eq_none]
          intro w _
          simp [hid]
        · simp [Store.without]
        · simp [Store.without, State.freePages]
      · intro hf; cases hf
      · rw [State.raiseAll_withStore, hid]
        simp only [State.releaseNews, State.freePages, if_true]
        rfl
    · have hf : (u.archived && u.settled && u.readers == 0 && u.inWrite == 0) = false := by
        simp only [hc, Bool.true_and, Bool.and_eq_false_iff, beq_eq_false_iff_ne]
        omega
      simp only [hc, hr, if_true, if_false]
      rw [hc] at hf
      rw [hf]
      refine ⟨⟨?_, rfl, ?_, ?_⟩, ?_⟩
      · intro n hn
        exact s.trav_modTrav_other id n _ (fun _ => rfl) hn
      · intro e; cases e
      · intro _
        exact ⟨rfl, rfl, _, s.trav_modTrav_self id _ u (fun _ => rfl) h, true, rfl, by simp, by simp⟩
      · simp [State.releaseNews, State.modTrav]
  · have hf : (u.archived && u.settled) = false := by simpa using hc
    simp only [hf, Bool.false_and, Bool.false_eq_true, if_false]
    refine ⟨⟨fun _ _ => rfl, rfl, by simp, ?_⟩, ?_⟩
    · intro _
      refine ⟨rfl, rfl, u, h, u.releasePending, rfl, ?_, fun e => e⟩
      intro a b
      simp [a, b] at hf
    · simp [State.releaseNews]

/-- An entry changed by `f`, which keeps its id and pages, and then R84: `u` is the entry before. -/
theorem State.modTrav_goesOrStays (s : State) (id : Nat) (f : Traverse → Traverse) (u : Traverse)
    (h : s.trav? id = some u) (hi : ∀ v, (f v).id = v.id) (hp : (f u).pages = u.pages)
    (ht : (f u).target = u.target) :
    let w := f u
    let freed := w.archived && w.settled && w.readers == 0 && w.inWrite == 0
    s.goesOrStays ((s.modTrav id f).testRelease id) id u freed (fun v =>
        ∃ p, v = { w with releasePending := p } ∧ (w.archived = true → w.settled = true → p = true)
          ∧ (w.releasePending = true → p = true))
      ∧ ((s.modTrav id f).testRelease id).stations
          = (s.raiseAll (s.releaseNews ((s.modTrav id f).testRelease id) id u freed)).stations := by
  obtain ⟨⟨others, reserved, goes, stays⟩, told⟩ :=
    (s.modTrav id f).testRelease_goesOrStays id (f u) (s.trav_modTrav_self id f u hi h)
  refine ⟨⟨fun n hn => (others n hn).trans (s.trav_modTrav_other id n f hi hn), reserved, ?_, stays⟩, ?_⟩
  · intro hf
    rw [hp] at goes
    exact goes hf
  · rw [told, State.modTrav_eq, State.raiseAll_withStore]
    simp only [State.releaseNews, hp, ht]
    rfl

/-- Settling, said once (R83, R84). -/
theorem State.settle_goesOrStays (s : State) (id : Nat) (u : Traverse) (h : s.trav? id = some u) :
    s.goesOrStays (s.settle id) id u u.freedBySettling (fun v =>
        ∃ p, v = { u with settled := true, releasePending := p } ∧ u.settledTo v)
      ∧ (s.settle id).stations
          = (s.raiseAll (s.releaseNews (s.settle id) id u u.freedBySettling)).stations := by
  unfold State.settle
  simp only [h]
  by_cases hs : u.settled = true
  · simp only [hs, if_true]
    have hf : u.freedBySettling = false := by simp [Traverse.freedBySettling, hs]
    refine ⟨⟨fun _ _ => rfl, rfl, by simp [hf], fun _ => ⟨rfl, rfl, u, h, u.releasePending, ?_, hs, ?_⟩⟩, ?_⟩
    · cases u; cases hs; rfl
    · intro _ e; rw [hs] at e; cases e
    · simp [hf, State.releaseNews]
  · have hs' : u.settled = false := by simpa using hs
    simp only [hs', Bool.false_eq_true, if_false]
    obtain ⟨⟨others, reserved, goes, stays⟩, told⟩ :=
      s.modTrav_goesOrStays id (fun t => { t with settled := true }) u h (fun _ => rfl) rfl rfl
    have hf : u.freedBySettling = (u.archived && true && u.readers == 0 && u.inWrite == 0) := by
      simp [Traverse.freedBySettling, hs']
    rw [hf]
    refine ⟨⟨others, reserved, goes, fun e => ?_⟩, told⟩
    obtain ⟨a, b, v, hv, p, hvp, hw, _⟩ := stays e
    refine ⟨a, b, v, hv, p, hvp, ?_, ?_⟩
    · rw [hvp]
    · intro ha _
      rw [hvp]
      exact hw ha rfl

/-- The end of a reader, said once (R84, R86). -/
theorem State.deregister_goesOrStays (s : State) (id : Nat) (u : Traverse) (h : s.trav? id = some u) :
    s.goesOrStays (s.deregister id) id u u.freedByReader (fun v =>
        ∃ p, v = { u with readers := u.readers - 1, releasePending := p }
          ∧ (u.archived = true → u.settled = true → p = true))
      ∧ (s.deregister id).stations
          = (s.raiseAll (s.releaseNews (s.deregister id) id u u.freedByReader)).stations := by
  unfold State.deregister
  obtain ⟨⟨others, reserved, goes, stays⟩, told⟩ :=
    s.modTrav_goesOrStays id (fun t => { t with readers := t.readers - 1 }) u h (fun _ => rfl) rfl rfl
  have hf : u.freedByReader = (u.archived && u.settled && u.readers - 1 == 0 && u.inWrite == 0) := by
    have : decide (u.readers ≤ 1) = (u.readers - 1 == 0) := by
      rw [Bool.eq_iff_iff]
      simp
      omega
    simp [Traverse.freedByReader, this]
  rw [hf]
  refine ⟨⟨others, reserved, goes, fun e => ?_⟩, told⟩
  obtain ⟨a, b, v, hv, p, hvp, hw, _⟩ := stays e
  exact ⟨a, b, v, hv, p, hvp, hw⟩

/-- An invalidation of a COMPLETE inspection traverse, said once (R73, R83, R84). -/
theorem State.invalidate_goesOrStays (s : State) (id : Nat) (u : Traverse) (h : s.trav? id = some u)
    (hc : u.state = .complete) (hk : u.target.kind = .inspection) :
    s.goesOrStays (s.invalidate id) id u u.freedBySettling (fun v =>
        ∃ p, v = { u with state := .invalidated, settled := true, releasePending := p } ∧ u.settledTo v)
      ∧ (s.invalidate id).stations
          = (s.raiseAll (s.releaseNews (s.invalidate id) id u u.freedBySettling)).stations := by
  unfold State.invalidate
  simp only [h, hc, hk, and_self, if_true]
  obtain ⟨⟨others, reserved, goes, stays⟩, told⟩ :=
    (s.modTrav id fun t => { t with state := .invalidated }).settle_goesOrStays id
      { u with state := .invalidated } (s.trav_modTrav_self id _ u (fun _ => rfl) h)
  refine ⟨⟨fun n hn => (others n hn).trans (s.trav_modTrav_other id n _ (fun _ => rfl) hn), reserved, goes,
    stays⟩, ?_⟩
  rw [told, State.modTrav_eq, State.raiseAll_withStore]
  rfl

end Sys2Proof.Machine
end

