-- ==== Sys2Proof/Tests/Slice0.lean ====
section
/-! SUPPORT. Tests: ill-formed commands that WellFormed refuses, figures that the manual works out, one
step of a command on a small state, and for every statement with hypotheses a state that meets them. -/

open Sys2Proof Sys2Proof.Machine

namespace Sys2Proof.Tests

-- One theorem at a time: the kernel decides most of them, and each waits for the ones before it.
set_option Elab.async false

/-! WellFormed: one ill-formed term for each check. -/

/-- A reading with every signal value 0. -/
def flat (position : Nat) : Reading :=
  ⟨⟨0, 0⟩, ⟨0, 0⟩, ⟨0, 0⟩, ⟨0, 0⟩, ⟨0, 0⟩, ⟨0, 0⟩, ⟨0, 0⟩, ⟨0, 0⟩, position⟩

/-- An identity of a probe unit. -/
def ident : Identity := ⟨7, ⟨70, 400000, 200000, 100000, 20000⟩⟩

theorem test_wf_upset : Instr.wf (.startupReadEnd [(4096, 0)]) = false
    ∧ Instr.wf (.startupReadEnd [(5, 0), (5, 1)]) = false ∧ Instr.wf (.fetchEnd [(2048, 0)]) = false
    ∧ Instr.wf (.saveCommandEnd true [(4096, 0)]) = false
    ∧ Instr.wf (.startupReadEnd [(4095, 0)]) = true := by decide

theorem test_wf_identity : Instr.wf (.hello 0 { ident with unitSerial := 4294967296 }) = false
    ∧ Instr.wf (.hello 0 ⟨7, ⟨4294967296, 1, 1, 1, 1⟩⟩) = false
    ∧ Instr.wf (.hello 0 ⟨7, ⟨70, 4294967296, 1, 1, 1⟩⟩) = false
    ∧ Instr.wf (.hello 0 ⟨7, ⟨70, 1, 4294967296, 1, 1⟩⟩) = false
    ∧ Instr.wf (.hello 0 ⟨7, ⟨70, 1, 1, 4294967296, 1⟩⟩) = false
    ∧ Instr.wf (.hello 0 ⟨7, ⟨70, 1, 1, 1, 4294967296⟩⟩) = false ∧ Instr.wf (.hello 0 ident) = true := by
  decide

theorem test_wf_reading : Instr.wf (.sample 0 256 (flat 0)) = false
    ∧ Instr.wf (.sample 0 255 (flat 16777216)) = false
    ∧ Instr.wf (.sample 0 0 { flat 0 with d1 := ⟨32768, 0⟩ }) = false
    ∧ Instr.wf (.sample 0 0 { flat 0 with a1 := ⟨0, 32768⟩ }) = false
    ∧ Instr.wf (.sample 0 0 { flat 0 with d2 := ⟨-32769, 0⟩ }) = false
    ∧ Instr.wf (.sample 0 0 { flat 0 with a2 := ⟨0, -32769⟩ }) = false
    ∧ Instr.wf (.sample 0 0 { flat 0 with d3 := ⟨32768, 0⟩ }) = false
    ∧ Instr.wf (.sample 0 0 { flat 0 with a3 := ⟨32768, 0⟩ }) = false
    ∧ Instr.wf (.sample 0 0 { flat 0 with d4 := ⟨32768, 0⟩ }) = false
    ∧ Instr.wf (.sample 0 0 { flat 0 with a4 := ⟨32768, 0⟩ }) = false
    ∧ Instr.wf (.sample 0 255 { flat 16777215 with d1 := ⟨32767, -32768⟩ }) = true := by decide

theorem test_wf_probe : Instr.wf (.claim 0 256 1) = false ∧ Instr.wf (.claim 0 1 256) = false
    ∧ Instr.wf (.calStart 0 256) = false ∧ Instr.wf (.closedFailPresentation 65536) = false
    ∧ Instr.wf (.closedGoodHandover 65536) = false ∧ Instr.wf (.comparisonEnd 256 1) = false
    ∧ Instr.wf (.comparisonEnd 1 256) = false ∧ Instr.wf (.claim 3 255 0) = true := by decide

theorem test_wf_request_plan : Instr.wf (.stationRequestFrame 0 256 .readStatus) = false
    ∧ requestWf (.openSession 4294967296) = false ∧ requestWf (.unreadable 256) = false
    ∧ requestWf (.defineGeometry 256 2 1000) = false ∧ requestWf (.defineGeometry 0 256 1000) = false
    ∧ requestWf (.defineGeometry 0 2 65536) = false
    ∧ requestWf (.defineTubes 256 1 1 0 .inService) = false
    ∧ requestWf (.defineTubes 1 256 1 0 .inService) = false
    ∧ requestWf (.defineTubes 1 1 256 0 .inService) = false
    ∧ requestWf (.defineTubes 1 1 1 256 .inService) = false
    ∧ requestWf (.removeTubes 256 1 1) = false ∧ requestWf (.removeTubes 1 256 1) = false
    ∧ requestWf (.removeTubes 1 1 256) = false
    ∧ requestWf (.setLimits ⟨some 65536, none, none, none, none, none, none, none, none⟩) = false
    ∧ requestWf (.setLimits ⟨none, none, none, none, none, none, none, none, some 65536⟩) = false
    ∧ requestWf (.setWindow 256 ⟨1, 1, 1, 1⟩) = false ∧ requestWf (.setWindow 0 ⟨256, 1, 1, 1⟩) = false
    ∧ requestWf (.setWindow 0 ⟨1, 1, 1, 256⟩) = false
    ∧ requestWf (.setExclusions false [⟨1, 256, 1, 1⟩]) = false
    ∧ requestWf (.setExclusions false (List.replicate 256 ⟨1, 1, 1, 1⟩)) = false := by
  decide +kernel

theorem test_wf_request_tubes : requestWf (.defineStandard 256 [100] 1 50) = false
    ∧ requestWf (.defineStandard 0 [256] 1 50) = false ∧ requestWf (.defineStandard 0 [1] 256 50) = false
    ∧ requestWf (.defineStandard 0 [1] 1 65536) = false
    ∧ requestWf (.defineStandard 0 (List.replicate 256 1) 1 50) = false
    ∧ requestWf (.requestRetest 256 1 true) = false ∧ requestWf (.confirmPlug 1 256) = false
    ∧ requestWf (.submitFinal 1 1 4294967296 ⟨.ndd, []⟩) = false
    ∧ requestWf (.submitCall 1 1 1 ⟨.indications, [⟨some 256, 0, 1, 1⟩]⟩) = false
    ∧ requestWf (.submitCall 1 1 1 ⟨.indications, [⟨none, 65536, 1, 1⟩]⟩) = false
    ∧ requestWf (.submitCall 1 1 1 ⟨.indications, [⟨none, 0, 256, 1⟩]⟩) = false
    ∧ requestWf (.submitCall 1 1 1 ⟨.indications, [⟨none, 0, 1, 256⟩]⟩) = false
    ∧ requestWf (.markArchived 4294967296) = false ∧ requestWf (.declareProbeFailed 256) = false
    ∧ requestWf (.getEvents 256) = false ∧ requestWf (.readPages 1 65536 1) = false
    ∧ requestWf (.readPages 1 0 65536) = false ∧ requestWf (.readTube 256 1) = false
    ∧ requestWf (.scanTubes 1 1 [.plugged, .pending] 1) = false
    ∧ requestWf (.scanTubes 1 1 [.pending, .pending] 1) = false
    ∧ requestWf (.scanTubes 1 1 [] 256) = false ∧ requestWf (.readTraverse 4294967296) = false
    ∧ requestWf (.readChannel 256) = false ∧ requestWf (.readCalLog 65536) = false
    ∧ requestWf (.readBracket 65536) = false := by decide +kernel

/-! Figures that the manual works out. -/

/-- R196: the CRC-16 of the nine ASCII bytes. -/
theorem test_crc :
    crc16 [0x31, 0x32, 0x33, 0x34, 0x35, 0x36, 0x37, 0x38, 0x39] = 0x29B1 := by decide +kernel

/-- R202: the checksum word of the image of the factory defaults. -/
theorem test_checksum : checksumWord (imageBody Shadow.factory) = 0x9285
    ∧ (imageOf Shadow.factory).length = 4096 := by decide +kernel

/-- The example of section 6.2: a tie between pairs. -/
theorem test_pair_tie :
    peakToPeak 50 [⟨200, 200⟩, ⟨500, 600⟩, ⟨600, 500⟩] = ⟨50, 51, 300, 400⟩ := by decide +kernel

/-- R110 and section 6.8. -/
theorem test_raw_amplitude : rawAmplitude 300 400 = 500 ∧ rawAmplitude 1504 (-547) = 1600
    ∧ rawAmplitude 1000 781 = 1268 ∧ rawAmplitude 65535 65535 = 92680 := by decide +kernel

/-- The table of R111. -/
theorem test_raw_phase : rawPhase 1000 (-1) = 3599 ∧ rawPhase 10000 (-3) = 0
    ∧ rawPhase (-1000) (-1) = 1801 ∧ rawPhase 1000 781 = 380 ∧ rawPhase 1504 (-547) = 3400
    ∧ rawPhase 300 400 = 531 := by decide +kernel

/-- The table of R114. -/
theorem test_calibrated_amplitude : calibratedAmplitude 1600 1600 = 500
    ∧ calibratedAmplitude 1600 1268 = 396 ∧ calibratedAmplitude 64 7000 = 54688
    ∧ calibratedAmplitude 64 9000 = 65535 := by decide

/-- The depth curve of section 6.8. -/
def curve : List (Nat × Nat) := [(20, 1380), (40, 1100), (60, 850), (80, 620), (100, 400)]

/-- The table of section 6.10. -/
theorem test_depths : [3235, 1800, 1799, 1380, 1373, 1200, 980, 700, 600, 400, 399, 0].map
      (depthStage curve) =
    [(none, .none), (none, .none), (some 20, .shallowLimit), (some 20, .none), (some 21, .none),
     (some 33, .none), (some 50, .none), (some 73, .none), (some 82, .none), (some 100, .none),
     (some 100, .deepLimit), (some 100, .deepLimit)] := by decide

/-- An indication with its amplitude and phase. -/
def found (amp phase : Nat) : Indication := ⟨1, 0, 0, 0, 0, false, 0, 1, amp, phase⟩

/-- The standard of section 6.8. -/
def standard1 : Standard := ⟨[100, 80, 60, 40, 20], 2, 100⟩

/-- A calibration traverse as its finalisation leaves it, in section 6.8. -/
def calTraverse : Traverse :=
  { newTraverse 1 (.standard 1) 0 none 0 ident with
    state := .complete
    indications := some ⟨[found 1600 3400, found 1250 20, found 980 250, found 690 500,
      found 410 780].map fun i => ⟨i, none, 0, none⟩, 0⟩ }

/-- The evaluation of section 6.8. -/
theorem test_evaluation : (evaluate standard1 calTraverse).toOption =
    some ⟨[⟨100, 3400, 1600, 400, 500⟩, ⟨80, 20, 1250, 620, 391⟩, ⟨60, 250, 980, 850, 306⟩,
      ⟨40, 500, 690, 1100, 216⟩, ⟨20, 780, 410, 1380, 128⟩], 600, 1600⟩ := by decide +kernel

/-- A call with its kind and entries. -/
def callOf (kind : CallKind) (entries : List CallEntry) (source : CallSource) : Call :=
  ⟨kind, entries, source, 0, 3⟩

/-- The comparison of section 8.8. -/
def comparison88 : Comparison :=
  { pos := ⟨15, 22⟩, traverse := 3
    primary := callOf .indications [⟨some 7, 30, 28, 4⟩, ⟨some 7, 10, 55, 2⟩, ⟨some 3, 150, 26, 3⟩,
      ⟨none, 400, 12, 5⟩, ⟨some 12, 880, 26, 2⟩] .primary
    second := callOf .indications [⟨some 3, 140, 32, 0⟩, ⟨some 7, 13, 50, 0⟩, ⟨some 7, 40, 24, 0⟩,
      ⟨some 12, 900, 21, 0⟩] .automatic
    limits := Limits.factory }

theorem test_comparison : comparison88.outcome = .agreement .indications
    [⟨some 3, 150, 32, 3⟩, ⟨some 7, 10, 55, 2⟩, ⟨some 7, 30, 28, 4⟩, ⟨some 12, 880, 26, 2⟩] := by
  decide

/-! Small states. -/

/-- A station link that is UP, with a role. -/
def linkUp (role : Role) : StationLink := { StationLink.reset with link := .up, role := some role }

/-- The part after loading, with no session, standard 1 defined, and the third station the lead's. -/
def part : State :=
  { State.reset with
    config := { ConfigMem.reset with
      phase := .ready, status := some (.loaded false [])
      shadow := { Shadow.factory with standards := Shadow.factory.standards.set 1 (some standard1) } }
    stations := ⟨linkUp .primary, linkUp .secondary, linkUp .lead⟩ }

/-- The counters of a table. -/
def countsOf (tubes : List TubeEntry) : TubeCounts :=
  tubes.foldl (fun c t => c.add t.state 1) TubeCounts.zero

/-- A session at time 5000 with a table. -/
def session (tubes : List TubeEntry) (locked : Bool) : Session :=
  { newSession 1000 Limits.factory with
    seconds := 5000
    plan := { newPlan Limits.factory with
      locked := locked, classes := (newPlan Limits.factory).classes.set 0 (some ⟨40, 12200⟩) }
    tubes := tubes, counts := countsOf tubes, nextTraverse := 7 }

/-- The position of the tests. -/
def p11 : Pos := ⟨1, 1⟩

/-- A tube of class 0 in a state, on traverse 3 of bracket 1. -/
def tube (state : TubeState) : TubeEntry :=
  { newTube p11 0 .inService 10 with state := state, traverse := some 3, bracket := some 1, attempts := 1 }

/-- A tube that channel 0 holds. -/
def held : TubeEntry := { tube .claimed with preClaim := some .pending, holder := some 0 }

/-- The log entry that opened bracket 1. -/
def entry1 : LogEntry :=
  { number := 1, channel := 0, standard := 1, traverse := 1, time := 100, probe := ident.probe
    flaws := [⟨100, 3400, 1600, 400, 500⟩, ⟨80, 20, 1250, 620, 391⟩, ⟨60, 250, 980, 850, 306⟩,
      ⟨40, 500, 690, 1100, 216⟩, ⟨20, 780, 410, 1380, 128⟩]
    rho := 600, aRef := 1600, closed := none }

/-- Bracket 1, open on channel 0 since time 100, with traverse 3. -/
def bracket1 : Bracket := { newBracket entry1 512 with traverses := [3] }

/-- The calibration state with bracket 1. -/
def calState (b : Bracket) : Calibration :=
  { attempts := Four.all none, log := [entry1], brackets := [b] }

/-- The part in an open session under a locked plan, with one tube and bracket 1 open. -/
def running (t : TubeEntry) : State :=
  { part with session := some (session [t] true), cal := calState bracket1 }

/-- A channel in a state, with its probe unit on the link. -/
def channel (state : ChanState) : Channel :=
  { Channel.reset with
    state := state, identity := some ident, permit := some (permitOf (some (session [] true)) state) }

/-- A state with channel 0 replaced. -/
def on0 (s : State) (c : Channel) : State := { s with channels := { s.channels with c0 := c } }

/-- Traverse 3 on the tube of the tests, under bracket 1. -/
def trav3 (state : TraverseState) : Traverse :=
  { newTraverse 3 (.tube p11) 0 (some 1) 200 ident with state := state }

/-- A state whose directory holds one traverse. -/
def with3 (s : State) (t : Traverse) : State :=
  { s with store := { s.store with directory := [t], reservedPages := t.reservation } }

/-- Station `st` with a request at the head of its queue. -/
def asked (s : State) (st : Stn) (req : Request) : State :=
  s.modStn st fun x => { x with queue := [⟨9, req⟩] }

/-- Station `st` with its link changed. -/
def linked (s : State) (st : Stn) (f : StationLink → StationLink) : State := s.modStn st f

/-- The screening parameters of the pull of the tests. -/
def params3 : ScreenParams :=
  { freq := 2, tRaw := 160, landmark := some 4000, gap := 8, cal := some ⟨1600, 600, curve⟩
    expected := some 40, reporting := some 20 }

/-- A Screening Unit bound to traverse 3. -/
def unit3 : ScreenState := ScreenState.start 3 params3

/-- A channel pulling traverse 3 in a state. -/
def pulling (state : ChanState) : Channel :=
  { channel state with claim := some p11, traverse := some 3, screen := .active unit3 }

/-- The part with the pull of traverse 3 in hand on channel 0. -/
def inPull (state : ChanState) (t : TraverseState) : State :=
  on0 (with3 (running held) (trav3 t)) (pulling state)

/-- A buffer holding `n` samples of traverse 3. -/
def buffer3 (state : BufferState) (n : Nat) : PageBuffer :=
  ⟨state, 3, 0, List.replicate n ⟨flat 0, ⟨false, false, false⟩⟩, ⟨0, 0, 0⟩⟩

/-- The part with a sample of traverse 3 in buffer A. -/
def filling (state : ChanState) (n : Nat) : State :=
  on0 (inPull state .recording) { pulling state with bufA := buffer3 .filling n }

/-- The part with a save at a step. -/
def saving (step : SaveStep) : State :=
  { part with config := { part.config with save := .running part.config.shadow step 0 } }

/-! One step of a command: the expected values are those of the rules named. -/

/-- The state after a command, where there is one. -/
def after (c : Instr) (s : State) : Option State :=
  match exec c s with
  | .next t => some t
  | _ => none

/-- Channel 0 READY in the running session, the tube of the tests PENDING. -/
def readyPart : State := on0 (running (tube .pending)) (channel .ready)

/-- R142, R187: the standards stay in the shadow at power-on reset, and the status ends. -/
theorem test_power_on_reset_standards :
    (after .powerOnReset part).map (fun t => (t.config.shadow.standards, t.config.status)) =
      some (part.config.shadow.standards, none) := by decide +kernel

/-- R184: RESET_N rises and loading begins. -/
theorem test_reset_release :
    (after .resetRelease State.reset).map (·.config.phase) = some .loading := by decide +kernel

/-- R24, R191: a granted claim runs out 600 s on, and its tube is CLAIMED. -/
theorem test_claim_granted : (after (.claim 0 1 1) readyPart).map (fun t =>
      ((t.chan 0).state, (t.chan 0).claimDue, (t.tube? p11).map (·.state),
        t.store.reservedPages, (t.chan 0).sent)) =
    some (.claimed, some 5600, some .claimed, 1171,
      [.claimReply none 1 1, .permit ⟨false, .busy⟩]) := by decide +kernel

/-- R22, step 4: row 0 names no tube. -/
theorem test_claim_row_0 : (after (.claim 0 0 1) readyPart).map (fun t => (t.chan 0).sent) =
    some [.claimReply (some .noSuchTube) 0 1] := by decide +kernel

/-- R51: the traverse takes the next id, and the attempts rise by one. -/
theorem test_pull_start : (after (.pullStart 0)
      (on0 (running held) { channel .claimed with claim := some p11 })).map (fun t =>
        ((t.chan 0).sent.head?, (t.tube? p11).map (·.attempts), t.store.directory.map (·.id))) =
    some (some (.pullReply false none 7), some 2, [7]) := by decide +kernel

/-- R63, and events 6 and 7 of the example of chapter 3: 180 is behind 182, and 184 misses two. -/
theorem test_sequence : seqCheck (some 182) 180 = .behind ∧ seqCheck (some 182) 184 = .gap 2
    ∧ seqCheck (some 255) 0 = .gap 1 ∧ seqCheck (some 0) 255 = .behind := by decide

/-- R63: the expectation after sequence number 255 is 0. -/
theorem test_sample_wraps : (after (.sample 0 255 (flat 0)) (filling .recording 1)).map (fun t =>
      ((t.chan 0).expect, (t.chan 0).bufA.samples.length)) = some (some 0, 2) := by decide +kernel

/-- R52, R191: a pause runs out 300 s on. -/
theorem test_pause : (after (.pause 0) (inPull .recording .recording)).map (fun t =>
      ((t.chan 0).state, (t.chan 0).pauseDue, (t.trav? 3).map (·.state))) =
    some (.paused, some 5300, some .paused) := by decide +kernel

/-- R53, R30: an expired pause sends the tube to RETEST with cause ABORT. -/
theorem test_pause_expiry : (after (.pauseExpiry 0)
      (on0 (inPull .paused .paused) { pulling .paused with pauseDue := some 5000 })).map (fun t =>
        ((t.tube? p11).map fun e => (e.state, e.cause), (t.trav? 3).map (·.state), (t.chan 0).state)) =
    some (some (.retest, some .abort), some .aborted, .ready) := by decide +kernel

/-- R88: a traverse aborted before finalisation carries its two window counts, and one finalised none. -/
theorem test_window_counts :
    ({ trav3 .aborted with opened := 300, closed := 2 } : Traverse).report.soFar = some (300, 2)
    ∧ ({ trav3 .complete with landmarks := some ⟨[], 0⟩, closed := 2 } : Traverse).report.soFar = none := by
  decide

/-- R45, R48: a HELLO with no open bracket leads to NEEDS_CAL; the first reason is the session's. -/
theorem test_hello : (after (.hello 2 ident) part).map (fun t =>
      ((t.chan 2).state, (t.chan 2).sent)) = some (.needsCal, [.permit ⟨false, .noSession⟩]) := by
  decide +kernel

/-- R38: CONFIRM_PLUG takes FINAL to PLUGGED and moves the counters. -/
theorem test_confirm_plug : (after (.confirmPlug 2 9 1 1) (asked (running (tube .final)) 2
      (.confirmPlug 1 1))).map (fun t => ((t.tube? p11).map (·.state),
        t.session.map fun x => (x.counts.final, x.counts.plugged))) =
    some (some .plugged, some (0, 1)) := by decide +kernel

/-- R181: GET_EVENTS takes the oldest records; the attention line stays while one is left. -/
theorem test_get_events : (after (.getEvents 1 9 1) (asked (linked part 1 fun x =>
      { x with events := [⟨.storeLow 1, none⟩, ⟨.storeOk 2, none⟩], attn := true }) 1
        (.getEvents 1))).map (fun t => ((t.stn 1).events, (t.stn 1).attn)) =
    some ([⟨.storeOk 2, none⟩], true) := by decide +kernel

/-- R190: a save that finds CFG_PROTECT high before the erase ends FAILED. -/
theorem test_save_protected :
    let s := saving .start
    (after (.saveCommandEnd true []) { s with config := { s.config with cfgProtect := true } }).map
      (fun t => (t.config.save, t.config.lastSave)) =
    some (.idle, some (.failed (.cfgProtect .erase))) := by decide +kernel

/-- R190: a rise of CFG_PROTECT in a save stops what is not yet enabled, though the pin falls again
before the test; the level read is the pin's. -/
theorem test_save_protected_rise_fall :
    (((after .cfgProtectRise (saving .eraseWait)).bind (after .cfgProtectFall)).bind
      (after (.saveCommandEnd true []))).map
      (fun t => (t.config.save, t.config.lastSave, t.config.cfgProtect)) =
    some (.idle, some (.failed (.cfgProtect (.program 0))), false) := by decide +kernel

/-- R188: a rise and a fall before SAVE_CONFIG do not reach the save it starts. -/
theorem test_save_after_rise_fall :
    (((after .cfgProtectRise (asked part 2 .saveConfig)).bind (after .cfgProtectFall)).bind
      (after (.saveConfig 2 9))).map (fun t => (t.config.save, t.config.barred)) =
    some (.running part.config.shadow .start 0, false) := by decide +kernel

/-- Event 4 of the example of chapter 7: the drifts of the closing calibration. -/
theorem test_closing_comparison : closingComparison 7 600
      [⟨100, 3400, 1600, 400, 500⟩, ⟨80, 20, 1250, 620, 391⟩, ⟨60, 250, 980, 850, 306⟩,
       ⟨40, 500, 690, 1100, 216⟩, ⟨20, 780, 410, 1380, 128⟩]
      [⟨100, 3430, 1560, 400, 500⟩, ⟨80, 45, 1230, 615, 394⟩, ⟨60, 270, 960, 840, 308⟩,
       ⟨40, 575, 700, 1145, 224⟩, ⟨20, 800, 400, 1370, 128⟩] = ⟨7, false, 75, 4, 25, 1⟩ := by
  decide +kernel

/-- R169: the ninth request is answered QUEUE_FULL, with its own tag and name code. -/
theorem test_queue_full : (after (.stationRequestFrame 1 77 .readConfig)
      (linked part 1 fun x => { x with queue := List.replicate 8 ⟨1, .readStatus⟩, inHand := true })).map
        (fun t => ((t.stn 1).line, (t.stn 1).queue.length)) =
    some (some (.queueFull 77 28), 8) := by decide +kernel

/-- R189: a status read that shows the flash busy leaves the wait, and one that shows it not busy goes
on to the first write enable of a program. -/
theorem test_save_wait : (after (.saveCommandEnd false []) (saving .eraseWait)).map (·.config.save) =
      some (saving .eraseWait).config.save
    ∧ (after (.saveCommandEnd true []) (saving .eraseWait)).map (·.config.save) =
      some (.running part.config.shadow (.writeEnable (.program 0)) 0) := by decide +kernel

/-- R199, R200: a TUBE_RETEST record of session time 5000, (1, 2), cause ABORT, 3 attempts. -/
theorem test_event_bytes : (EventRecord.mk (.tubeRetest ⟨1, 2⟩ .abort 3) (some 5000)).bytes =
    [10, 1, 0x88, 0x13, 0, 0, 4, 1, 2, 2, 3] := by decide +kernel

/-- R167: an event that the deregistration raises does not stay with the lost station of the lead. -/
theorem test_lost_lead :
    let t := { trav3 .complete with archived := true, settled := true, readers := 1 }
    (after (.stationLinkLoss 2) (linked (with3 (running (tube .final)) t) 2 fun x =>
      { x with stream := some (newStream 9 3 0 1) })).map (fun y =>
        ((y.stn 2).events, (y.stn 2).attn, (y.trav? 3).isSome)) = some ([], false, false) := by
  decide +kernel

/-- R136, R200: the closing group of the fourth event of chapter 7: bracket 7, CLOSED_FAIL, 75 at flaw
4, 25 at flaw 1. -/
theorem test_closing_bytes : (ClosedInfo.mk 7 false 75 4 25 1).bytes = [7, 0, 2, 75, 0, 4, 25, 0, 1] := by
  decide +kernel

/-- R170, R199: a TABLE_FULL answer to DEFINE_TUBES carries N after its status, which is code 14. -/
theorem test_table_full_bytes :
    ((StationOut.response 9 5 .tableFull (.tableFull 32768)).bytes?.map (·.take 8)) =
    some [0x81, 9, 5, 3, 0, 14, 0, 0x80] := by decide +kernel

/-- R121, R199: an OK answer to DEFINE_STANDARD carries the definition as stored: the depths, the
frequency and the threshold. -/
theorem test_standard_bytes :
    ((StationOut.response 9 12 .ok (.standard standard1)).bytes?.map (·.take 15)) =
    some [0x81, 9, 12, 10, 0, 0, 5, 100, 80, 60, 40, 20, 2, 100, 0] := by decide +kernel

/-! A state and operands that meet the hypotheses of each statement. -/

theorem witness_IdleStepQueuesOrTicks : (State.reset.pending = []
      ∧ State.reset.config.phase = .inReset)
    ∧ (asked part 2 .readStatus).awake ∧ (asked part 2 .readStatus).due ≠ []
    ∧ part.awake ∧ part.due = []
    ∧ requestInstr 2 ⟨9, .readStatus⟩ ∈ (asked part 2 .readStatus).due
    ∧ (saving .start).due = [] ∧ (saving .start).config.cfgProtect = false
    ∧ (saving .start).config.protectRose = false
    ∧ (let s := { saving .start with config := { (saving .start).config with protectRose := true } }
       s.awake ∧ s.due = [] ∧ s.pending = [])
    ∧ (saving .eraseWait).due = [] ∧ (saving (.programWait 15)).due = []
    ∧ (let s := { saving .start with config := { (saving .start).config with cfgProtect := true } }
       s.awake ∧ s.due = [] ∧ s.pending = []) := by decide +kernel

theorem witness_StartUpLoadsShadow : State.reset.config.phase = .inReset ∧ part.awake
    ∧ ({ State.reset.config with phase := Phase.loading } : ConfigMem).phase = .loading
    ∧ natAt (List.replicate 4096 (0xFF : Byte)) 0 2 ≠ 0x5A3C
    ∧ (natAt (imageBody Shadow.factory ++ [0, 0]) 0 2 = 0x5A3C
      ∧ wordSum (imageBody Shadow.factory ++ [0, 0]) % 65536 ≠ 0)
    ∧ natAt (imageOf Shadow.factory) 0 2 = 0x5A3C ∧ wordSum (imageOf Shadow.factory) % 65536 = 0
    ∧ (imageRoles (imageOf Shadow.factory)).isSome = true := by decide +kernel

theorem witness_OnlyAbsentPagesStop :
    exec .pageWriteEnd { part with store := { part.store with
      port := .write 0 .a none 1048576 [] } } = .fault (.noSuchPage 1048576)
    ∧ (∃ t, exec (.probeIdle 0) part = .next t)
    ∧ State.reset.config.phase = .inReset ∧ Instr.readStatus 0 1 ≠ .powerOnReset := by
  refine ⟨by rfl, ⟨_, rfl⟩, by decide⟩

theorem witness_MemoriesAndShadowChangeOnlyByTheirCommands :
    ∃ t, exec (.probeIdle 0) part = .next t ∧ Instr.probeIdle 0 ≠ .pageWriteEnd
      ∧ (∀ b u, Instr.probeIdle 0 ≠ .saveCommandEnd b u) ∧ Instr.probeIdle 0 ≠ .powerOnReset := by
  exact ⟨_, rfl, by decide, by simp, by decide⟩

theorem witness_SessionLockAndLogLast :
    ∃ t, exec (.probeIdle 0) (running held) = .next t
      ∧ (running held).session = some (session [held] true) ∧ (session [held] true).plan.locked = true
      ∧ Instr.probeIdle 0 ≠ .powerOnReset := by
  exact ⟨_, rfl, rfl, rfl, by decide⟩

theorem witness_StationLawIsKept : part.stationLaw = true ∧ ∃ t, step part = .next t :=
  ⟨by decide +kernel, _, rfl⟩

theorem witness_TubeLawIsKept : (running held).tubeLaw ∧ ∃ t, step (running held) = .next t := by
  refine ⟨?_, _, rfl⟩
  intro x hx
  cases hx
  exact ⟨by simp [session], by intro t; cases t <;> decide⟩

theorem calLaw_running (t : TubeEntry) : (running t).calLaw := by
  unfold State.calLaw
  simp only [show (running t).cal = calState bracket1 from rfl]
  decide +kernel

/-- The laws of the work in hand, the store, the pages and the samples hold with traverse 3 being pulled
and a page number of the store in its list. -/
theorem laws_lawful3 :
    let s : State := { on0 (with3 (running held) { trav3 .recording with pages := [0], reservation := 1170 })
        (pulling .recording) with pending := [.probeIdle 0] }
    let q : State := { s with store := { s.store with pool := [⟨1, 1048575⟩] } }
    q.workLaw ∧ q.storeLaw = true ∧ q.pageLaw ∧ q.sampleLaw ∧ ∃ t, step q = .next t := by
  refine ⟨⟨by decide +kernel, by decide +kernel, by decide +kernel, fun h => nomatch h⟩,
    by decide +kernel, ?_, by unfold State.sampleLaw; decide +kernel, _, rfl⟩
  have h : List.range 1048576 = 0 :: List.range' 1 1048575 := by
    rw [List.range_eq_range']; exact List.range'_succ
  unfold State.pageLaw
  rw [h]
  show ((List.range' 1 1048575 ++ []) ++ ([0] ++ [])).Perm _
  simp only [List.append_nil]
  exact List.perm_append_comm

theorem witness_CalibrationLawIsKept : ((running held).calLaw ∧ ∃ t, step (running held) = .next t)
    ∧ ∃ s t, s.workLaw ∧ s.storeLaw = true ∧ step s = .next t :=
  ⟨⟨calLaw_running _, _, rfl⟩, _, _, laws_lawful3.1, laws_lawful3.2.1,
    laws_lawful3.2.2.2.2.choose_spec⟩

theorem witness_PermitLawIsKept : ((on0 (running held) (pulling .recording)).permitLaw
      ∧ ∃ t, step (on0 (running held) (pulling .recording)) = .next t)
    ∧ ∃ s t, s.workLaw ∧ step s = .next t :=
  ⟨⟨by unfold State.permitLaw; decide +kernel, _, rfl⟩, _, _, laws_lawful3.1,
    laws_lawful3.2.2.2.2.choose_spec⟩

theorem witness_MemoriesStayCanonical :
    ({ part with store := { part.store with ddr := [(3, 7), (5, 1)] } }.memoryLaw = true
      ∧ ∃ t, step { part with store := { part.store with ddr := [(3, 7), (5, 1)] } } = .next t)
    ∧ ∃ s t, s.workLaw ∧ s.pageLaw ∧ s.sampleLaw ∧ step s = .next t :=
  ⟨⟨by decide +kernel, _, rfl⟩, _, _, laws_lawful3.1, laws_lawful3.2.2.1, laws_lawful3.2.2.2.1,
    laws_lawful3.2.2.2.2.choose_spec⟩

theorem witness_ProbeFramesRoundTrip : identityWf ident = true
    ∧ readingWf (flat 16777215) = true := by decide

theorem witness_StationFramesRoundTrip : requestWf (.scanTubes 1 2 [.pending, .plugged] 32) = true
    ∧ (requestPayload (.scanTubes 1 2 [.pending, .plugged] 32)).isSome = true
    ∧ requestWf (.submitCall 1 2 3 ⟨.indications, [⟨none, 0, 20, 1⟩, ⟨some 48, 30000, 100, 15⟩]⟩) = true
    ∧ (requestPayload (.submitCall 1 2 3 ⟨.ndd, []⟩)).isSome = true := by decide +kernel

theorem witness_SavedImageLoadsBack :
    let x := part.config.shadow
    x.roles.s0 ≠ x.roles.s1 ∧ x.roles.s0 ≠ x.roles.s2 ∧ x.roles.s1 ≠ x.roles.s2
      ∧ (∀ v ∈ x.limits.toList, v < 65536) ∧ x.standards.length = 8
      ∧ (∀ sd ∈ x.standards, (sd.all fun d => d.good) = true) ∧ standard1.good = true
      ∧ (imageOf x).length = 4096 := by decide +kernel

theorem witness_PageImageAndCrc : (buffer3 .inWrite 56).samples.length ≤ 56
    ∧ (trav3 .recording).id < 4294967296 ∧ (laneEntryOf .a (buffer3 .inWrite 56) true false).samples < 256
    ∧ (buffer3 .inWrite 56).firstIndex < 65536 ∧ (36 * 56 : Nat) ≤ 2016 := by decide +kernel

theorem witness_PeakToPeakIsTheGreatestPair : 2 ≤ [(⟨-32768, 0⟩ : XY), ⟨32767, 0⟩].length
    ∧ (∀ v ∈ [(⟨-32768, 0⟩ : XY), ⟨32767, 0⟩],
        -32768 ≤ v.x ∧ v.x ≤ 32767 ∧ -32768 ≤ v.y ∧ v.y ≤ 32767)
    ∧ unit3.indications.length < 64 := by decide +kernel

theorem witness_PhasesTurnWithTheVector : (0 : Int) < 1 ∧ ¬((1 : Int) = 0 ∧ (0 : Int) = 0)
    ∧ 3599 < 3600 := by decide

theorem witness_PhasesTurnWithTheVector_direction :
    (0 : ℤ).natAbs ≤ 65535 ∧ (65535 : ℤ).natAbs ≤ 65535 ∧ (0 : ℝ) < 65535 ∧ 0 ≤ Real.pi / 2
      ∧ Real.pi / 2 < 2 * Real.pi ∧ ((0 : ℤ) : ℝ) = 65535 * Real.cos (Real.pi / 2)
      ∧ ((65535 : ℤ) : ℝ) = 65535 * Real.sin (Real.pi / 2) := by
  have := Real.pi_pos
  refine ⟨by decide, by decide, by norm_num, by linarith, by linarith, by simp, by simp⟩

theorem witness_CircularDifferenceAsStated : 3599 < 3600 ∧ 0 < 3600
    ∧ (entry1.flaws.zip entry1.flaws).map (fun x => circularDiff ((x.2.phase + 600) % 3600) x.1.theta) ≠ []
    ∧ (closingComparison 1 600 entry1.flaws entry1.flaws).phaseAt = 1 := by decide +kernel

theorem witness_MatchingIsGreedyAndFair :
    let p : CallEntry := ⟨some 7, 20, 30, 1⟩
    let before : List CallEntry := [⟨some 7, 10, 50, 0⟩]
    let q : CallEntry := ⟨some 7, 22, 28, 0⟩
    let after : List CallEntry := [⟨some 7, 18, 21, 0⟩]
    candidate 25 p q = true ∧ (∀ x ∈ before, offsetDiff p q < offsetDiff p x)
      ∧ (∀ x ∈ after, offsetDiff p q ≤ offsetDiff p x)
      ∧ (∀ x ∈ ([⟨none, 20, 30, 1⟩] : List CallEntry), candidate 25 p x = false) := by decide

theorem witness_RawAmplitudeIsFlooredRoot : unit3.indications.length < 64
    ∧ (evaluate standard1 calTraverse).toOption.isSome = true := by decide +kernel

theorem witness_DepthStageByRegion : goodCurve curve ∧ curve.head? = some (20, 1380)
    ∧ 1380 < 1799 ∧ curve[1]? = some (40, 1100) ∧ curve[2]? = some (60, 850) ∧ 850 < 980
    ∧ 980 < 1100 := by unfold goodCurve; decide

theorem witness_DepthsAndPhasesStayInRange : goodCurve (CalRef.mk 1600 600 curve).points
    ∧ standard1.good = true
    ∧ (evaluate standard1 calTraverse).toOption = some ⟨entry1.flaws, 600, 1600⟩ := by
  refine ⟨by unfold goodCurve; decide, by decide +kernel, by decide +kernel⟩

theorem witness_EvaluationTakesFirstReason : standard1.good = true
    ∧ calTraverse.indications.isSome = true
    ∧ ((standard1.depths.zip [found 1600 3400]).find? fun x => x.1 == 100)
      = some (100, found 1600 3400)
    ∧ ((calTraverse.indications.map fun l => l.records.length) = some standard1.depths.length) := by
  decide +kernel

theorem witness_FramesOutOfPlaceChangeNothing : (part.chan 0).state = .offline
    ∧ (on0 part (channel .needsCal)).probeUp 0
    ∧ (on0 (running held) (channel .claimed)).probeUp 0
    ∧ (on0 (running held) (channel .evaluating)).probeUp 0
    ∧ (on0 (running held) (channel .recording)).probeUp 0
    ∧ (on0 (running held) (channel .paused)).probeUp 0
    ∧ (let s := inPull .recording .finishing
       s.probeUp 0 ∧ (s.chan 0).state = .recording ∧ s.inHand? 0 = some (trav3 .finishing))
    ∧ (let s := inPull .calibrating .finishing
       s.probeUp 0 ∧ (s.chan 0).state = .calibrating ∧ s.inHand? 0 = some (trav3 .finishing)) := by
  decide +kernel

theorem witness_HelloBringsTheLinkUp : (part.awake ∧ (part.chan 0).state = .offline
      ∧ part.evaluationChanged 0 ident.probe = false ∧ part.bracketChanged 0 ident.probe = false)
    ∧ ((running held).awake ∧ ((running held).chan 0).state = .offline
      ∧ (running held).evaluationInHand 0 = none ∧ (running held).openBracket 0 = some bracket1
      ∧ (running held).bracketChanged 0 ⟨71, 1, 2, 3, 4⟩ = true)
    ∧ (on0 (running held) (channel .ready)).probeUp 0 := by decide +kernel

/-- Traverse 3 as a calibration traverse of standard 1 in a state. -/
def calTrav3 (state : TraverseState) : Traverse :=
  { newTraverse 3 (.standard 1) 0 none 200 ident with state := state }

/-- A calibration attempt on traverse 3 in hand on channel 0, with bracket 1 open. -/
def attempting (c : Channel) (state : TraverseState) (stage : Stage) : State :=
  (on0 (with3 (running (tube .pending)) (calTrav3 state)) c).setAttempt 0
    (some ⟨3, 1, ident.probe, stage⟩)

theorem calLaw_attempting (c : Channel) (state : TraverseState) (stage : Stage) :
    (attempting c state stage).calLaw := by
  unfold State.calLaw
  simp only [show (attempting c state stage).cal =
    { calState bracket1 with
      attempts := (Four.all none).set 0 (some ⟨3, 1, ident.probe, stage⟩) } from rfl]
  cases stage <;> decide +kernel

/-- The evaluation in hand of an OFFLINE channel, and a probe that differs from its own. -/
theorem witness_HelloBringsTheLinkUp_evaluation :
    let s := attempting { Channel.reset with linkLossMark := true } .complete .evaluating
    s.awake ∧ (s.chan 0).state = .offline ∧ s.calLaw
      ∧ s.evaluationInHand 0 = some ⟨3, 1, ident.probe, .evaluating⟩
      ∧ s.trav? 3 = some (calTrav3 .complete) ∧ (calTrav3 .complete).archived = false
      ∧ (calTrav3 .complete).target.kind = .calibration
      ∧ s.evaluationChanged 0 ⟨71, 1, 2, 3, 4⟩ = true ∧ s.bracketChanged 0 ⟨71, 1, 2, 3, 4⟩ = true :=
  ⟨by decide +kernel, by decide +kernel, calLaw_attempting _ _ _, by decide +kernel⟩

/-- A traverse archived while it was COMPLETE, that its settling releases. -/
theorem witness_HelloBringsTheLinkUp_archived :
    let t := { calTrav3 .complete with archived := true, pages := [4, 5] }
    let s := attempting { Channel.reset with linkLossMark := true } .complete .evaluating
    let a := { s with store := { s.store with directory := [t] } }
    a.evaluationInHand 0 = some ⟨3, 1, ident.probe, .evaluating⟩ ∧ a.trav? 3 = some t
      ∧ t.freedBySettling = true ∧ { t with readers := 1 }.freedBySettling = false
      ∧ (a.chan 0).state = .offline ∧ (a.chan 0).bufA.pendingFor 3 = false
      ∧ (a.chan 0).bufB.pendingFor 3 = false
      ∧ a.evaluationChanged 0 ⟨71, 1, 2, 3, 4⟩ = true := by decide +kernel

theorem witness_ClaimCheckInOrder :
    let s := on0 (running { tube .pending with attempts := 7 }) (channel .ready)
    let full := on0 (running { tube .pending with attempts := 8 }) (channel .ready)
    s.probeUp 0 ∧ firstFailure (claimTable s 0 p11) = none ∧ s.session.isSome = true
      ∧ s.tube? p11 = some { tube .pending with attempts := 7 }
      ∧ firstFailure (claimTable full 0 p11) = some .attemptsExhausted := by decide +kernel

theorem witness_ClaimEndsWithoutPull :
    let s := on0 (running held) { channel .claimed with claim := some p11, claimDue := some 5000 }
    s.probeUp 0 ∧ s.session = some (session [held] true) ∧ (s.chan 0).state = .claimed
      ∧ (s.chan 0).claim = some p11 ∧ s.tube? p11 = some held ∧ held.state = .claimed
      ∧ held.preClaim = some .pending ∧ s.openBracket 0 = some bracket1
      ∧ (s.chan 0).claimDue = some 5000 ∧ 5000 ≤ (session [held] true).seconds := by decide +kernel

theorem witness_TheSessionClockAndItsTimers :
    let s := on0 (running held) { channel .claimed with claimDue := some 5001 }
    let q := on0 (running held) { channel .paused with pauseDue := some 5001 }
    (s.chan 0).claimDue = some 5001 ∧ s.time < 5001 ∧ q.time < 5001
      ∧ s.openBracket 0 = some bracket1 ∧ s.time < bracket1.openedAt + s.limits.interval * 3600
      ∧ s.awake ∧ s.session.isSome = true ∧ part.session = none := by decide +kernel

theorem witness_PullStartBeginsThePull :
    let s := on0 (running held) { channel .claimed with claim := some p11 }
    s.probeUp 0 ∧ (s.chan 0).state = .claimed ∧ (s.chan 0).claim = some p11
      ∧ s.session = some (session [held] true) ∧ s.openBracket 0 = some bracket1
      ∧ (inPull .recording .recording).probeUp 0 ∧ (on0 part (channel .needsCal)).probeUp 0 := by
  decide +kernel

theorem witness_SampleIsStoredLostOrDiscarded :
    let s := filling .recording 54
    let cut := { trav3 .recording with flags := ⟨true, false, false, false⟩ }
    let full := on0 s { s.chan 0 with bufA := buffer3 .inWrite 56, bufB := buffer3 .held 56 }
    let gap := on0 s { s.chan 0 with expect := some 200 }
    s.probeUp 0 ∧ s.sampling 0 = some (trav3 .recording) ∧ s.trav? 3 = some (trav3 .recording)
      ∧ (s.chan 0).room = some .a ∧ (s.chan 0).screen = .active unit3 ∧ unit3.traverse = 3
      ∧ ((s.chan 0).bufA).samples.length < 55
      ∧ seqCheck (s.chan 0).expect 255 = .inOrder
      ∧ (full.chan 0).room = none ∧ full.sampling 0 = some (trav3 .recording)
      ∧ seqCheck (gap.chan 0).expect 72 = .gap 128 ∧ seqCheck (gap.chan 0).expect 73 = .behind
      ∧ (with3 s cut).sampling 0 = some cut := by decide +kernel

/-- The windows at their bounds: an indication at its 512th sample and at its gap of 8, a run of three
with its fourth mark, a landmark at its 2,048th sample. -/
theorem witness_SampleIsStoredLostOrDiscarded_windows :
    let mark : Reading := { flat 40 with d2 := ⟨160, -3⟩, a4 := ⟨0, -4000⟩ }
    let cap := { unit3 with next := 511, window := some ⟨0, 510, 3, 900, 10, 0, []⟩ }
    let gap := { unit3 with next := 20, window := some ⟨5, 12, 6, 900, 10, 7, []⟩ }
    let run := { unit3 with next := 20, run := ⟨3, 17, 18, 4100, 30⟩ }
    let lm := { unit3 with next := 2047, lmWindow := some ⟨0, 2046, 5, 4100, 30, 0⟩ }
    (cap.screen mark).indications.map (fun i => (i.first, i.last, i.peak, i.capped)) =
        [(0, 511, 3, true)]
      ∧ (gap.screen (flat 40)).indications.map (fun i => (i.first, i.last, i.peak, i.capped)) =
        [(5, 12, 6, false)]
      ∧ (run.screen mark).lmWindow = some ⟨17, 20, 18, 4100, 30, 0⟩
      ∧ (lm.screen mark).landmarks = [⟨1, 0, 2047, 5, 4100, 30, true⟩]
      ∧ (unit3.screen mark).window.map (·.peakM) = some 160
      ∧ (unit3.screen (flat 40)).window.isNone = true := by decide +kernel

theorem witness_FullBufferIsHandedOverOrHeld :
    let s := filling .recording 55
    let busy := on0 s { s.chan 0 with bufB := buffer3 .inWrite 56 }
    s.probeUp 0 ∧ s.sampling 0 = some (trav3 .recording) ∧ (s.chan 0).room = some .a
      ∧ seqCheck (s.chan 0).expect 0 = .inOrder ∧ (s.chan 0).screen = .active unit3
      ∧ ((s.chan 0).buf .a).samples.length = 55 ∧ ((s.chan 0).buf .b).state = .free
      ∧ s.store.port = .free ∧ (∀ k, s.store.lanes.get k = [])
      ∧ poolPop s.store.pool = some (0, [⟨1, 1048575⟩])
      ∧ (busy.chan 0).room = some .a ∧ ((busy.chan 0).buf .b).state = .inWrite
      ∧ (let gap := on0 s { s.chan 0 with expect := some 200 }
         gap.probeUp 0 ∧ gap.sampling 0 = some (trav3 .recording) ∧ (gap.chan 0).room = some .a
          ∧ seqCheck (gap.chan 0).expect 72 = .gap 128
          ∧ ((gap.chan 0).buf .a).samples.length = 55) := by decide +kernel

theorem witness_PauseAndResume :
    let s := inPull .recording .recording
    let f := inPull .recording .finishing
    let q := inPull .paused .paused
    s.probeUp 0 ∧ s.inHand? 0 = some (trav3 .recording) ∧ (s.chan 0).permit = s.permitNow 0
      ∧ f.inHand? 0 = some (trav3 .finishing) ∧ q.inHand? 0 = some (trav3 .paused)
      ∧ (q.chan 0).state = .paused ∧ (q.chan 0).permit = q.permitNow 0 := by decide +kernel

theorem witness_PullEndHandsOverTheFinalPage :
    let s := filling .recording 5
    s.probeUp 0 ∧ s.inHand? 0 = some (trav3 .recording) ∧ (s.chan 0).screen = .active unit3
      ∧ (s.chan 0).state = .recording ∧ ((s.chan 0).buf .a).pendingFor 3 = true
      ∧ ((s.chan 0).buf .b).pendingFor 3 = false ∧ s.store.port = .free
      ∧ (filling .paused 5).inHand? 0 = some (trav3 .recording)
      ∧ ((filling .calibrating 5).chan 0).state = .calibrating := by decide +kernel

/-- Traverse 3 recorded on a channel with one page of it waiting in the lane. -/
def waiting (state : ChanState) : State :=
  let s := on0 (with3 (running held) { trav3 .recording with inWrite := 1 })
    { pulling state with bufA := buffer3 .inWrite 56 }
  { s with store := { s.store with
      port := .fetch 1 0 0 true
      lanes := s.store.lanes.set 0 [laneEntryOf .a (buffer3 .inWrite 56) false false] } }

theorem witness_PullEndHandsOverTheFinalPage_inWrite :
    let s := waiting .recording
    let e := laneEntryOf .a (buffer3 .inWrite 56) false false
    s.probeUp 0 ∧ s.inHand? 0 = some { trav3 .recording with inWrite := 1 }
      ∧ (s.chan 0).screen = .active unit3 ∧ (s.chan 0).state = .recording
      ∧ (s.chan 0).bufA.pendingFor 3 = false ∧ (s.chan 0).bufB.pendingFor 3 = false
      ∧ s.store.lanes.get 0 = [] ++ e :: [] ∧ e.traverse = 3
      ∧ ((waiting .calibrating).chan 0).state = .calibrating
      ∧ ((waiting .paused).chan 0).state = .paused := by decide +kernel

/-- R65, R70: PULL_END with the last page still in the lane gives that page the last-page flag. -/
theorem test_pull_end_in_write : (after (.pullEnd 0) (waiting .paused)).map
      (fun t => ((t.trav? 3).map (·.state), (t.store.lanes.get 0).map (·.last))) =
    some (some .finishing, [true]) := by decide +kernel

theorem witness_PullEndCompletesTheTraverse :
    let s := inPull .recording .recording
    s.probeUp 0 ∧ s.inHand? 0 = some (trav3 .recording) ∧ (trav3 .recording).channel = 0
      ∧ (trav3 .recording).target = .tube p11 ∧ (trav3 .recording).inWrite = 0
      ∧ s.openBracket 0 = some bracket1 ∧ (s.chan 0).screen = .active unit3
      ∧ (s.chan 0).bufA.pendingFor 3 = false ∧ (s.chan 0).bufB.pendingFor 3 = false
      ∧ s.session = some (session [held] true) ∧ s.tube? p11 = some held
      ∧ (s.chan 0).permit = s.permitNow 0 := by decide +kernel

/-- The screening of a calibration traverse: landmark detection is off. -/
def calUnit3 : ScreenState :=
  ScreenState.start 3
    { params3 with landmark := none, cal := none, expected := none, reporting := none }

/-- A channel pulling calibration traverse 3. -/
def calPulling : Channel :=
  { channel .calibrating with traverse := some 3, screen := .active calUnit3 }

/-- A Screening Unit with both windows open: two indications at landmarks, and two sized. -/
def twoOpen : ScreenState :=
  { unit3 with
    landmarks := [⟨1, 10, 20, 15, 5000, 1000, false⟩]
    lmWindow := some ⟨200, 210, 205, 5000, 5000, 2⟩
    indications := [⟨1, 12, 14, 14, 1015, false, 12, 14, 1600, 3400⟩,
      ⟨2, 120, 121, 120, 2955, false, 120, 121, 500, 3000⟩,
      ⟨3, 150, 160, 155, 3005, false, 150, 160, 800, 20⟩]
    window := some ⟨207, 209, 208, 900, 999999, 1, [⟨0, 0⟩, ⟨300, 400⟩]⟩ }

/-- Finalisation closes both windows; the figures follow R102, R103 and section 6.8. -/
theorem witness_PullEndCompletesTheTraverse_finalise :
    twoOpen.landmarks.length < 48 ∧ twoOpen.indications.length < 64
      ∧ twoOpen.window.isSome = true ∧ twoOpen.lmWindow.isSome = true
      ∧ twoOpen.params.cal.isSome = true ∧ unit3.window.isSome = false
      ∧ unit3.lmWindow.isSome = false
      ∧ (twoOpen.finalise.indications.records.map fun r => (r.landmark, r.offset)) =
        [(none, 102), (some 1, 196), (some 1, 201), (some 2, 30000)]
      ∧ (twoOpen.finalise.indications.records.map fun r => r.sizing.map (·.cls)) =
        [some .atLandmark, some .sized, some .sized, some .atLandmark]
      ∧ (twoOpen.finalise.indications.records.map fun r => r.sizing.map (·.theta)) =
        [some 400, some 0, some 620, some 1131]
      ∧ (twoOpen.finalise.indications.records.map fun r => r.sizing.bind (·.depth)) =
        [none, some 100, some 80, none]
      ∧ (automaticCall 39 ⟨false, false, false, false⟩ twoOpen.finalise.indications.records 7 3).kind
        = .indications
      ∧ (automaticCall 39 ⟨true, false, false, false⟩ twoOpen.finalise.indications.records 7 3).kind
        = .notUsable := by decide +kernel

/-- A paused pull and a calibration pull. -/
theorem witness_PullEndCompletesTheTraverse_more :
    let s := inPull .paused .paused
    let c := attempting calPulling .recording .pulling
    s.probeUp 0 ∧ s.inHand? 0 = some (trav3 .paused) ∧ (s.chan 0).screen = .active unit3
      ∧ (s.chan 0).state = .paused ∧ (s.chan 0).permit = s.permitNow 0
      ∧ c.probeUp 0 ∧ c.inHand? 0 = some (calTrav3 .recording) ∧ (calTrav3 .recording).channel = 0
      ∧ (calTrav3 .recording).target = .standard 1 ∧ (calTrav3 .recording).inWrite = 0
      ∧ (c.chan 0).screen = .active calUnit3 ∧ calUnit3.traverse = 3
      ∧ (c.chan 0).bufA.pendingFor 3 = false ∧ (c.chan 0).bufB.pendingFor 3 = false
      ∧ c.session = some (session [tube .pending] true)
      ∧ c.attempt? 0 = some ⟨3, 1, ident.probe, .pulling⟩ := by decide +kernel

theorem witness_AbortedPullSendsTheTubeBack :
    let s := inPull .recording .recording
    let q := on0 (inPull .paused .paused) { pulling .paused with pauseDue := some 5000 }
    s.probeUp 0 ∧ s.inHand? 0 = some (trav3 .recording) ∧ (s.chan 0).claim = some p11
      ∧ s.ownsWork 0 = true ∧ s.tube? p11 = some held ∧ s.openBracket 0 = some bracket1
      ∧ s.session = some (session [held] true) ∧ q.inHand? 0 = some (trav3 .paused)
      ∧ (q.chan 0).state = .paused ∧ (q.chan 0).pauseDue = some 5000
      ∧ (let c := attempting calPulling .recording .pulling
         c.probeUp 0 ∧ (c.chan 0).state = .calibrating
          ∧ c.attempt? 0 = some ⟨3, 1, ident.probe, .pulling⟩
          ∧ c.trav? 3 = some (calTrav3 .recording) ∧ (calTrav3 .recording).archived = false
          ∧ c.session = some (session [tube .pending] true))
      ∧ (let f := filling .recording 5
         f.probeUp 0 ∧ f.inHand? 0 = some (trav3 .recording) ∧ f.ownsWork 0 = true
          ∧ (f.chan 0).bufA.pendingFor 3 = true)
      ∧ (let w := waiting .recording
         w.probeUp 0 ∧ w.ownsWork 0 = true ∧ w.inHand? 0 = some { trav3 .recording with inWrite := 1 }) := by
  decide +kernel

/-- R30: ABANDON(OPERATOR) raises TUBE_RETEST with cause ABORT to every station, ABANDON(RESTRICTION)
does not. -/
theorem test_abandon_retest : (after (.abandon 0 .operator) (inPull .recording .recording)).map
      (fun t => (t.stn 0).events.map (·.event)) = some [.tubeRetest p11 .abort 1]
    ∧ (after (.abandon 0 .restriction) (inPull .recording .recording)).map
      (fun t => (t.stn 0).events.map (·.event)) = some [] := by decide +kernel

theorem witness_CalStartCheckedInOrder :
    let s := on0 { running held with cal := Calibration.reset } (channel .needsCal)
    s.probeUp 0 ∧ firstFailure (calStartTable s 0 1) = none
      ∧ s.session = some (session [held] true) ∧ s.standard? 1 = some standard1
      ∧ (s.chan 0).identity = some ident
      ∧ firstFailure (calStartTable s 0 0) = some .noSuchStandard
      ∧ firstFailure (calStartTable (inPull .recording .recording) 0 1) = some .channelBusy := by
  decide +kernel

theorem witness_ProbeFailureEndsWorkAndBracket : (running held).calLaw
    ∧ (let s := asked (inPull .recording .recording) 2 (.declareProbeFailed 0)
       s.ownsWork 0 = true ∧ s.probeUp 0 ∧ s.leadBegins 2 9 (.declareProbeFailed 0)
        ∧ s.openBracket 0 = some bracket1 ∧ s.inHand? 0 = some (trav3 .recording)
        ∧ s.tube? p11 = some held)
    ∧ (let s := on0 (running held) { channel .claimed with claim := some p11 }
       s.probeUp 0 ∧ s.ownsWork 0 = true ∧ s.tube? p11 = some held)
    ∧ (asked part 2 (.declareProbeFailed 4)).leadBegins 2 9 (.declareProbeFailed 4) := by
  exact ⟨calLaw_running _, by decide +kernel⟩

/-- An evaluation in hand, of a channel in EVALUATING and of an OFFLINE one. -/
theorem witness_ProbeFailureEndsWorkAndBracket_evaluation :
    let u := attempting { channel .evaluating with traverse := some 3 } .complete .evaluating
    let d := asked (attempting Channel.reset .complete .evaluating) 2 (.declareProbeFailed 0)
    u.probeUp 0 ∧ u.calLaw ∧ u.ownsWork 0 = true
      ∧ u.evaluationInHand 0 = some ⟨3, 1, ident.probe, .evaluating⟩
      ∧ u.trav? 3 = some (calTrav3 .complete) ∧ (calTrav3 .complete).archived = false
      ∧ (d.chan 0).state = .offline ∧ d.leadBegins 2 9 (.declareProbeFailed 0)
      ∧ d.evaluationInHand 0 = some ⟨3, 1, ident.probe, .evaluating⟩ :=
  ⟨by decide +kernel, calLaw_attempting _ _ _, by decide +kernel⟩

/-- A pull in FINISHING at a probe failure, with nothing in write and with a page in write, and an evaluation
whose traverse was archived while it was COMPLETE. -/
theorem witness_ProbeFailureEndsWorkAndBracket_more :
    let s := inPull .recording .finishing
    let w := on0 (with3 (running held) { trav3 .finishing with inWrite := 1 }) (pulling .recording)
    let t := { calTrav3 .complete with archived := true }
    let u := attempting { channel .evaluating with traverse := some 3 } .complete .evaluating
    let a := { u with store := { u.store with directory := [t] } }
    s.probeUp 0 ∧ s.ownsWork 0 = true ∧ s.inHand? 0 = some (trav3 .finishing)
      ∧ (s.chan 0).state = .recording ∧ (s.chan 0).claim = some p11 ∧ s.tube? p11 = some held
      ∧ (trav3 .finishing).inWrite = 0 ∧ (s.chan 0).bufA.pendingFor 3 = false
      ∧ (s.chan 0).bufB.pendingFor 3 = false
      ∧ w.inHand? 0 = some { trav3 .finishing with inWrite := 1 } ∧ w.ownsWork 0 = true
      ∧ a.probeUp 0 ∧ a.ownsWork 0 = true ∧ a.trav? 3 = some t ∧ t.freedBySettling = true
      ∧ a.evaluationInHand 0 = some ⟨3, 1, ident.probe, .evaluating⟩ := by decide +kernel

/-- R60, R30: a probe failure in a finishing aborts the pull. -/
theorem test_probe_failed_finishing :
    (after (.probeFailed 0) (inPull .recording .finishing)).map (fun t =>
      ((t.tube? p11).map fun e => (e.state, e.cause), (t.trav? 3).map (·.state),
        (t.stn 0).events.map (·.event))) =
    some (some (.retest, some .abort), some .aborted,
      [.tubeRetest p11 .abort 1]) := by decide +kernel

theorem witness_LinkLossTakesTheChannelOffline : (running held).calLaw
    ∧ (inPull .recording .recording).probeUp 0
    ∧ (let s := inPull .recording .finishing
       s.probeUp 0 ∧ s.inHand? 0 = some (trav3 .finishing) ∧ (s.chan 0).state = .recording
        ∧ (s.chan 0).claim = some p11 ∧ s.tube? p11 = some held)
    ∧ (inPull .recording .recording).inHand? 0 = some (trav3 .recording)
    ∧ (on0 (running held) { channel .claimed with claim := some p11 }).probeUp 0
    ∧ (on0 (running held) (channel .evaluating)).probeUp 0
    ∧ (part.chan 0).state = .offline := by
  exact ⟨calLaw_running _, by decide +kernel⟩

theorem witness_PageWriteEndStoresThePage :
    let s := on0 (with3 (running held) { trav3 .finishing with inWrite := 1 })
      { pulling .recording with bufA := buffer3 .inWrite 56, screen := .holding unit3 }
    let w := { s with store := { s.store with port := .write 0 .a (some 3) 1048575 [1, 2] } }
    let h := on0 w { w.chan 0 with bufB := buffer3 .held 56 }
    w.awake ∧ (1048575 : Nat) < 1048576 ∧ w.trav? 3 = some { trav3 .finishing with inWrite := 1 }
      ∧ ((w.chan 0).buf .b).state ≠ .held ∧ ((w.chan 0).buf .b).pendingFor 3 = false
      ∧ (w.chan 0).screen = .holding unit3 ∧ ((h.chan 0).buf .b).state = .held
      ∧ part.store.port = .free := by decide +kernel

/-- The part with the last page of traverse 3 being written from buffer A of channel 0, pages of traverse
4 in the lanes of channels 1 and 3, and station 1 waiting for a page. -/
def lastWrite (c : Channel) (t : Traverse) : State :=
  let s := on0 (with3 (running held) t) { c with bufA := buffer3 .inWrite 56 }
  let e := { laneEntryOf .a (buffer3 .inWrite 56) false false with traverse := 4 }
  let four := { trav3 .recording with id := 4, channel := 1, inWrite := 2, reservation := 9, pages := [8] }
  let w := { s with store := { s.store with
    directory := s.store.directory ++ [four], reservedPages := t.reservation + 9
    lanes := ⟨[], [e], [], [e]⟩, pool := [⟨20, 200000⟩], port := .write 0 .a (some 3) 6 [1, 2] } }
  linked w 1 fun x => { x with stream := some { newStream 9 4 0 1 with fetch := .waiting } }

/-- `lastWrite` with empty lanes. -/
def lastWriteAlone (c : Channel) (t : Traverse) : State :=
  let s := lastWrite c t
  { s with store := { s.store with lanes := Four.all [] } }

/-- The arbiter's choice: after channel 3 the lane of channel 1 comes before that of channel 3; with the
lanes empty it is station 1's turn. -/
theorem witness_PageWriteEndStoresThePage_port :
    let t := { trav3 .finishing with inWrite := 1 }
    let s := lastWrite (pulling .recording) t
    let a := lastWriteAlone (pulling .recording) t
    let e := { laneEntryOf .a (buffer3 .inWrite 56) false false with traverse := 4 }
    s.store.lastWrite = 3 ∧ (s.lanesAfterWrite 0 .a).get 1 = [e]
      ∧ (∀ j, writeTurn 3 j < writeTurn 3 1 → (s.lanesAfterWrite 0 .a).get j = [])
      ∧ writeTurn 3 1 < writeTurn 3 3 ∧ writeTurn 0 3 < writeTurn 0 0
      ∧ poolPop s.store.pool = some (20, [⟨21, 199999⟩]) ∧ (s.trav? 4).isSome = true
      ∧ (∀ j, (a.lanesAfterWrite 0 .a).get j = []) ∧ (a.stn 1).fetchWaiting = true
      ∧ (∀ j, fetchTurn 2 j < fetchTurn 2 1 → (a.stn j).fetchWaiting = false)
      ∧ (let h := on0 a { a.chan 0 with bufB := buffer3 .held 56 }
         (h.lanesAfterWrite 0 .a).get 0 = [laneEntryOf .b (buffer3 .held 56) false false]
          ∧ writeTurn 3 0 = 0) := by decide +kernel

/-- The last page of an inspection pull, of a calibration pull, of an aborted pull that is and is not to be
reported, and of a releasable traverse, with and without a reader; and a page with another behind it. -/
theorem witness_PageWriteEndStoresThePage_last :
    let t := { trav3 .finishing with inWrite := 1 }
    let s := lastWrite { pulling .recording with screen := .holding unit3 } t
    let c := { calTrav3 .finishing with inWrite := 1 }
    let v := (lastWrite { calPulling with state := .evaluating, screen := .holding calUnit3 } c).setAttempt 0
      (some ⟨3, 1, ident.probe, .pulling⟩)
    let a := { trav3 .aborted with inWrite := 1 }
    let q := lastWrite { channel .ready with reports := [3] } a
    let r := { a with archived := true, settled := true }
    s.awake ∧ s.store.port = .write 0 .a (some 3) 6 [1, 2] ∧ s.trav? 3 = some t ∧ t.channel = 0
      ∧ ((s.chan 0).buf .b).pendingFor 3 = false ∧ t.archived = false
      ∧ (s.chan 0).screen = .holding unit3 ∧ unit3.traverse = 3
      ∧ (∀ k, ∀ e ∈ (s.lanesAfterWrite 0 .a).get k, e.traverse ≠ 3)
      ∧ t.target = .tube p11 ∧ (s.chan 0).state = .recording
      ∧ s.session = some (session [held] true) ∧ s.tube? p11 = some held
      ∧ s.openBracket 0 = some bracket1
      ∧ v.awake ∧ v.trav? 3 = some c ∧ c.target = .standard 1 ∧ (v.chan 0).screen = .holding calUnit3
      ∧ calUnit3.traverse = 3 ∧ v.attempt? 0 = some ⟨3, 1, ident.probe, .pulling⟩
      ∧ (∀ k, ∀ e ∈ (v.lanesAfterWrite 0 .a).get k, e.traverse ≠ 3)
      ∧ q.trav? 3 = some a ∧ 3 ∈ (q.chan 0).reports ∧ (q.chan 0).state ≠ .offline
      ∧ 3 ∉ ((lastWrite Channel.reset a).chan 0).reports
      ∧ (lastWrite Channel.reset r).trav? 3 = some r ∧ r.readers = 0
      ∧ (lastWrite Channel.reset { r with readers := 1 }).trav? 3 = some { r with readers := 1 }
      ∧ (lastWrite (pulling .recording) { trav3 .recording with inWrite := 2 }).trav? 3
        = some { trav3 .recording with inWrite := 2 } := by decide +kernel

/-- R71, R78, R31: the end of the last page completes the pull, and the port goes to the page whose lane
comes next, with the page at the head of the pool. -/
theorem test_last_write_completes :
    let t := after .pageWriteEnd (lastWrite { pulling .recording with screen := .holding unit3 }
      { trav3 .finishing with inWrite := 1, reservation := 7 })
    t.map (fun t => ((t.trav? 3).map (fun u => (u.state, u.endTime)), (t.tube? p11).map (·.state),
        (t.chan 0).state)) = some (some (.complete, some 5000), some .acquired, .ready)
      ∧ t.map (fun t => (t.store.reservedPages, t.store.lastWrite, (t.store.lanes.get 1).length)) =
        some (8, 1, 0)
      ∧ t.map (fun t => match t.store.port with
        | .write ch _ id page _ => (ch, id, page)
        | _ => (0, none, 0)) = some (1, some 4, 20) := by decide +kernel

/-- R72: the end of the last page of an aborted pull is what TRAVERSE_DONE(ABORTED) waited for. -/
theorem test_last_write_reports : (after .pageWriteEnd (lastWriteAlone
      { channel .ready with reports := [3] } { trav3 .aborted with inWrite := 1, stored := 56 })).map
        (fun t => ((t.chan 0).sent, (t.chan 0).reports, t.store.port)) =
    some ([.traverseDone 3 56 0 ⟨false, false, false, false⟩ true], [], .fetch 1 8 0 true) := by
  decide +kernel

/-- A stream of two pages of traverse 3. -/
def stream3 : Stream := newStream 9 3 0 2

theorem witness_FetchEndDeliversOrEndsTheStream :
    let s := linked (with3 (running (tube .acquired)) { trav3 .complete with pages := [0, 1], written := 2 })
      1 fun x => { x with stream := some { stream3 with fetch := .fetching } }
    let f := { s with store := { s.store with port := .fetch 1 0 0 true } }
    f.awake ∧ (f.stn 1).line = none ∧ (f.stn 1).queueFull = [] ∧ (f.stn 1).reply = none
      ∧ (f.stn 1).stream = some { stream3 with fetch := .fetching }
      ∧ crcGood (List.replicate 4 (0x00 : Byte)) = false
      ∧ stream3.next + 1 < stream3.first + stream3.count
      ∧ (f.trav? 3).map (fun t => decide (1 < t.written)) = some true
      ∧ (f.stn 0).stream = none ∧ (f.stn 2).stream = none ∧ (∀ k, f.store.lanes.get k = [])
      ∧ (∀ k, part.store.lanes.get k = []) ∧ part.store.port = .free := by decide +kernel

/-- The part with page 5 of traverse 3, its second, being fetched for station 1, whose stream and line are
as given. -/
def fetching (line : Option StationOut) (output : Option (Nat × List Byte)) : State :=
  let s := linked (with3 (running (tube .acquired))
      { trav3 .complete with pages := [4, 5, 6], written := 3, readers := 1 }) 1 fun x =>
    { x with
      line := line
      stream := some { newStream 9 3 0 3 with
        next := 1, sent := if output.isSome then 0 else 1, output := output, fetch := .fetching } }
  { s with store := { s.store with port := .fetch 1 5 1 true, lastFetch := 1 } }

/-- A fetch that ends while a page is being sent, and one that ends while another frame is. -/
theorem witness_FetchEndDeliversOrEndsTheStream_busy :
    let f := fetching (some (.pageData 9 0 [1])) (some (0, [1]))
    let g := fetching (some .idle) none
    f.awake ∧ f.store.port = .fetch 1 5 1 true ∧ (f.stn 1).line ≠ none
      ∧ ((f.stn 1).stream.map (·.output)) = some (some (0, [1]))
      ∧ ((f.stn 1).stream.map fun r => (r.fetch, r.ending, r.registered)) = some (.fetching, none, true)
      ∧ (f.trav? 3).map (·.archived) = some false
      ∧ g.awake ∧ (g.stn 1).line ≠ none ∧ ((g.stn 1).stream.map (·.output)) = some none
      ∧ g.store.port = .fetch 1 5 1 true ∧ (g.trav? 3).map (·.readers) = some 1 := by decide +kernel

/-- A fetch for the last reader of an archived and settled traverse, with the output buffer empty. -/
theorem witness_FetchEndDeliversOrEndsTheStream_archived :
    let g := fetching none none
    let t := { trav3 .complete with
      pages := [4, 5, 6], written := 3, readers := 1, archived := true, settled := true }
    let a := { g with store := { g.store with directory := [t] } }
    a.awake ∧ a.store.port = .fetch 1 5 1 true ∧ a.trav? 3 = some t ∧ t.freedByReader = true
      ∧ ((a.stn 1).stream.map fun r => (r.fetch, r.ending, r.registered)) = some (.fetching, none, true)
      ∧ (∀ k, a.store.lanes.get k = []) ∧ (a.stn 0).stream = none ∧ (a.stn 2).stream = none := by
  decide +kernel

/-- R173, R175: a page that fails its CRC while another is being sent ends nothing yet: the line goes on,
and the ending with the failing page waits for the end of that send. -/
theorem test_fetch_end_sending :
    let t := ((fetching (some (.pageData 9 0 [1])) (some (0, [1]))).modStream 1 fun r =>
      r.fetched 5 1 (List.replicate 4 0)).pump 1
    (t.stn 1).line = some (.pageData 9 0 [1])
      ∧ (t.stn 1).stream.map (fun r => (r.fetch, r.ending)) = some (.empty, some (.dataError 1 5))
      ∧ (t.trav? 3).map (·.readers) = some 1 := by decide +kernel

theorem witness_VerdictEndsTheEvaluation : (running (tube .acquired)).calLaw
    ∧ (let s := on0 (with3 (running (tube .acquired)) { calTraverse with id := 3 })
         { channel .evaluating with traverse := some 3 }
       let v := s.setAttempt 0 (some ⟨3, 1, ident.probe, .evaluating⟩)
       v.awake ∧ v.session.isSome = true ∧ v.attempt? 0 = some ⟨3, 1, ident.probe, .evaluating⟩
        ∧ v.trav? 3 = some { calTraverse with id := 3 } ∧ v.standard? 1 = some standard1
        ∧ v.openBracket 0 = some bracket1 ∧ (v.chan 0).state = .evaluating
        ∧ v.logEntry? bracket1.openingLog = some entry1
        ∧ (evaluate standard1 { calTraverse with id := 3 }).toOption.isSome = true
        ∧ (evaluate standard1 { calTraverse with lost := 1 }).toOption = none
        ∧ bracket1.traverses.all (fun n => (v.trav? n).isNone) = false
        ∧ (∀ c, c ≠ 0 → v.openBracket c = none)) := by
  exact ⟨calLaw_running _, by decide +kernel⟩

/-- A channel with no bracket open, and an OFFLINE one, at the verdict. -/
theorem witness_VerdictEndsTheEvaluation_more :
    let t := { calTraverse with id := 3 }
    let s := (on0 (with3 { running (tube .acquired) with cal := Calibration.reset } t)
      { channel .evaluating with traverse := some 3 }).setAttempt 0 (some ⟨3, 1, ident.probe, .evaluating⟩)
    let o := (with3 (running (tube .acquired)) t).setAttempt 0 (some ⟨3, 1, ident.probe, .evaluating⟩)
    s.awake ∧ s.openBracket 0 = none ∧ (s.chan 0).state = .evaluating ∧ s.trav? 3 = some t
      ∧ s.standard? 1 = some standard1 ∧ t.archived = false
      ∧ o.awake ∧ (o.chan 0).state = .offline ∧ o.openBracket 0 = some bracket1
      ∧ o.trav? 3 = some t := by decide +kernel

/-- A calibration traverse archived while it was COMPLETE, at the verdict: released, and waiting for a
reader. -/
theorem witness_VerdictEndsTheEvaluation_archived :
    let t := { calTraverse with id := 3, archived := true, pages := [4, 5] }
    let u := { t with readers := 1 }
    let s := (on0 (with3 (running (tube .acquired)) t)
      { channel .evaluating with traverse := some 3 }).setAttempt 0 (some ⟨3, 1, ident.probe, .evaluating⟩)
    s.awake ∧ s.trav? 3 = some t ∧ s.standard? 1 = some standard1 ∧ t.freedBySettling = true
      ∧ u.freedBySettling = false ∧ s.attempt? 0 = some ⟨3, 1, ident.probe, .evaluating⟩ := by decide +kernel

/-- R83, R84: the verdict settles the archived traverse and so releases it. -/
theorem test_verdict_releases :
    let t := { calTraverse with id := 3, archived := true, pages := [4, 5] }
    (after (.calibrationVerdict 0) ((on0 (with3 (running (tube .acquired)) t)
      { channel .evaluating with traverse := some 3 }).setAttempt 0
        (some ⟨3, 1, ident.probe, .evaluating⟩))).map (fun t =>
          (t.store.directory, (t.stn 2).events.head?.map (·.event))) =
    some ([], some (.traverseReleased 3 .calibration 2)) := by decide +kernel

/-- R128: the verdict that closes bracket 1 sends CAL_RESULT with the log number and the bracket's
outcome, and then PERMIT. -/
theorem test_accepted_result :
    (after (.calibrationVerdict 0) ((on0 (with3 (running (tube .acquired)) { calTraverse with id := 3 })
      { channel .evaluating with traverse := some 3 }).setAttempt 0
        (some ⟨3, 1, ident.probe, .evaluating⟩))).map (fun t => (t.chan 0).sent) =
    some [.calResult 3 (.accepted 2 (.closed 1 true)), .permit ⟨true, .none⟩] := by decide +kernel

theorem witness_SweepsPresentInTurn : (running held).calLaw
    ∧ (let s := { running held with session := some { session [held] true with seconds := 14500 } }
       s.awake ∧ s.openBracket 0 = some bracket1 ∧ bracket1.calDue = none
        ∧ bracket1.openedAt + (session [held] true).plan.limits.interval * 3600 ≤ 14500)
    ∧ (let b := { bracket1 with state := .closedFail, sweep := .running, toPresent := [3] }
       let s := with3 { running (tube .acquired) with cal := calState b } (trav3 .complete)
       s.awake ∧ s.bracket? 1 = some b ∧ s.trav? 3 = some (trav3 .complete)
        ∧ s.tube? p11 = some (tube .acquired))
    ∧ (let b := { bracket1 with state := .closedGood, sweep := .running, toPresent := [3, 4] }
       let s := with3 { running (tube .retest) with cal := calState b } (trav3 .complete)
       s.awake ∧ s.bracket? 1 = some b ∧ s.trav? 3 = some (trav3 .complete)
        ∧ s.tube? p11 = some (tube .retest) ∧ s.trav? 4 = none) := by
  exact ⟨calLaw_running _, by decide +kernel⟩

/-- R139, R141: the presentation that moves the tube and ends the sweep raises TUBE_RETEST and then
BRACKET_CLOSED with the count. -/
theorem test_last_presentation :
    let b := { bracket1 with state := .closedFail, sweep := .running, toPresent := [3, 4], retests := some 2 }
    (after (.closedFailPresentation 1)
      (with3 { running (tube .acquired) with cal := calState b } (trav3 .complete))).map
        (fun t => ((t.stn 0).events.map (·.event), (t.bracket? 1).map (·.sweep))) =
    some ([.tubeRetest p11 .bracketFail 1, .bracketClosed 0 1 false 3], some .done) := by decide +kernel

/-- A presented traverse that was archived while it was COMPLETE: released, and waiting for a reader. -/
theorem witness_SweepsPresentInTurn_archived :
    let t := { trav3 .complete with archived := true, pages := [4] }
    let b := { bracket1 with state := .closedFail, sweep := .running, toPresent := [3, 4] }
    let s := with3 { running (tube .acquired) with cal := calState b } t
    s.awake ∧ s.bracket? 1 = some b ∧ s.trav? 3 = some t ∧ s.tube? p11 = some (tube .acquired)
      ∧ t.freedBySettling = true ∧ { t with readers := 1 }.freedBySettling = false
      ∧ t.target = .tube p11 ∧ t.state = .complete := by decide +kernel

/-- R73, R84, R141: the presentation releases the archived traverse, and the events stand in the order of
log entry 21. -/
theorem test_presentation_releases :
    let b := { bracket1 with state := .closedFail, sweep := .running, toPresent := [3] }
    (after (.closedFailPresentation 1)
      (with3 { running (tube .acquired) with cal := calState b }
        { trav3 .complete with archived := true, pages := [4] })).map
          (fun t => (t.store.directory, (t.stn 2).events.map (·.event))) =
    some ([], [.traverseReleased 3 .inspection 1, .tubeRetest p11 .bracketFail 1,
      .bracketClosed 0 1 false 1]) := by decide +kernel

/-- A comparison of the tube of the tests in hand. -/
def comparing (t : TubeEntry) (c : Comparison) : State :=
  { with3 (running t) (trav3 .complete) with comparisons := [{ c with pos := p11 }] }

theorem witness_ComparisonEndAppliesTheOutcome :
    let s := comparing (tube .acquired) comparison88
    s.awake ∧ s.session.isSome = true ∧ s.comparison? p11 = some { comparison88 with pos := p11 }
      ∧ s.tube? p11 = some (tube .acquired) ∧ (tube .acquired).traverse = some comparison88.traverse
      ∧ (comparing (tube .retest) comparison88).tube? p11 = some (tube .retest)
      ∧ { comparison88 with primary := callOf .retestRequired [] .primary }.outcome
        = .disagreement (.oneRetest .primary)
      ∧ { comparison88 with primary := callOf .retestRequired [] .primary
                            second := callOf .notUsable [] .automatic }.outcome = .bothRetest
      ∧ (with3 s (trav3 .complete)).trav? 3 = some (trav3 .complete) ∧ comparison88.traverse = 3
      ∧ (trav3 .complete).archived = false ∧ (trav3 .complete).target.kind = .inspection := by
  decide +kernel

/-- A compared traverse that was archived while it was COMPLETE. -/
theorem witness_ComparisonEndAppliesTheOutcome_archived :
    let t := { trav3 .complete with archived := true, pages := [4] }
    let s := with3 (comparing (tube .acquired) comparison88) t
    s.awake ∧ s.trav? 3 = some t ∧ t.freedBySettling = true ∧ t.target.kind = .inspection
      ∧ s.comparison? p11 = some { comparison88 with pos := p11 }
      ∧ (running held).trav? 3 = none := by decide +kernel

/-- R33, R160: two requests for a retest make the compared traverse INVALIDATED. -/
theorem test_both_retest :
    let c := { comparison88 with primary := callOf .retestRequired [] .primary
                                 second := callOf .notUsable [] .automatic }
    (after (.comparisonEnd 1 1) (with3 (comparing (tube .acquired) c) (trav3 .complete))).map
        (fun t => ((t.trav? 3).map fun u => (u.state, u.settled), (t.stn 2).events.map (·.event))) =
      some (some (.invalidated, true), [.tubeRetest p11 .bothRetest 1]) := by decide +kernel

theorem witness_StationArrivalsAsTheyCome : part.awake ∧ (part.stn 1).queue.length < 8
    ∧ (let x := { linkUp .primary with queue := List.replicate 8 ⟨1, .readStatus⟩ }
       8 ≤ x.queue.length ∧ x.queueFull = [] ∧ x.line = none ∧ x.stream = none)
    ∧ (let x := { linkUp .primary with
         queue := List.replicate 8 ⟨1, .readStatus⟩, queueFull := List.replicate 7 (1, 19)
         line := some .idle }
       8 ≤ x.queue.length ∧ x.queueFull.length < 8 ∧ x.line ≠ none)
    ∧ (List.replicate 8 ((1 : Nat), (19 : Nat))).length = 8
    ∧ (part.stn 1).link = .up ∧ (State.reset.stn 1).link = .down := by decide +kernel

/-- Station 1 reading traverse 3. -/
def reading3 (r : Stream) (line : Option StationOut) : State :=
  linked (with3 (running (tube .acquired))
      { trav3 .complete with pages := [0, 1], written := 2, readers := 1 }) 1 fun x =>
    { x with stream := some r, line := line, queue := [⟨9, .readPages 3 0 2⟩], inHand := true }

theorem witness_StreamsEndEarly :
    let s := reading3 stream3 none
    let busy := reading3 { stream3 with output := some (0, []) } (some (.pageData 9 0 []))
    s.awake ∧ (s.stn 1).stream = some stream3 ∧ stream3.registered = true
      ∧ (s.trav? 3).map (·.archived) = some false ∧ stream3.output = none ∧ (s.stn 1).link = .up
      ∧ busy.awake ∧ (busy.stn 1).line ≠ none
      ∧ (let t := { trav3 .complete with
           pages := [0, 1], written := 2, readers := 1, archived := true, settled := true }
         let a := { s with store := { s.store with directory := [t] } }
         a.awake ∧ (a.stn 1).stream = some stream3 ∧ a.trav? 3 = some t
          ∧ (a.stn 1).link = .up ∧ t.freedByReader = true
          ∧ { t with readers := 2 }.freedByReader = false) := by decide +kernel

/-- The last page of the last reader of an archived and settled traverse at the end of its send. -/
theorem witness_SendEndsChooseTheNextFrame_archived :
    let t := { trav3 .complete with
      pages := [0, 1], written := 2, readers := 1, archived := true, settled := true }
    let e := reading3 { stream3 with output := some (1, []), next := 2, sent := 1 }
      (some (.pageData 9 1 []))
    let a := { e with store := { e.store with directory := [t] } }
    a.awake ∧ a.trav? 3 = some t ∧ t.freedByReader = true
      ∧ (a.stn 1).stream.map (fun r => (r.registered, r.fetch, r.ending)) = some (true, .empty, none)
      ∧ (a.stn 1).line = some (.pageData 9 1 []) := by decide +kernel

theorem witness_SendEndsChooseTheNextFrame :
    let a := linked part 1 fun x => { x with line := some (.response 9 19 .ok .none) }
    let b := linked part 1 fun x => { x with line := some .idle, reply := some .idle }
    let c := linked part 1 fun x => { x with line := some .idle, queueFull := [(1, 19)] }
    let d := reading3 { stream3 with output := some (0, []), fetch := .full [] }
      (some (.pageData 9 0 []))
    let e := reading3 { stream3 with output := some (1, []), next := 2, sent := 1 }
      (some (.pageData 9 1 []))
    (a.stn 1).line = some (.response 9 19 .ok .none) ∧ (a.stn 1).queueFull = []
      ∧ (b.stn 1).reply = some .idle ∧ (c.stn 1).queueFull = [(1, 19)]
      ∧ (d.stn 1).line = some (.pageData 9 0 []) ∧ (d.stn 1).reply = none
      ∧ (e.stn 1).stream.map (·.sent + 1) = some 2 ∧ (part.stn 1).line = none
      ∧ d.awake ∧ b.awake ∧ (b.stn 1).line = some .idle := by decide +kernel

theorem witness_ReadPagesStartsAStream :
    let t := { trav3 .complete with pages := [0, 1], written := 2 }
    let s := asked (with3 (running (tube .acquired)) t) 1 (.readPages 3 1 256)
    s.mayBegin 1 9 (.readPages 3 1 256) ∧ s.session ≠ none ∧ s.trav? 3 = some t
      ∧ t.releasePending = false ∧ t.archived = false ∧ s.store.port = .free
      ∧ (s.stn 1).line = none ∧ (s.stn 1).queueFull = []
      ∧ (asked part 1 (.readPages 3 1170 1)).session = none
      ∧ (asked (running held) 1 (.readPages 3 1171 1)).mayBegin 1 9 (.readPages 3 1171 1)
      ∧ (asked (running held) 1 (.readPages 3 1170 1)).trav? 3 = none := by decide +kernel

theorem witness_RequestsWaitTheirTurn : part.awake ∧ ¬part.mayBegin 1 9 .readStatus
    ∧ (asked part 1 (.unreadable 77)).mayBegin 1 9 (.unreadable 77)
    ∧ (asked part 1 .lockPlan).mayBegin 1 9 .lockPlan ∧ (part.stn 1).role ≠ some .lead
    ∧ requestCode (.declareProbeFailed 0) ≤ 17
    ∧ (asked part 2 (.submitCall 1 1 3 ⟨.ndd, []⟩)).mayBegin 2 9 (.submitCall 1 1 3 ⟨.ndd, []⟩)
    ∧ (part.stn 2).role = some .lead := by decide +kernel

theorem witness_SessionsOpenAndClose :
    (asked part 2 (.openSession 5)).leadBegins 2 9 (.openSession 5) ∧ part.session = none
    ∧ (asked (running held) 2 (.openSession 5)).session ≠ none
    ∧ (let s := asked (inPull .recording .recording) 2 (.closeSession true)
       s.leadBegins 2 9 (.closeSession true) ∧ s.session.isSome = true ∧ s.store.directory ≠ [])
    ∧ (let s := asked (running (tube .final)) 2 (.closeSession false)
       s.leadBegins 2 9 (.closeSession false) ∧ s.store.directory = []
        ∧ s.store.reservedSlots = 0) := by decide +kernel

theorem witness_SaveGoesStepByStep : (asked part 2 .saveConfig).leadBegins 2 9 .saveConfig
    ∧ (let s := { saving .eraseWait with
                  config := { (saving .eraseWait).config with protectRose := true } }
       s.awake ∧ s.config.cfgProtect = false
        ∧ s.config.save = .running part.config.shadow .eraseWait 0)
    ∧ part.config.cfgProtect = false ∧ part.config.save = .idle ∧ part.awake
    ∧ (saving .start).config.save = .running part.config.shadow .start 0
    ∧ (saving .erase).config.save = .running part.config.shadow .erase 0
    ∧ (saving .eraseWait).config.save = .running part.config.shadow .eraseWait 0
    ∧ (saving (.program 14)).config.save = .running part.config.shadow (.program 14) 0
    ∧ (saving (.programWait 14)).config.save = .running part.config.shadow (.programWait 14) 0
    ∧ (saving (.programWait 15)).config.save = .running part.config.shadow (.programWait 15) 0
    ∧ (saving .readBack).config.save = .running part.config.shadow .readBack 0
    ∧ (imageOf part.config.shadow).length = 4096
    ∧ (imageOf part.config.shadow)[0]? ≠ (List.replicate 4096 (0xFF : Byte))[0]?
    ∧ (saving (.writeEnable .erase)).config.save ≠ .idle := by decide +kernel

theorem witness_SaveGoesStepByStep_noWait :
    (∀ y j, (saving .start).config.save ≠ .running y .eraseWait j)
      ∧ ∀ y i j, (saving .start).config.save ≠ .running y (.programWait i) j := by
  exact ⟨fun _ _ h => (nomatch h), fun _ _ _ h => (nomatch h)⟩

/-- The part in an open session whose plan is not locked. -/
def editing (tubes : List TubeEntry) : State := { part with session := some (session tubes false) }

theorem witness_PlanEditsInOrder : (part.stn 2).role = some .lead
    ∧ (asked (editing []) 2 (.defineGeometry 15 40 30000)).mayBegin 2 9 (.defineGeometry 15 40 30000)
    ∧ (asked (editing []) 2 (.defineGeometry 15 41 30000)).mayBegin 2 9 (.defineGeometry 15 41 30000)
    ∧ (session [] false).plan.locked = false ∧ (session [] true).plan.locked = true
    ∧ (asked (editing []) 2 (.setSecondOpinion .automatic)).mayBegin 2 9 (.setSecondOpinion .automatic)
    ∧ (asked part 2 (.setSecondOpinion .analyst)).session = none := by decide +kernel

theorem witness_WindowsStandardsAndTheLock :
    (asked (running held) 2 (.setWindow 3 ⟨0, 255, 7, 7⟩)).mayBegin 2 9 (.setWindow 3 ⟨0, 255, 7, 7⟩)
    ∧ (asked (running held) 2 (.setExclusions true (List.replicate 16 ⟨1, 1, 2, 2⟩))).mayBegin 2 9
        (.setExclusions true (List.replicate 16 ⟨1, 1, 2, 2⟩))
    ∧ (asked part 2 (.defineStandard 7 [100, 1, 2] 4 30000)).mayBegin 2 9
        (.defineStandard 7 [100, 1, 2] 4 30000)
    ∧ [100, 1, 2].Nodup ∧ part.planLocked = false ∧ (running held).planLocked = true
    ∧ (asked (editing [tube .pending]) 2 .lockPlan).mayBegin 2 9 .lockPlan
    ∧ ((session [tube .pending] false).plan.classes[0]?).join = some ⟨40, 12200⟩
    ∧ some standard1 ∈ part.config.shadow.standards ∧ (part.stn 2).role = some .lead := by
  decide +kernel

theorem witness_TubeRunsAreDefinedAndRemoved : (editing []).session = some (session [] false)
    ∧ (editing []).tubeLaw
    ∧ (asked (editing []) 2 (.defineTubes 255 1 255 15 .plugged)).mayBegin 2 9
        (.defineTubes 255 1 255 15 .plugged)
    ∧ (asked (editing []) 2 (.removeTubes 1 3 3)).mayBegin 2 9 (.removeTubes 1 3 3)
    ∧ (asked (running held) 2 (.removeTubes 1 5 3)).mayBegin 2 9 (.removeTubes 1 5 3)
    ∧ (running held).session = some (session [held] true) ∧ (session [held] true).plan.locked = true
    ∧ (asked part 2 (.defineTubes 0 1 1 16 .plugged)).mayBegin 2 9 (.defineTubes 0 1 1 16 .plugged)
    ∧ part.session = none := by
  refine ⟨rfl, ?_, by decide +kernel⟩
  intro x hx
  cases hx
  exact ⟨by simp [session], by intro t; cases t <;> decide⟩

theorem witness_TubeDecisionsOfTheLead :
    (let s := asked (with3 (running (tube .final)) (trav3 .complete)) 2 (.requestRetest 1 1 true)
     (s.stn 2).role = some .lead ∧ s.mayBegin 2 9 (.requestRetest 1 1 true) ∧ s.session ≠ none
      ∧ s.tube? p11 = some (tube .final) ∧ s.trav? 3 = some (trav3 .complete))
    ∧ (asked (running (tube .plugRecommended)) 2 (.confirmPlug 1 1)).mayBegin 2 9 (.confirmPlug 1 1)
    ∧ (let call : SubmittedCall := ⟨.indications, [⟨some 48, 30000, 100, 15⟩]⟩
       let s := asked (running (tube .resolution)) 2 (.submitFinal 1 1 3 call)
       s.mayBegin 2 9 (.submitFinal 1 1 3 call) ∧ goodCall call = true
        ∧ s.tube? p11 = some (tube .resolution)) := by decide +kernel

/-- A decided tube whose traverse was archived while it was COMPLETE. -/
theorem witness_TubeDecisionsOfTheLead_archived :
    let t := { trav3 .complete with archived := true, pages := [4] }
    let s := asked (with3 (running (tube .resolution)) t) 2 (.submitFinal 1 1 3 ⟨.ndd, []⟩)
    (s.stn 2).role = some .lead ∧ s.mayBegin 2 9 (.submitFinal 1 1 3 ⟨.ndd, []⟩) ∧ s.trav? 3 = some t
      ∧ s.tube? p11 = some (tube .resolution) ∧ t.freedBySettling = true ∧ t.target = .tube p11
      ∧ goodCall ⟨.ndd, []⟩ = true ∧ (tube .resolution).traverse = some 3 := by decide +kernel

theorem witness_CallsAndArchiving :
    (let s := asked (running (tube .acquired)) 0 (.submitCall 1 1 3 ⟨.ndd, []⟩)
     (s.stn 0).role = some .primary ∧ s.mayBegin 0 9 (.submitCall 1 1 3 ⟨.ndd, []⟩)
      ∧ goodCall ⟨.ndd, []⟩ = true ∧ s.tube? p11 = some (tube .acquired)
      ∧ goodCall ⟨.indications, [⟨some 48, 30000, 100, 15⟩, ⟨none, 0, 0, 1⟩]⟩ = true
      ∧ goodCall ⟨.indications, []⟩ = false ∧ goodCall ⟨.indications, [⟨some 49, 0, 0, 1⟩]⟩ = false
      ∧ s.session = some (session [tube .acquired] true))
    ∧ (let t := { trav3 .complete with settled := true, pages := [0, 1] }
       let s := asked (with3 (running (tube .final)) t) 2 (.markArchived 3)
       s.leadBegins 2 9 (.markArchived 3) ∧ s.session ≠ none ∧ s.trav? 3 = some t
        ∧ t.archived = false ∧ t.readers = 0 ∧ t.inWrite = 0) := by decide +kernel

/-- R82, R84: an archived, settled traverse of two pages is released, and the answer says so. -/
theorem test_released :
    let t := { trav3 .complete with settled := true, pages := [0, 1] }
    (after (.markArchived 2 9 3) (asked (with3 (running (tube .final)) t) 2 (.markArchived 3))).map
        (fun y => ((y.stn 2).events.map (·.event), (y.stn 2).line)) =
      some ([.traverseReleased 3 .inspection 2],
        some (.response 9 16 .ok (.archived 3 .released))) := by decide +kernel

/-- R35: REQUEST_RETEST with reset-attempts takes a PENDING tube of an unlocked plan to RETEST (log entry
45). -/
theorem test_retest_unlocked :
    (after (.requestRetest 2 9 1 1 true) (asked { part with
        session := some (session [newTube p11 0 .inService 10] false) } 2 (.requestRetest 1 1 true))).map
        (fun t => (t.tube? p11).map fun e => (e.state, e.cause, e.attempts)) =
      some (some (.retest, some .lead, 0)) := by decide +kernel

theorem witness_ReadsAnswerAndChangeNothing :
    (asked part 1 .readStatus).mayBegin 1 9 .readStatus
    ∧ (asked part 1 (.getEvents 16)).mayBegin 1 9 (.getEvents 16)
    ∧ (asked part 1 (.getEvents 17)).mayBegin 1 9 (.getEvents 17)
    ∧ (asked (running held) 1 (.readTube 1 1)).mayBegin 1 9 (.readTube 1 1)
    ∧ (running held).tube? p11 = some held
    ∧ (asked (running held) 1 (.scanTubes 1 1 [.claimed] 32)).mayBegin 1 9 (.scanTubes 1 1 [.claimed] 32)
    ∧ (let h := { held with pos := ⟨1, 255⟩ }
       let l := { held with pos := ⟨2, 1⟩ }
       ([h, l].take 1).getLast? = some h ∧ [h, l].getLast? = some l ∧ h.pos ≠ l.pos)
    ∧ (saving .erase).config.save = .running part.config.shadow .erase 0
    ∧ (asked (running held) 1 (.readTraverse 3)).mayBegin 1 9 (.readTraverse 3)
    ∧ (with3 (running held) (trav3 .recording)).trav? 3 = some (trav3 .recording)
    ∧ (trav3 .recording).landmarks = none ∧ (trav3 .aborted).landmarks = none
    ∧ (trav3 .aborted).state = .aborted ∧ (some ⟨[], 0⟩ : Option LandmarkList) ≠ none
    ∧ (asked part 1 (.readChannel 3)).mayBegin 1 9 (.readChannel 3)
    ∧ (asked (running held) 1 (.readCalLog 1)).mayBegin 1 9 (.readCalLog 1)
    ∧ (asked (running held) 1 (.readBracket 1)).mayBegin 1 9 (.readBracket 1)
    ∧ (running held).bracket? 1 = some bracket1 ∧ (running held).logEntry? 1 = some entry1
    ∧ (asked part 1 .readConfig).mayBegin 1 9 .readConfig := by decide +kernel

theorem witness_EventsGoToTheirStations : State.reset.config.phase ≠ .ready
    ∧ part.config.phase = .ready ∧ (part.stn 0).role = some .primary
    ∧ (part.stn 0).events.length < 64
    ∧ routes .analyst (.storeLow 65535) .primary = false
    ∧ routes .analyst (.tubeRetest p11 .lead 1) .primary = true
    ∧ (let s := { part with store := { part.store with pool := [⟨0, 65535⟩] } }
       poolCount s.store.pool - s.store.reservedPages = 65535 ∧ s.store.low = false)
    ∧ (let s := { part with store := { part.store with pool := [⟨0, 131072⟩], low := true } }
       poolCount s.store.pool - s.store.reservedPages = 131072 ∧ s.store.low = true) := by
  decide +kernel

end Sys2Proof.Tests
end

section
namespace Sys2Proof.Machine

/-! Requests of the lead, and the edits of a plan (R2). -/

/-- A lead's request is answered with what its body gives on the begun state. -/
theorem State.leadRequest_answer (s : State) (st : Stn) (tag : Nat) (req : Request)
    (body : State → State × Reply) (t : State) (r : Status) (c : Content)
    (h : s.leadBegins st tag req) (hb : body (s.begun st) = (t, ⟨r, c⟩)) :
    s.leadRequest st tag req body = .next (t.answered st tag (requestCode req) r c) := by
  rw [State.leadRequest_begun s st tag req body h, hb]

/-- The check for a session, with none open. -/
theorem State.withSession_none (s : State) (body : Session → State × Reply) (h : s.session = none) :
    s.withSession body = (s, .refuse .noSession) := by
  simp [State.withSession, h]

/-- The check for a session, with one open. -/
theorem State.withSession_some (s : State) (body : Session → State × Reply) (x : Session)
    (h : s.session = some x) : s.withSession body = body x := by
  simp [State.withSession, h]

/-- An edit without a session is refused. -/
theorem State.editRequest_noSession (s : State) (st : Stn) (tag : Nat) (req : Request) (good : Bool)
    (body : State → Session → State × Reply) (h : s.leadBegins st tag req) (hs : s.session = none) :
    s.editRequest st tag req good body =
      .next ((s.begun st).answered st tag (requestCode req) .noSession .none) :=
  s.leadRequest_answer st tag req _ _ _ _ h (State.withSession_none _ _ hs)

/-- An edit under a lock is refused, whatever its arguments. -/
theorem State.editRequest_locked (s : State) (st : Stn) (tag : Nat) (req : Request) (good : Bool)
    (body : State → Session → State × Reply) (x : Session) (h : s.leadBegins st tag req)
    (hs : s.session = some x) (hl : x.plan.locked = true) :
    s.editRequest st tag req good body =
      .next ((s.begun st).answered st tag (requestCode req) .planLocked .none) := by
  refine s.leadRequest_answer st tag req _ _ _ _ h ?_
  rw [State.withSession_some (s.begun st) _ x hs, if_pos hl]
  rfl

/-- An edit of an unlocked plan with bad arguments is refused. -/
theorem State.editRequest_badArgument (s : State) (st : Stn) (tag : Nat) (req : Request)
    (good : Bool) (body : State → Session → State × Reply) (x : Session)
    (h : s.leadBegins st tag req) (hs : s.session = some x) (hl : x.plan.locked = false)
    (hg : good = false) :
    s.editRequest st tag req good body =
      .next ((s.begun st).answered st tag (requestCode req) .badArgument .none) := by
  refine s.leadRequest_answer st tag req _ _ _ _ h ?_
  simp [State.withSession_some (s.begun st) _ x hs, hl, hg, Reply.refuse]

/-- An edit of an unlocked plan with good arguments is answered with what its body gives. -/
theorem State.editRequest_good (s : State) (st : Stn) (tag : Nat) (req : Request) (good : Bool)
    (body : State → Session → State × Reply) (x : Session) (t : State) (r : Status) (c : Content)
    (h : s.leadBegins st tag req) (hs : s.session = some x) (hl : x.plan.locked = false)
    (hg : good = true) (hb : body (s.begun st) x = (t, ⟨r, c⟩)) :
    s.editRequest st tag req good body = .next (t.answered st tag (requestCode req) r c) := by
  refine s.leadRequest_answer st tag req _ _ _ _ h ?_
  simpa [State.withSession_some (s.begun st) _ x hs, hl, hg] using hb

/-- The session changed while a request is in hand is the session changed before it was begun. -/
theorem State.modSession_begun (s : State) (st : Stn) (f : Session → Session) (x : Session)
    (hs : s.session = some x) :
    (s.begun st).modSession f = State.begun { s with session := some (f x) } st := by
  simp [State.modSession, State.begun, hs]

/-- The plan changed while a request is in hand is the plan changed before it was begun. -/
theorem State.modPlan_begun (s : State) (st : Stn) (f : Plan → Plan) (x : Session)
    (hs : s.session = some x) :
    (s.begun st).modPlan f =
      State.begun { s with session := some { x with plan := f x.plan } } st :=
  s.modSession_begun st _ x hs

/-- The arguments that R3 admits. -/
theorem goodGeometry_iff (cls count length : Nat) :
    goodGeometry cls count length = true ↔
      cls ≤ 15 ∧ 2 ≤ count ∧ count ≤ 40 ∧ 1000 ≤ length ∧ length ≤ 30000 := by
  simp [goodGeometry, within, and_assoc]

/-! The ranges of the limits (R8, R9). -/

/-- Clamping moves a value to the nearest end of its range. -/
theorem clampTo_eq (lo hi v : Nat) (h : lo ≤ hi) : clampTo lo hi v = max lo (min v hi) := by
  unfold clampTo
  split
  · omega
  · split <;> omega

/-- Clamping moves exactly the values outside the range. -/
theorem moved_clampTo (lo hi v : Nat) (h : lo ≤ hi) :
    moved v (clampTo lo hi v) = decide (v < lo ∨ hi < v) := by
  rw [clampTo_eq lo hi v h, moved, Bool.eq_iff_iff]
  simp only [bne_iff_ne, decide_eq_true_eq]
  omega

/-- A limit given in a SET_LIMITS is clamped, and one that is absent stays. -/
theorem appliedLimit_eq (lo hi v : Nat) (given : Option Nat) (h : lo ≤ hi) :
    (if given.isSome then clampTo lo hi (given.getD v) else v) =
      match given with
      | none => v
      | some g => max lo (min g hi) := by
  cases given with
  | none => rfl
  | some g => simp [clampTo_eq lo hi g h]

/-- A limit given in a SET_LIMITS has its flag where it is outside its range, and an absent one has
none. -/
theorem appliedFlag_eq (lo hi v : Nat) (given : Option Nat) (h : lo ≤ hi) :
    (given.isSome && moved (given.getD v) (clampTo lo hi (given.getD v))) =
      match given with
      | none => false
      | some g => decide (g < lo ∨ hi < g) := by
  cases given with
  | none => rfl
  | some g => simp [moved_clampTo lo hi g h]

/-- Settles O54: each edit is an editing request, and the tables of limits agree place by place. -/
theorem planEditsInOrder : Obligations.PlanEditsInOrder := by
  intro st tag s lead no edit
  refine ⟨?_, ?_, ?_, ?_⟩
  · intro cls count length req begins
    have lb : s.leadBegins st tag req := ⟨begins, lead⟩
    refine ⟨State.editRequest_noSession s st tag req _ _ lb, fun x hx =>
      ⟨State.editRequest_locked s st tag req _ _ x lb hx, fun unlocked => ⟨fun bad => ?_, ?_⟩⟩⟩
    · refine State.editRequest_badArgument s st tag req _ _ x lb hx unlocked ?_
      rwa [← goodGeometry_iff, Bool.not_eq_true] at bad
    · intro h1 h2 h3 h4 h5
      have good := (goodGeometry_iff cls count length).2 ⟨h1, h2, h3, h4, h5⟩
      exact State.editRequest_good s st tag _ _ _ x _ _ _ lb hx unlocked good
        (congrArg (·, _) (s.modPlan_begun st _ x hx))
  · intro v begins
    have lb : s.leadBegins st tag (.setLimits v) := ⟨begins, lead⟩
    refine ⟨State.editRequest_noSession s st tag _ _ _ lb, fun x hx =>
      ⟨State.editRequest_locked s st tag _ _ _ x lb hx, fun unlocked => ?_⟩⟩
    exact State.editRequest_good s st tag _ _ _ x _ _ _ lb hx unlocked rfl
      (congrArg (·, _) (s.modPlan_begun st _ x hx))
  · intro m begins
    have lb : s.leadBegins st tag (.setSecondOpinion m) := ⟨begins, lead⟩
    refine ⟨State.editRequest_noSession s st tag _ _ _ lb, fun x hx =>
      ⟨State.editRequest_locked s st tag _ _ _ x lb hx, fun unlocked => ?_⟩⟩
    exact State.editRequest_good s st tag _ _ _ x _ _ _ lb hx unlocked rfl
      (congrArg (·, _) (s.modPlan_begun st _ x hx))
  · intro l v ranges held out
    refine ⟨?_, ?_, ?_, ?_⟩
    · simp [ranges, held, Limits.clamp, Limits.toList, clampTo_eq]
    · simp [ranges, out, Limits.clampedFlags, Limits.clamp, ClampFlags.toList, Limits.toList,
        moved_clampTo]
    · simp [ranges, held, Limits.apply, Limits.present, Limits.clamp, Limits.toList, limitList,
        appliedLimit_eq]
        <;> exact ⟨rfl, rfl, rfl, rfl, rfl, rfl, rfl, rfl, rfl⟩
    · simp [ranges, out, Limits.appliedFlags, Limits.present, Limits.clampedFlags, Limits.clamp,
        ClampFlags.toList, limitList, appliedFlag_eq]
        <;> exact ⟨rfl, rfl, rfl, rfl, rfl, rfl, rfl, rfl, rfl⟩

end Sys2Proof.Machine
end

section
namespace Sys2Proof.Machine

/-! Fields of an answered state. -/

@[simp] theorem State.session_answered (s : State) (st : Stn) (tag name : Nat) (r : Status)
    (c : Content) : (s.answered st tag name r c).session = s.session := rfl
@[simp] theorem State.channels_answered (s : State) (st : Stn) (tag name : Nat) (r : Status)
    (c : Content) : (s.answered st tag name r c).channels = s.channels := rfl
@[simp] theorem State.chan_answered (s : State) (st : Stn) (tag name : Nat) (r : Status)
    (c : Content) (ch : Chan) : (s.answered st tag name r c).chan ch = s.chan ch := rfl
@[simp] theorem State.store_answered (s : State) (st : Stn) (tag name : Nat) (r : Status)
    (c : Content) : (s.answered st tag name r c).store = s.store := rfl
@[simp] theorem State.cal_answered (s : State) (st : Stn) (tag name : Nat) (r : Status)
    (c : Content) : (s.answered st tag name r c).cal = s.cal := rfl
@[simp] theorem State.comparisons_answered (s : State) (st : Stn) (tag name : Nat) (r : Status)
    (c : Content) : (s.answered st tag name r c).comparisons = s.comparisons := rfl
@[simp] theorem State.config_answered (s : State) (st : Stn) (tag name : Nat) (r : Status)
    (c : Content) : (s.answered st tag name r c).config = s.config := rfl

/-- The answer depends on the stations alone. -/
theorem State.stations_answered_congr (s t : State) (st : Stn) (tag name : Nat) (r : Status)
    (c : Content) (h : s.stations = t.stations) :
    (s.answered st tag name r c).stations = (t.answered st tag name r c).stations := by
  simp [State.answered, h]

/-! The permits recomputed (R48). -/

/-- A channel but for its permit and the frames it has sent, which are all that a recomputed permit
changes. -/
def Channel.silent (c : Channel) : Channel := { c with permit := none, sent := [], quietMs := 0 }

/-- Channels that agree but for the permit and the sent frames are in the same state. -/
theorem Channel.state_eq_of_silent (c d : Channel) (h : c.silent = d.silent) : c.state = d.state :=
  (congrArg Channel.state h : c.silent.state = d.silent.state)

/-- A permit follows the session and the channel's state. -/
theorem State.permitNow_congr (s t : State) (ch : Chan) (hs : t.session = s.session)
    (hc : (t.chan ch).state = (s.chan ch).state) : t.permitNow ch = s.permitNow ch := by
  unfold State.permitNow
  rw [hs, hc]

/-- What a channel sends changes neither the rest of it nor its permit. -/
theorem State.sendProbe_silent (s : State) (ch k : Chan) (f : ProbeOut) :
    ((s.sendProbe ch f).chan k).silent = (s.chan k).silent
      ∧ ((s.sendProbe ch f).chan k).permit = (s.chan k).permit := by
  unfold State.sendProbe
  by_cases h : k = ch
  · subst h
    rw [State.chan_modChan_self]
    split <;> exact ⟨rfl, rfl⟩
  · rw [State.chan_modChan_other s ch k _ h]
    exact ⟨rfl, rfl⟩

/-- A channel's permit recomputed, said once: the channel has the permit of now, and the rest of it
and the permits of the others stay. -/
theorem State.refreshPermit_chan (s : State) (ch k : Chan) :
    ((s.refreshPermit ch).chan k).silent = (s.chan k).silent
      ∧ ((s.refreshPermit ch).chan k).permit =
          if k = ch then s.permitNow ch else (s.chan k).permit := by
  unfold State.refreshPermit
  generalize s.permitNow ch = p
  have changed : ∀ t : State, t = s.modChan ch (fun c => { c with permit := p }) →
      (t.chan k).silent = (s.chan k).silent
        ∧ (t.chan k).permit = if k = ch then p else (s.chan k).permit := by
    rintro _ rfl
    by_cases h : k = ch
    · subst h
      simp [Channel.silent]
    · simp [State.chan_modChan_other s ch k _ h, h]
  by_cases same : p = (s.chan ch).permit
  · simp only [same, if_true]
    refine ⟨trivial, ?_⟩
    split
    · next h => rw [h]
    · rfl
  · simp only [same, if_false]
    cases p with
    | none => exact changed _ rfl
    | some v =>
      obtain ⟨rest, permit⟩ := State.sendProbe_silent (s.modChan ch fun c => { c with permit := some v })
        ch k (.permit v)
      exact ⟨rest.trans (changed _ rfl).1, permit.trans (changed _ rfl).2⟩

/-- The permit that a channel should have is not changed by recomputing one. -/
theorem State.permitNow_refreshPermit (s : State) (ch k : Chan) :
    (s.refreshPermit ch).permitNow k = s.permitNow k :=
  State.permitNow_congr _ _ _ (s.session_refreshPermit ch)
    (Channel.state_eq_of_silent _ _ (s.refreshPermit_chan ch k).1)

/-- Every permit recomputed, said once: each channel has the permit of now, and the rest of it stays. -/
theorem State.refreshPermits_chan (s : State) (k : Chan) :
    (s.refreshPermits.chan k).silent = (s.chan k).silent
      ∧ (s.refreshPermits.chan k).permit = s.permitNow k := by
  unfold State.refreshPermits
  refine ⟨by simp only [State.refreshPermit_chan], ?_⟩
  simp only [State.refreshPermit_chan, State.permitNow_refreshPermit]
  match k with
  | 0 => rfl
  | 1 => rfl
  | 2 => rfl
  | 3 => rfl

/-- After every permit is recomputed each channel has the permit that R48 gives, in its old state. -/
theorem State.refreshPermits_permit (s : State) (k : Chan) :
    (s.refreshPermits.chan k).permit = s.refreshPermits.permitNow k
      ∧ (s.refreshPermits.chan k).state = (s.chan k).state := by
  obtain ⟨rest, permit⟩ := s.refreshPermits_chan k
  have state := Channel.state_eq_of_silent _ _ rest
  exact ⟨permit.trans (State.permitNow_congr _ _ _ s.session_refreshPermits state).symm, state⟩

/-! The arguments of the requests on windows and standards (R13, R120). -/

/-- A request names a channel by its number. -/
theorem chanOf_val (k : Chan) : chanOf k.val = some k := by
  simp [chanOf]

/-- A number above 3 names no channel. -/
theorem chanOf_none (n : Nat) (h : 4 ≤ n) : chanOf n = none := by
  simp [chanOf, Nat.not_lt.2 h]

/-- Bounds stand in order when neither lower one is above its upper one. -/
theorem rectOrdered_iff (w : Rect) : rectOrdered w = true ↔ w.rowLo ≤ w.rowHi ∧ w.colLo ≤ w.colHi := by
  simp [rectOrdered]

/-- Bounds stand out of order when a lower one is above its upper one. -/
theorem rectOrdered_eq_false (w : Rect) :
    rectOrdered w = false ↔ w.rowHi < w.rowLo ∨ w.colHi < w.colLo := by
  rw [← Bool.not_eq_true, rectOrdered_iff]
  omega

/-- The bounds of a rectangle clamped into 1 to 255. -/
theorem clampRect_eq (w : Rect) :
    clampRect w = ⟨max 1 (min 255 w.rowLo), max 1 (min 255 w.rowHi),
      max 1 (min 255 w.colLo), max 1 (min 255 w.colHi)⟩ := by
  simp [clampRect, clampBound, clampTo_eq, min_comm]

/-- The test for different values is the library's. -/
theorem allDistinct_iff (l : List Nat) : allDistinct l = true ↔ l.Nodup := by
  induction l with
  | nil => simp [allDistinct]
  | cons d rest ih => simp [allDistinct, ih]

/-- The content that R120 asks of a standard. -/
theorem Standard.good_iff (x : Standard) :
    x.good = true ↔ 3 ≤ x.depths.length ∧ x.depths.length ≤ 6
      ∧ (∀ d ∈ x.depths, 1 ≤ d ∧ d ≤ 100) ∧ x.depths.Nodup ∧ 100 ∈ x.depths
      ∧ 1 ≤ x.freq ∧ x.freq ≤ 4 ∧ 50 ≤ x.threshold ∧ x.threshold ≤ 30000 := by
  simp [Standard.good, allDistinct_iff, and_assoc]

/-! The conditions of LOCK_PLAN in order (R11). -/

/-- No tube is defined. -/
theorem State.lockFailure_noTubes (s : State) (x : Session) (hx : s.session = some x)
    (ht : x.tubes = []) : s.lockFailure = some .noTubes := by
  simp [State.lockFailure, hx, ht]

/-- The first tube whose class is not defined is named. -/
theorem State.lockFailure_undefinedClass (s : State) (x : Session) (e : TubeEntry)
    (hx : s.session = some x)
    (he : x.tubes.find? (fun e => ((x.plan.classes[e.cls]?).join).isNone) = some e) :
    s.lockFailure = some (.undefinedClass e.pos e.cls) := by
  have ht : x.tubes ≠ [] := by
    intro h
    simp [h] at he
  simp only [State.lockFailure, State.geometry?, hx, ht, he, if_false]

/-- With tubes of defined classes only, the standards decide. -/
theorem State.lockFailure_standards (s : State) (x : Session) (hx : s.session = some x)
    (ht : x.tubes ≠ []) (hg : ∀ e ∈ x.tubes, (x.plan.classes[e.cls]?).join ≠ none) :
    s.lockFailure =
      if s.config.shadow.standards.any (·.isSome) then none else some .noStandard := by
  have hf : x.tubes.find? (fun e => ((x.plan.classes[e.cls]?).join).isNone) = none := by
    simpa [Option.isNone_iff_eq_none] using hg
  simp only [State.lockFailure, State.geometry?, hx, ht, hf, if_false]

/-- Some entry of a list is present. -/
theorem any_isSome_iff {α : Type} (l : List (Option α)) :
    l.any (·.isSome) = true ↔ ∃ d, some d ∈ l := by
  simp only [List.any_eq_true, Option.isSome_iff_exists]
  constructor
  · rintro ⟨_, h, d, rfl⟩
    exact ⟨d, h⟩
  · rintro ⟨d, h⟩
    exact ⟨_, h, d, rfl⟩

/-- Settles O55: the first three requests are answered by cases on their arguments, LOCK_PLAN by the
conditions of R11 in order. -/
theorem windowsStandardsAndTheLock : Obligations.WindowsStandardsAndTheLock := by
  intro st tag s lead no edit
  refine ⟨?_, ?_, ?_, ?_⟩
  · intro ch w begins c
    have lb : s.leadBegins st tag (.setWindow ch w) := ⟨begins, lead⟩
    refine ⟨fun hs => s.leadRequest_answer st tag _ _ _ _ _ lb (State.withSession_none _ _ hs),
      fun x hx => ⟨fun bad => ?_, ?_⟩⟩
    · refine s.leadRequest_answer st tag _ _ _ _ _ lb ?_
      rw [State.withSession_some (s.begun st) _ x hx]
      rcases bad with bad | bad
      · simp [chanOf_none ch bad, Reply.refuse]
      · simp [(rectOrdered_eq_false w).2 bad, Reply.refuse]
    · rintro k rfl hrow hcol v
      have hv : clampRect w = v := clampRect_eq w
      refine s.leadRequest_answer st tag _ _ _ _ _ lb ?_
      rw [State.withSession_some (s.begun st) _ x hx]
      simp only [chanOf_val, (rectOrdered_iff w).2 ⟨hrow, hcol⟩, s.modPlan_begun st _ x hx, hv]
      rfl
  · intro comp rects req begins c
    have lb : s.leadBegins st tag req := ⟨begins, lead⟩
    refine ⟨fun hs => s.leadRequest_answer st tag _ _ _ _ _ lb (State.withSession_none _ _ hs),
      fun x hx => ⟨fun bad => ?_, fun hlen hall => ?_⟩⟩
    · refine s.leadRequest_answer st tag _ _ _ _ _ lb ?_
      rw [State.withSession_some (s.begun st) _ x hx, if_neg]
      · rfl
      · rintro ⟨hlen, hall⟩
        rcases bad with bad | ⟨w, hw, bad⟩
        · exact absurd hlen (Nat.not_le.2 bad)
        · have := List.all_eq_true.1 hall w hw
          rw [(rectOrdered_eq_false w).2 bad] at this
          cases this
    · refine s.leadRequest_answer st tag _ _ _ _ _ lb ?_
      have good : rects.all rectOrdered = true :=
        List.all_eq_true.2 fun w hw => (rectOrdered_iff w).2 (hall w hw)
      rw [State.withSession_some (s.begun st) _ x hx, if_pos ⟨hlen, good⟩]
      simp only [s.modPlan_begun st _ x hx]
      rfl
  · intro id depths freq threshold req begins c good
    have lb : s.leadBegins st tag req := ⟨begins, lead⟩
    have hg : good ↔ id ≤ 7 ∧ (⟨depths, freq, threshold⟩ : Standard).good = true := by
      rw [Standard.good_iff]
    refine ⟨fun locked => ?_, fun unlocked bad => ?_, fun unlocked fine => ?_⟩
    · exact s.leadRequest_answer st tag _ _ _ _ _ lb (if_pos locked)
    · refine s.leadRequest_answer st tag _ _ _ _ _ lb ?_
      have free : (s.begun st).planLocked = false := unlocked
      rw [hg] at bad
      simp only [free, bad, if_false, Bool.false_eq_true]
      rfl
    · refine s.leadRequest_answer st tag _ _ _ _ _ lb ?_
      have free : (s.begun st).planLocked = false := unlocked
      rw [hg] at fine
      simp only [free, fine, and_self, if_true, if_false, Bool.false_eq_true]
      rfl
  · intro begins c incomplete
    have lb : s.leadBegins st tag .lockPlan := ⟨begins, lead⟩
    have fails : ∀ r, s.planLocked = false → s.lockFailure = some r → exec c s = incomplete r := by
      intro r unlocked hr
      have free : (s.begun st).planLocked = false := unlocked
      have first : (s.begun st).lockFailure = some r := hr
      refine s.leadRequest_answer st tag _ _ _ _ _ lb ?_
      simp only [free, first, if_false, Bool.false_eq_true]
    refine ⟨fun hs => fails .session ?_ ?_, fun x hx => ?_⟩
    · simp [State.planLocked, hs]
    · simp [State.lockFailure, hs]
    intro geometry some_standard
    refine ⟨fun locked => ?_, fun unlocked => ?_⟩
    · refine s.leadRequest_answer st tag _ _ _ _ _ lb (if_pos ?_)
      simp [State.planLocked, hx, locked]
    have free : s.planLocked = false := by simp [State.planLocked, hx, unlocked]
    refine ⟨fun ht => fails _ free (s.lockFailure_noTubes x hx ht),
      fun e he => fails _ free (s.lockFailure_undefinedClass x e hx he),
      fun ht hcls hstd => fails _ free ?_, fun ht hcls hstd => ?_⟩
    · rw [s.lockFailure_standards x hx ht hcls, if_neg (mt (any_isSome_iff _).1 hstd)]
    · have passes : (s.begun st).lockFailure = none := by
        rw [(s.begun st).lockFailure_standards x hx ht hcls]
        exact if_pos ((any_isSome_iff _).2 hstd)
      have freeNow : (s.begun st).planLocked = false := free
      refine ⟨_, s.leadRequest_answer st tag .lockPlan _
        ((s.begun st).modPlan fun p => { p with locked := true }).refreshPermits .ok .none lb ?_,
        ?_, ?_, ?_, ?_, ?_, ?_, ?_⟩
      · simp only [freeNow, passes, if_false, Bool.false_eq_true]
        rfl
      · simp [State.modPlan, hx]
      · intro ch
        exact State.refreshPermits_permit _ ch
      · exact State.stations_answered_congr _ _ _ _ _ _ _ (by simp)
      · simp [State.modPlan]
      · simp [State.modPlan]
      · simp [State.modPlan]
      · simp [State.modPlan]

end Sys2Proof.Machine
end

section
namespace Sys2Proof.Machine

/-! Runs of positions (R5, R7). -/

/-- The positions that a run covers. -/
theorem inRun_iff (row col1 col2 : Nat) (p : Pos) :
    inRun row col1 col2 p = true ↔ p.row = row ∧ col1 ≤ p.col ∧ p.col ≤ col2 := by
  simp [inRun]

/-- A run covers exactly the positions listed for it. -/
theorem mem_runOf (row col1 col2 : Nat) (p : Pos) :
    p ∈ runOf row col1 col2 ↔ p.row = row ∧ col1 ≤ p.col ∧ p.col ≤ col2 := by
  simp only [runOf, List.mem_map, List.mem_range'_1]
  constructor
  · rintro ⟨c, hc, rfl⟩
    exact ⟨rfl, by simp; omega⟩
  · rintro ⟨hrow, hlo, hhi⟩
    exact ⟨p.col, by omega, by rw [← hrow]⟩

@[simp] theorem length_runOf (row col1 col2 : Nat) :
    (runOf row col1 col2).length = col2 + 1 - col1 := by
  simp [runOf]

/-- The arguments that R5 and R7 allow for a run. -/
theorem goodRun_iff (row col1 col2 : Nat) :
    goodRun row col1 col2 = true ↔ 1 ≤ row ∧ row ≤ 255 ∧ 1 ≤ col1 ∧ col1 ≤ col2 ∧ col2 ≤ 255 := by
  simp only [goodRun, within, Bool.and_eq_true, decide_eq_true_eq]
  omega

/-- The arguments that R5 admits. -/
theorem goodTubes_iff (row col1 col2 cls : Nat) :
    goodTubes row col1 col2 cls = true ↔ goodRun row col1 col2 = true ∧ cls ≤ 15 := by
  simp [goodTubes]

/-- A position does not come before itself. -/
theorem Pos.before_irrefl (p : Pos) : p.before p = false := by
  simp [Pos.before]

/-- A table in table order holds no position twice. -/
theorem nodup_pos (tubes : List TubeEntry)
    (h : tubes.Pairwise fun a b => a.pos.before b.pos = true) : (tubes.map (·.pos)).Nodup := by
  rw [List.Nodup, List.pairwise_map]
  refine h.imp fun {a b} before same => ?_
  rw [same, Pos.before_irrefl] at before
  cases before

/-- A table in table order has no more entries in a run than the run has positions. -/
theorem length_filter_inRun_le (tubes : List TubeEntry) (row col1 col2 : Nat)
    (h : tubes.Pairwise fun a b => a.pos.before b.pos = true) :
    (tubes.filter fun e => inRun row col1 col2 e.pos).length ≤ col2 + 1 - col1 := by
  have sub : (tubes.filter fun e => inRun row col1 col2 e.pos).map (·.pos) ⊆ runOf row col1 col2 := by
    intro p hp
    obtain ⟨e, he, rfl⟩ := List.mem_map.1 hp
    exact (mem_runOf ..).2 ((inRun_iff ..).1 (List.mem_filter.1 he).2)
  simpa using ((nodup_pos _ (h.filter _)).subperm sub).length_le

/-! The merged table (R6). -/

/-- Merging keeps every entry of both lists. -/
theorem mergeTubes_perm (xs ys : List TubeEntry) : (mergeTubes xs ys).Perm (xs ++ ys) := by
  induction xs generalizing ys with
  | nil => exact .refl _
  | cons x xs ih =>
    let earlier := ys.takeWhile fun y => y.pos.before x.pos
    let later := ys.dropWhile fun y => y.pos.before x.pos
    calc (earlier ++ x :: mergeTubes xs later).Perm (earlier ++ x :: (xs ++ later)) :=
          ((ih later).cons x).append_left earlier
      List.Perm _ (x :: (earlier ++ (xs ++ later))) := List.perm_middle
      List.Perm _ (x :: (xs ++ (earlier ++ later))) := (List.perm_append_comm_assoc ..).cons x
      _ = x :: xs ++ ys := by rw [List.takeWhile_append_dropWhile, List.cons_append]

/-- What only the first list can hold is found where it was there. -/
theorem find_mergeTubes_left (q : TubeEntry → Bool) (xs ys : List TubeEntry)
    (h : ∀ y ∈ ys, q y = false) : (mergeTubes xs ys).find? q = xs.find? q := by
  induction xs generalizing ys with
  | nil => simpa [mergeTubes] using h
  | cons x xs ih =>
    have taken : (ys.takeWhile fun y => y.pos.before x.pos).find? q = none :=
      List.find?_eq_none.2 fun y hy => by simp [h y (List.takeWhile_subset _ hy)]
    have rest := ih (ys.dropWhile fun y => y.pos.before x.pos) fun y hy =>
      h y (List.dropWhile_subset _ hy)
    simp [mergeTubes, taken, List.find?_cons, rest]

/-- What only the second list can hold is found where it was there. -/
theorem find_mergeTubes_right (q : TubeEntry → Bool) (xs ys : List TubeEntry)
    (h : ∀ x ∈ xs, q x = false) : (mergeTubes xs ys).find? q = ys.find? q := by
  induction xs generalizing ys with
  | nil => rfl
  | cons x xs ih =>
    have rest := ih (ys.dropWhile fun y => y.pos.before x.pos) fun y hy => h y (List.mem_cons_of_mem _ hy)
    calc (mergeTubes (x :: xs) ys).find? q
        = (ys.takeWhile (fun y => y.pos.before x.pos)
            ++ ys.dropWhile fun y => y.pos.before x.pos).find? q := by
          simp only [mergeTubes, List.find?_append, List.find?_cons, h x List.mem_cons_self, rest]
      _ = ys.find? q := by rw [List.takeWhile_append_dropWhile]

/-! The counters (R20). -/

theorem TubeCounts.get_set (c : TubeCounts) (t u : TubeState) (v : Nat) :
    (c.set t v).get u = if u = t then v else c.get u := by
  cases t <;> cases u <;> rfl

/-- Entries added to a state are counted in it alone. -/
theorem TubeCounts.get_add (c : TubeCounts) (t u : TubeState) (n : Nat) :
    (c.add t n).get u = c.get u + if u = t then n else 0 := by
  rw [TubeCounts.add, TubeCounts.get_set]
  split
  · next h => rw [h]
  · rfl

/-- Entries taken away are taken from the counters of their states. -/
theorem TubeCounts.get_drop (c : TubeCounts) (gone : List TubeEntry) (u : TubeState) :
    (c.drop gone).get u = c.get u - tubesIn gone u := by
  induction gone generalizing c with
  | nil => rfl
  | cons e rest ih =>
    have step : (c.sub e.state 1).get u = c.get u - if e.state = u then 1 else 0 := by
      rw [TubeCounts.sub, TubeCounts.get_set]
      by_cases h : u = e.state
      · simp [h]
      · simp [h, Ne.symm h]
    have head : tubesIn (e :: rest) u = (if e.state = u then 1 else 0) + tubesIn rest u := by
      by_cases h : e.state = u <;> simp [tubesIn, h, Nat.add_comm]
    calc ((c.sub e.state 1).drop rest).get u
        = c.get u - (if e.state = u then 1 else 0) - tubesIn rest u := by rw [ih, step]
      _ = c.get u - tubesIn (e :: rest) u := by rw [head, Nat.sub_sub]

theorem tubesIn_append (xs ys : List TubeEntry) (u : TubeState) :
    tubesIn (xs ++ ys) u = tubesIn xs u + tubesIn ys u := by
  simp [tubesIn]

/-- The order of a table does not change its counts. -/
theorem tubesIn_perm (xs ys : List TubeEntry) (u : TubeState) (h : xs.Perm ys) :
    tubesIn xs u = tubesIn ys u :=
  (h.filter _).length_eq

/-- A table counts what it keeps and what it gives up. -/
theorem tubesIn_filter_add (tubes : List TubeEntry) (gone : TubeEntry → Bool) (u : TubeState) :
    tubesIn (tubes.filter gone) u + tubesIn (tubes.filter fun e => !gone e) u = tubesIn tubes u := by
  rw [← tubesIn_append]
  exact tubesIn_perm _ _ u (List.filter_append_perm gone tubes)

/-- Counters that follow a table follow what it keeps when what it gives up is dropped from them. -/
theorem TubeCounts.get_drop_filter (c : TubeCounts) (tubes : List TubeEntry)
    (gone : TubeEntry → Bool) (h : ∀ u, c.get u = tubesIn tubes u) (u : TubeState) :
    (c.drop (tubes.filter gone)).get u = tubesIn (tubes.filter fun e => !gone e) u := by
  rw [TubeCounts.get_drop, h, ← tubesIn_filter_add tubes gone u, Nat.add_sub_cancel_left]

/-! The table after DEFINE_TUBES (R6). -/

/-- The state of a new entry. -/
theorem newTube_state (p : Pos) (cls : Nat) (cond : Condition) (time : Nat) :
    (newTube p cls cond time).state = if cond = .plugged then .plugged else .pending := by
  cases cond <;> rfl

/-- The new entries of a run, found by their positions. -/
theorem find_map_newTube (ps : List Pos) (p : Pos) (cls : Nat) (cond : Condition) (time : Nat) :
    (ps.map fun q => newTube q cls cond time).find? (fun e => e.pos == p) =
      if p ∈ ps then some (newTube p cls cond time) else none := by
  induction ps with
  | nil => rfl
  | cons q rest ih =>
    by_cases h : q = p
    · simp [newTube, h]
    · simpa [newTube, h, Ne.symm h] using ih

/-- New entries are all in the state that their condition gives. -/
theorem tubesIn_map_newTube (ps : List Pos) (cls : Nat) (cond : Condition) (time : Nat)
    (u : TubeState) :
    tubesIn (ps.map fun q => newTube q cls cond time) u =
      if u = (if cond = .plugged then .plugged else .pending) then ps.length else 0 := by
  unfold tubesIn
  simp only [List.filter_map, List.length_map, Function.comp_def, newTube_state]
  by_cases h : u = (if cond = .plugged then .plugged else .pending)
  · rw [if_pos h, List.filter_eq_self.2 fun _ _ => beq_iff_eq.2 h.symm]
  · rw [if_neg h, List.filter_eq_nil_iff.2 fun _ _ => by simpa using Ne.symm h, List.length_nil]

/-- DEFINE_TUBES keeps the entries outside its run and makes one for each position of it. -/
theorem defineRun_perm (x : Session) (row col1 col2 cls : Nat) (cond : Condition) :
    (defineRun x row col1 col2 cls cond).tubes.Perm
      ((x.tubes.filter fun e => !inRun row col1 col2 e.pos)
        ++ (runOf row col1 col2).map fun p => newTube p cls cond x.seconds) :=
  mergeTubes_perm ..

/-- The number of entries after DEFINE_TUBES. -/
theorem length_defineRun (x : Session) (row col1 col2 cls : Nat) (cond : Condition) :
    (defineRun x row col1 col2 cls cond).tubes.length
        + (x.tubes.filter fun e => inRun row col1 col2 e.pos).length
      = x.tubes.length + (col2 + 1 - col1) := by
  have split := (List.filter_append_perm (fun e => inRun row col1 col2 e.pos) x.tubes).length_eq
  have after := (defineRun_perm x row col1 col2 cls cond).length_eq
  simp only [List.length_append, List.length_map, length_runOf] at split after
  omega

/-- After DEFINE_TUBES a position of the run has its new entry, and any other the entry it had. -/
theorem find_defineRun (x : Session) (row col1 col2 cls : Nat) (cond : Condition) (p : Pos) :
    (defineRun x row col1 col2 cls cond).tubes.find? (fun e => e.pos == p) =
      if inRun row col1 col2 p then some (newTube p cls cond x.seconds)
      else x.tubes.find? fun e => e.pos == p := by
  unfold defineRun
  by_cases h : inRun row col1 col2 p = true
  · have kept : ∀ e ∈ x.tubes.filter (fun e => !inRun row col1 col2 e.pos), (e.pos == p) = false := by
      intro e he
      have out := (List.mem_filter.1 he).2
      refine beq_eq_false_iff_ne.2 fun same => ?_
      simp [same, h] at out
    rw [find_mergeTubes_right _ _ _ kept, find_map_newTube, if_pos h,
      if_pos ((mem_runOf ..).2 ((inRun_iff ..).1 h))]
  · have fresh : ∀ e ∈ (runOf row col1 col2).map (fun p => newTube p cls cond x.seconds),
        (e.pos == p) = false := by
      intro e he
      obtain ⟨q, hq, rfl⟩ := List.mem_map.1 he
      refine beq_eq_false_iff_ne.2 fun same => h ?_
      rw [inRun_iff, ← same]
      exact (mem_runOf ..).1 hq
    rw [find_mergeTubes_left _ _ _ fresh, if_neg h, List.find?_filter]
    congr 1
    funext e
    by_cases same : e.pos = p
    · simpa [same] using h
    · simp [same]

/-- The counters follow the table through DEFINE_TUBES. -/
theorem counts_defineRun (x : Session) (row col1 col2 cls : Nat) (cond : Condition)
    (h : ∀ u, x.counts.get u = tubesIn x.tubes u) (u : TubeState) :
    (defineRun x row col1 col2 cls cond).counts.get u =
      tubesIn (defineRun x row col1 col2 cls cond).tubes u := by
  rw [tubesIn_perm _ _ u (defineRun_perm x row col1 col2 cls cond), tubesIn_append,
    tubesIn_map_newTube]
  unfold defineRun
  rw [TubeCounts.get_add, TubeCounts.get_drop_filter _ _ _ h, List.length_map]
  cases cond <;> rfl

/-- Settles O56: the accepted requests by the facts about the merged table and the counters, the others as
refused edits. -/
theorem tubeRunsAreDefinedAndRemoved : Obligations.TubeRunsAreDefinedAndRemoved := by
  refine ⟨?_, ?_⟩
  · intro st tag row col1 col2 s x hx unlocked law lead run good old n
    obtain ⟨sorted, counted⟩ := law x hx
    have hgood : good ↔ goodRun row col1 col2 = true := (goodRun_iff row col1 col2).symm
    have few : old ≤ col2 + 1 - col1 := length_filter_inRun_le x.tubes row col1 col2 sorted
    have size : x.tubes.length + (col2 + 1 - col1 - old) = n := (Nat.add_sub_assoc few _).symm
    constructor
    · intro cls cond begins c
      have lb : s.leadBegins st tag (.defineTubes row col1 col2 cls cond) := ⟨begins, lead⟩
      have hall : good ∧ cls ≤ 15 ↔ goodTubes row col1 col2 cls = true := by
        rw [goodTubes_iff, hgood]
      refine ⟨fun bad => ?_, fun hg hc full => ?_, fun hg hc fits =>
        ⟨defineRun x row col1 col2 cls cond, ?_, rfl, ?_, fun p => ?_, ?_⟩⟩
      · rw [hall, Bool.not_eq_true] at bad
        exact State.editRequest_badArgument s st tag _ _ _ x lb hx unlocked bad
      · refine State.editRequest_good s st tag _ _ _ x _ _ _ lb hx unlocked (hall.1 ⟨hg, hc⟩) ?_
        rw [length_runOf]
        exact if_pos (size ▸ full)
      · refine State.editRequest_good s st tag _ _ _ x _ _ _ lb hx unlocked (hall.1 ⟨hg, hc⟩) ?_
        rw [length_runOf, s.modSession_begun st _ x hx]
        refine (if_neg (Nat.not_lt.2 (size ▸ fits))).trans ?_
        rw [← size]
        rfl
      · have := length_defineRun x row col1 col2 cls cond
        exact Nat.eq_sub_of_add_eq this
      · rw [find_defineRun]
        by_cases h : run p
        · rw [if_pos h, if_pos ((inRun_iff ..).2 h)]
          cases cond <;> rfl
        · rw [if_neg h, if_neg (mt (inRun_iff ..).1 h)]
      · exact counts_defineRun x row col1 col2 cls cond counted
    · intro begins c
      have lb : s.leadBegins st tag (.removeTubes row col1 col2) := ⟨begins, lead⟩
      refine ⟨fun bad => ?_, fun hg => ⟨_, State.editRequest_good s st tag _ _ _ x _ _ _ lb hx unlocked
        (hgood.1 hg) (congrArg (·, _) (s.modSession_begun st _ x hx)), rfl, rfl, ?_⟩⟩
      · rw [hgood, Bool.not_eq_true] at bad
        exact State.editRequest_badArgument s st tag _ _ _ x lb hx unlocked bad
      · exact TubeCounts.get_drop_filter _ _ _ counted
  · rintro st tag row col1 col2 cls cond s req c lead begins (⟨rfl, rfl⟩ | ⟨rfl, rfl⟩)
    · exact ⟨State.editRequest_noSession s st tag _ _ _ ⟨begins, lead⟩, fun x hx =>
        State.editRequest_locked s st tag _ _ _ x ⟨begins, lead⟩ hx⟩
    · exact ⟨State.editRequest_noSession s st tag _ _ _ ⟨begins, lead⟩, fun x hx =>
        State.editRequest_locked s st tag _ _ _ x ⟨begins, lead⟩ hx⟩

end Sys2Proof.Machine
end

section
namespace Sys2Proof.Machine

/-! What the raising of events leaves of a station link. -/

/-- A station link but for what it has heard: its event queue, EVENTS_LOST and the attention line. -/
def StationLink.unheard (x : StationLink) : StationLink :=
  { x with events := [], eventsLost := false, attn := false }

/-- Links that agree but for what they have heard hold the same role. -/
theorem StationLink.role_eq_of_unheard (x y : StationLink) (h : x.unheard = y.unheard) :
    x.role = y.role :=
  (congrArg StationLink.role h : x.unheard.role = y.unheard.role)

/-- Links that agree but for what they have heard run the same stream. -/
theorem StationLink.stream_eq_of_unheard (x y : StationLink) (h : x.unheard = y.unheard) :
    x.stream = y.stream :=
  (congrArg StationLink.stream h : x.unheard.stream = y.unheard.stream)

@[simp] theorem StationLink.unheard_hear (x : StationLink) (ready : Bool) (mode : Mode)
    (r : EventRecord) : (x.hear ready mode r).unheard = x.unheard := by
  have offered : (x.offer r).unheard = x.unheard := by
    unfold StationLink.offer
    split <;> rfl
  unfold StationLink.hear
  cases ready
  · rfl
  · cases x.role with
    | none => rfl
    | some role =>
      by_cases h : routes mode r.event role = true
      · simp only [h, if_true, offered]
      · simp only [h, if_true, Bool.false_eq_true, if_false]

/-- Each station hears a raised event. -/
theorem State.stn_raise (s : State) (e : Event) (k : Stn) :
    (s.raise e).stn k =
      (s.stn k).hear (decide (s.config.phase = .ready)) s.mode ⟨e, s.time?⟩ := by
  match k with
  | 0 => rfl
  | 1 => rfl
  | 2 => rfl

@[simp] theorem State.unheard_raise (s : State) (e : Event) (k : Stn) :
    ((s.raise e).stn k).unheard = (s.stn k).unheard := by
  rw [State.stn_raise, StationLink.unheard_hear]

@[simp] theorem State.stn_modTrav (s : State) (id : Nat) (f : Traverse → Traverse) (k : Stn) :
    (s.modTrav id f).stn k = s.stn k := rfl

@[simp] theorem State.stn_setAttempt (s : State) (ch : Chan) (a : Option Attempt) (k : Stn) :
    (s.setAttempt ch a).stn k = s.stn k := rfl

@[simp] theorem State.stn_moveTube (s : State) (p : Pos) (new : TubeState)
    (f : TubeEntry → TubeEntry) (k : Stn) : (s.moveTube p new f).stn k = s.stn k := by
  simp [State.stn]

@[simp] theorem State.unheard_watchStore (s : State) (k : Stn) :
    (s.watchStore.stn k).unheard = (s.stn k).unheard := by
  unfold State.watchStore
  extract_lets
  (repeat' split) <;> simp

@[simp] theorem State.unheard_testRelease (s : State) (id : Nat) (k : Stn) :
    ((s.testRelease id).stn k).unheard = (s.stn k).unheard := by
  unfold State.testRelease State.release
  (repeat' split) <;> simp

@[simp] theorem State.unheard_settle (s : State) (id : Nat) (k : Stn) :
    ((s.settle id).stn k).unheard = (s.stn k).unheard := by
  unfold State.settle
  (repeat' split) <;> simp

@[simp] theorem State.unheard_returnReservation (s : State) (id keep : Nat) (k : Stn) :
    ((s.returnReservation id keep).stn k).unheard = (s.stn k).unheard := by
  unfold State.returnReservation
  split <;> simp

@[simp] theorem State.unheard_abortTraverse (s : State) (id : Nat) (k : Stn) :
    ((s.abortTraverse id).stn k).unheard = (s.stn k).unheard := by
  unfold State.abortTraverse
  (repeat' split) <;> simp

@[simp] theorem State.unheard_deregister (s : State) (id : Nat) (k : Stn) :
    ((s.deregister id).stn k).unheard = (s.stn k).unheard := by
  unfold State.deregister
  simp

@[simp] theorem State.unheard_closeClaim (s : State) (ch : Chan) (k : Stn) :
    ((s.closeClaim ch).stn k).unheard = (s.stn k).unheard := by
  unfold State.closeClaim State.endClaim State.unreserve
  (repeat' split) <;> simp

@[simp] theorem State.unheard_abortTube (s : State) (p : Pos) (restriction : Bool) (k : Stn) :
    ((s.abortTube p restriction).stn k).unheard = (s.stn k).unheard := by
  unfold State.abortTube State.raiseRetest
  (repeat' split) <;> simp

@[simp] theorem State.unheard_closePull (s : State) (t : Traverse) (k : Stn) :
    ((s.closePull t).stn k).unheard = (s.stn k).unheard := by
  unfold State.closePull
  split <;> simp

@[simp] theorem State.unheard_closeAttempt (s : State) (ch : Chan) (k : Stn) :
    ((s.closeAttempt ch).stn k).unheard = (s.stn k).unheard := by
  unfold State.closeAttempt
  split <;> simp

@[simp] theorem State.unheard_closeChannel (s : State) (ch : Chan) (k : Stn) :
    ((s.closeChannel ch).stn k).unheard = (s.stn k).unheard := by
  have refreshed : ∀ t : State, (t.refreshPermit ch).stn k = t.stn k := fun t => by simp [State.stn]
  unfold State.closeChannel State.moveChan State.setChan
  (repeat' split) <;> simp [refreshed]

/-! The DDR store through what releases traverses and grants transfers. -/

@[simp] theorem State.ddr_modTrav (s : State) (id : Nat) (f : Traverse → Traverse) :
    (s.modTrav id f).store.ddr = s.store.ddr := rfl

@[simp] theorem State.ddr_watchStore (s : State) : s.watchStore.store.ddr = s.store.ddr := by
  unfold State.watchStore
  extract_lets
  (repeat' split) <;> simp

@[simp] theorem State.ddr_testRelease (s : State) (id : Nat) :
    (s.testRelease id).store.ddr = s.store.ddr := by
  unfold State.testRelease State.release
  (repeat' split) <;> simp

@[simp] theorem State.ddr_settle (s : State) (id : Nat) :
    (s.settle id).store.ddr = s.store.ddr := by
  unfold State.settle
  (repeat' split) <;> simp

@[simp] theorem State.ddr_returnReservation (s : State) (id keep : Nat) :
    (s.returnReservation id keep).store.ddr = s.store.ddr := by
  unfold State.returnReservation
  split <;> simp

@[simp] theorem State.ddr_abortTraverse (s : State) (id : Nat) :
    (s.abortTraverse id).store.ddr = s.store.ddr := by
  unfold State.abortTraverse
  (repeat' split) <;> simp

@[simp] theorem State.ddr_deregister (s : State) (id : Nat) :
    (s.deregister id).store.ddr = s.store.ddr := by
  unfold State.deregister
  simp

@[simp] theorem State.ddr_arbitrate (s : State) : s.arbitrate.store.ddr = s.store.ddr := by
  unfold State.arbitrate State.grantWrite State.grantFetch
  (repeat' split) <;> simp

@[simp] theorem State.ddr_pump (s : State) (st : Stn) : (s.pump st).store.ddr = s.store.ddr := by
  unfold State.pump
  (repeat' split) <;> simp +zetaDelta <;> (repeat' split) <;> simp

@[simp] theorem State.ddr_abortStream (s : State) (st : Stn) :
    (s.abortStream st).store.ddr = s.store.ddr := by
  unfold State.abortStream
  split <;> simp

/-- The end of a stream at a forced close, said once: its abort, and then the end of its reader where
the read port still counts as one. -/
theorem State.closeStream_cases (s : State) (st : Stn) :
    ((∀ r, ((s.abortStream st).stn st).stream = some r → r.registered = false)
        ∧ s.closeStream st = s.abortStream st)
    ∨ ∃ id, s.closeStream st =
        ((s.abortStream st).modStream st fun r => { r with registered := false }).deregister id := by
  unfold State.closeStream
  generalize s.abortStream st = t
  dsimp only
  cases hs : (t.stn st).stream with
  | none => exact .inl ⟨fun _ h => (nomatch h), rfl⟩
  | some r =>
    by_cases reg : r.registered = true
    · exact .inr ⟨r.traverse, if_pos reg⟩
    · refine .inl ⟨?_, if_neg reg⟩
      rintro _ ⟨⟩
      simpa using reg

@[simp] theorem State.ddr_closeStream (s : State) (st : Stn) :
    (s.closeStream st).store.ddr = s.store.ddr := by
  obtain ⟨-, same⟩ | ⟨id, same⟩ := s.closeStream_cases st <;> simp [same]

@[simp] theorem State.ddr_closeClaim (s : State) (ch : Chan) :
    (s.closeClaim ch).store.ddr = s.store.ddr := by
  unfold State.closeClaim State.endClaim State.unreserve
  (repeat' split) <;> simp

@[simp] theorem State.ddr_closePull (s : State) (t : Traverse) :
    (s.closePull t).store.ddr = s.store.ddr := by
  unfold State.closePull
  split <;> simp

@[simp] theorem State.ddr_closeAttempt (s : State) (ch : Chan) :
    (s.closeAttempt ch).store.ddr = s.store.ddr := by
  unfold State.closeAttempt
  split <;> simp

/-! The role and the stream of a station through the arbiter and the read ports. -/

/-- Each station that an update reaches has its new link. -/
theorem State.stn_modStn (s : State) (st k : Stn) (f : StationLink → StationLink) :
    (s.modStn st f).stn k = if k = st then f (s.stn k) else s.stn k := by
  by_cases h : k = st
  · subst h
    simp
  · simp [State.stn_modStn_other s st k f h, h]

/-- How a station's stream is to end, and whether its read port still counts as a reader. -/
def StationLink.fate (x : StationLink) : Option (Option Ending × Bool) :=
  x.stream.map fun r => (r.ending, r.registered)

@[simp] theorem StationLink.role_schedule (x : StationLink) : x.schedule.role = x.role := by
  unfold StationLink.schedule
  (repeat' split) <;> rfl

@[simp] theorem StationLink.stream_schedule (x : StationLink) : x.schedule.stream = x.stream := by
  unfold StationLink.schedule
  (repeat' split) <;> rfl

/-- A granted fetch leaves the role and the fate of every stream. -/
theorem State.grantFetch_stn (s : State) (st k : Stn) :
    ((s.grantFetch st).stn k).role = (s.stn k).role
      ∧ ((s.grantFetch st).stn k).fate = (s.stn k).fate := by
  unfold State.grantFetch
  split
  · exact ⟨rfl, rfl⟩
  · rw [State.stn_modStore, State.modStream, State.stn_modStn]
    split
    · exact ⟨rfl, by simp [StationLink.fate, Function.comp_def]⟩
    · exact ⟨rfl, rfl⟩

/-- The arbiter leaves the role and the fate of every stream. -/
theorem State.arbitrate_stn (s : State) (k : Stn) :
    (s.arbitrate.stn k).role = (s.stn k).role ∧ (s.arbitrate.stn k).fate = (s.stn k).fate := by
  have write : ∀ ch, (s.grantWrite ch).stn k = s.stn k := fun ch => by simp [State.stn]
  unfold State.arbitrate
  split
  · split
    · rw [write]
      exact ⟨rfl, rfl⟩
    · split
      · exact s.grantFetch_stn _ k
      · exact ⟨rfl, rfl⟩
  · exact ⟨rfl, rfl⟩

/-- The end of a reader leaves the role and the fate of every stream. -/
theorem State.deregister_stn (s : State) (id : Nat) (k : Stn) :
    ((s.deregister id).stn k).role = (s.stn k).role
      ∧ ((s.deregister id).stn k).fate = (s.stn k).fate := by
  have same := s.unheard_deregister id k
  exact ⟨StationLink.role_eq_of_unheard _ _ same,
    by rw [StationLink.fate, StationLink.stream_eq_of_unheard _ _ same, StationLink.fate]⟩

/-- Carrying a read port on leaves every role, and the fate of the streams of the other stations. -/
theorem State.pump_stn (s : State) (st k : Stn) :
    ((s.pump st).stn k).role = (s.stn k).role
      ∧ (k ≠ st → ((s.pump st).stn k).fate = (s.stn k).fate) := by
  have sched : ∀ f : StationLink → StationLink, (∀ x, (f x).role = x.role) →
      ((s.modStn st f).stn k).role = (s.stn k).role
        ∧ (k ≠ st → ((s.modStn st f).stn k).fate = (s.stn k).fate) := by
    intro f hf
    rw [State.stn_modStn]
    by_cases h : k = st
    · simp [h, hf]
    · simp [h]
  unfold State.pump
  split
  · exact sched StationLink.schedule fun x => by simp
  · next r _ =>
    extract_lets r1 s1
    by_cases ended : r1.over = true
    · obtain ⟨role, fate⟩ := sched
        (fun x => { x with stream := none, reply := some r1.endFrame }.schedule) fun x => by simp
      by_cases reg : r1.registered = true
      · obtain ⟨role', fate'⟩ := s1.deregister_stn r1.traverse k
        rw [if_pos ended, if_pos reg]
        exact ⟨role'.trans role, fun h => fate'.trans (fate h)⟩
      · rw [if_pos ended, if_neg reg]
        exact ⟨role, fate⟩
    · obtain ⟨role, fate⟩ := sched (fun x => { x with stream := some r1 }.schedule) fun x => by simp
      obtain ⟨role', fate'⟩ := State.arbitrate_stn
        (s.modStn st fun x => { x with stream := some r1 }.schedule) k
      rw [if_neg ended]
      exact ⟨role'.trans role, fun h => fate'.trans (fate h)⟩

/-- A stream that is aborted, carried on, has ended or is to end ABORTED. -/
theorem State.pump_aborted (s : State) (st : Stn) (r : Stream)
    (hr : (s.stn st).stream = some r.abort) :
    ((s.pump st).stn st).fate = none
      ∨ ((s.pump st).stn st).fate = some (some .aborted, r.registered) := by
  have asked : ∀ t, r.abort.moveOut.ask t = r.abort := fun t => by
    simp [Stream.abort, Stream.moveOut, Stream.ask]
  unfold State.pump
  simp only [hr, asked]
  by_cases ended : r.abort.over = true
  · rw [if_pos ended]
    left
    split
    · rw [(State.deregister_stn _ _ st).2]
      simp [StationLink.fate]
    · simp [StationLink.fate]
  · rw [if_neg ended, (State.arbitrate_stn _ st).2]
    right
    simp [StationLink.fate, Stream.abort]

/-- The abort of a stream leaves every role and the fate of the other streams, and its own stream has
ended or is to end ABORTED. -/
theorem State.abortStream_stn (s : State) (st k : Stn) :
    ((s.abortStream st).stn k).role = (s.stn k).role
      ∧ (k ≠ st → ((s.abortStream st).stn k).fate = (s.stn k).fate)
      ∧ ∀ f, ((s.abortStream st).stn st).fate = some f → f.1 = some .aborted := by
  unfold State.abortStream
  cases hs : (s.stn st).stream with
  | none => exact ⟨rfl, fun _ => rfl, by simp [StationLink.fate, hs]⟩
  | some r =>
    dsimp only
    obtain ⟨role, fate⟩ := State.pump_stn
      ((s.modStream st Stream.abort).modStore fun x => { x with port := x.port.undeliver st }) st k
    have link := State.stn_modStn s st k fun x => { x with stream := x.stream.map Stream.abort }
    refine ⟨role.trans ?_, fun h => (fate h).trans ?_, fun f hf => ?_⟩
    · rw [State.stn_modStore, State.modStream, link]
      split <;> rfl
    · rw [State.stn_modStore, State.modStream, link, if_neg h]
    · obtain gone | left := State.pump_aborted
        ((s.modStream st Stream.abort).modStore fun x => { x with port := x.port.undeliver st }) st r
        (by simp [State.modStream, hs])
      · rw [gone] at hf
        cases hf
      · rw [left] at hf
        cases hf
        rfl

/-- A stream that is to end ABORTED and no longer counts as a reader. -/
def StationLink.closed (x : StationLink) : Prop :=
  ∀ f, x.fate = some f → f = (some .aborted, false)

/-- Links whose streams have the same fate are closed together. -/
theorem StationLink.closed_congr (x y : StationLink) (h : x.fate = y.fate) (hy : y.closed) :
    x.closed := by
  unfold StationLink.closed
  rwa [h]

/-- What a closed link says of its stream. -/
theorem StationLink.closed_iff (x : StationLink) :
    x.closed ↔ ∀ r, x.stream = some r → r.ending = some .aborted ∧ r.registered = false := by
  unfold StationLink.closed StationLink.fate
  cases x.stream <;> simp

/-- The end of a stream at a forced close leaves every role and the fate of the other streams, and
closes its own. -/
theorem State.closeStream_stn (s : State) (st k : Stn) :
    ((s.closeStream st).stn k).role = (s.stn k).role
      ∧ ((s.stn k).closed ∨ k = st → ((s.closeStream st).stn k).closed) := by
  obtain ⟨role, fate, ending⟩ := s.abortStream_stn st k
  obtain ⟨free, same⟩ | ⟨id, same⟩ := s.closeStream_cases st
  · rw [same]
    refine ⟨role, fun h => ?_⟩
    by_cases hk : k = st
    · subst hk
      rw [StationLink.closed_iff]
      intro r hr
      exact ⟨ending (r.ending, r.registered) (by simp [StationLink.fate, hr]), free r hr⟩
    · exact StationLink.closed_congr _ _ (fate hk) (h.resolve_right hk)
  · obtain ⟨role', fate'⟩ := State.deregister_stn
      ((s.abortStream st).modStream st fun r => { r with registered := false }) id k
    rw [same]
    have link := State.stn_modStn (s.abortStream st) st k fun x =>
      { x with stream := x.stream.map fun r => { r with registered := false } }
    refine ⟨role'.trans ?_, fun h => StationLink.closed_congr _ _ fate' ?_⟩
    · rw [State.modStream, link]
      split
      · exact role
      · exact role
    · rw [State.modStream, link]
      by_cases hk : k = st
      · subst hk
        rw [if_pos rfl]
        rw [StationLink.closed_iff]
        intro r hr
        obtain ⟨q, hq, rfl⟩ := Option.map_eq_some_iff.1 hr
        exact ⟨ending (q.ending, q.registered) (by simp [StationLink.fate, hq]), rfl⟩
      · rw [if_neg hk]
        exact StationLink.closed_congr _ _ (fate hk) (h.resolve_right hk)

end Sys2Proof.Machine
end

section
namespace Sys2Proof.Machine

/-! The work a forced close ends (R194), and what it leaves. -/

/-- The end of a claim leaves the states of the channels: the new one is the caller's. -/
theorem State.state_endClaim (s : State) (ch k : Chan) (restriction : Bool) :
    ((s.endClaim ch restriction).chan k).state = (s.chan k).state := by
  have cleared : ∀ t : State, t.channels = s.channels →
      ((t.modChan ch fun c => { c with claim := none, claimDue := none }).chan k).state
        = (s.chan k).state := by
    intro t same
    have chan : t.chan k = s.chan k := congrArg (·.get k) same
    by_cases h : k = ch
    · subst h
      rw [State.chan_modChan_self, chan]
    · rw [State.chan_modChan_other _ _ _ _ h, chan]
  unfold State.endClaim
  cases (s.chan ch).claim with
  | none => rfl
  | some p => exact cleared _ (by simp)

/-- The end of a claim at a forced close leaves the states of the channels. -/
theorem State.state_closeClaim (s : State) (ch k : Chan) :
    ((s.closeClaim ch).chan k).state = (s.chan k).state := by
  unfold State.closeClaim
  cases (s.chan ch).state with
  | claimed => exact s.state_endClaim ch k false
  | _ => rfl

/-- The work of a forced close leaves the states of the channels. -/
theorem State.state_endWork (s : State) (k : Chan) : (s.endWork.chan k).state = (s.chan k).state := by
  have pulls : ∀ (l : List Traverse) (t : State), (l.foldl State.closePull t).channels = t.channels :=
    foldl_frame State.closePull State.channels fun s t => s.channels_closePull t
  have attempts : ∀ (t : State) (ch : Chan), ((t.closeAttempt ch).chan k).state = (t.chan k).state :=
    fun t ch => by simp [State.chan]
  have streams : ∀ (t : State) (st : Stn), ((t.closeStream st).chan k).state = (t.chan k).state :=
    fun t st => by simp [State.chan]
  have lanes : ∀ t : State, (t.dropLanes.chan k).state = (t.chan k).state := fun t => rfl
  have pulled : ∀ (l : List Traverse) (t : State),
      ((l.foldl State.closePull t).chan k).state = (t.chan k).state :=
    fun l t => congrArg (fun c => (c.get k).state) (pulls l t)
  unfold State.endWork
  change ((State.closeAttempt _ 3).chan k).state = _
  simp only [attempts, pulled, lanes, State.state_closeClaim, streams]

/-- The work of a forced close leaves the DDR store. -/
theorem State.ddr_endWork (s : State) : s.endWork.store.ddr = s.store.ddr := by
  unfold State.endWork
  change (State.closeAttempt _ 3).store.ddr = _
  simp only [State.ddr_closeAttempt,
    foldl_frame State.closePull (fun t => t.store.ddr) (fun s t => s.ddr_closePull t)]
  simp [State.dropLanes]

/-- The work of a forced close leaves every role and closes every stream. -/
theorem State.endWork_stn (s : State) (k : Stn) :
    (s.endWork.stn k).role = (s.stn k).role ∧ (s.endWork.stn k).closed := by
  let s1 := ((s.closeStream 0).closeStream 1).closeStream 2
  have streams : (s1.stn k).role = (s.stn k).role ∧ (s1.stn k).closed := by
    obtain ⟨role0, closed0⟩ := s.closeStream_stn 0 k
    obtain ⟨role1, closed1⟩ := (s.closeStream 0).closeStream_stn 1 k
    obtain ⟨role2, closed2⟩ := ((s.closeStream 0).closeStream 1).closeStream_stn 2 k
    refine ⟨role2.trans (role1.trans role0), ?_⟩
    match k with
    | 0 => exact closed2 (.inl (closed1 (.inl (closed0 (.inr rfl)))))
    | 1 => exact closed2 (.inl (closed1 (.inr rfl)))
    | 2 => exact closed2 (.inr rfl)
  have same : (s.endWork.stn k).unheard = (s1.stn k).unheard := by
    unfold State.endWork
    change ((State.closeAttempt _ 3).stn k).unheard = _
    simp only [State.unheard_closeAttempt,
      foldl_frame State.closePull (fun t => (t.stn k).unheard) (fun s t => s.unheard_closePull t k)]
    simp only [State.dropLanes, State.stn_modStore, State.unheard_closeClaim]
    rfl
  refine ⟨(StationLink.role_eq_of_unheard _ _ same).trans streams.1,
    StationLink.closed_congr _ _ ?_ streams.2⟩
  rw [StationLink.fate, StationLink.stream_eq_of_unheard _ _ same, StationLink.fate]

/-! The clearing that ends every close (R195). -/

/-- A channel in another state. -/
def Channel.inState (c : Channel) (x : ChanState) : Channel := { c with state := x }

/-- A channel's move, said once: its state is the new one, and but for permits and sent frames the
rest of every channel stays. -/
theorem State.moveChan_silent (s : State) (ch k : Chan) (new : ChanState) :
    ((s.moveChan ch new).chan k).silent =
      if k = ch then (s.chan k).silent.inState new else (s.chan k).silent := by
  unfold State.moveChan State.setChan
  rw [(State.refreshPermit_chan _ ch k).1]
  by_cases same : (s.chan ch).state = new
  · rw [if_pos same]
    split
    · next h =>
      subst h
      rw [← same]
      rfl
    · rfl
  · rw [if_neg same]
    change ((s.modChan ch fun c => { c with state := new }).chan k).silent = _
    by_cases h : k = ch
    · subst h
      rw [State.chan_modChan_self, if_pos rfl]
      rfl
    · rw [State.chan_modChan_other _ _ _ _ h, if_neg h]

/-- The state of a channel after a close (R195). -/
def ChanState.afterClose (x : ChanState) : ChanState := if x = .offline then .offline else .needsCal

/-- One channel's move at the clearing, said once. -/
theorem State.closeChannel_silent (s : State) (ch k : Chan) :
    ((s.closeChannel ch).chan k).silent =
      if k = ch then (s.chan k).silent.inState (s.chan k).state.afterClose
      else (s.chan k).silent := by
  unfold State.closeChannel
  by_cases off : (s.chan ch).state = .offline
  · rw [if_pos off]
    split
    · next h =>
      subst h
      rw [off]
      change _ = (s.chan k).silent.inState .offline
      rw [← off]
      rfl
    · rfl
  · rw [if_neg off, State.moveChan_silent]
    split
    · next h =>
      subst h
      rw [ChanState.afterClose, if_neg off]
    · rfl

/-- The moves of all channels at the clearing. -/
def State.closeChannels (s : State) : State :=
  (((s.closeChannel 0).closeChannel 1).closeChannel 2).closeChannel 3

/-- Every event queue emptied. -/
def State.dropEvents (s : State) : State :=
  { s with stations := ⟨s.stations.s0.dropEvents, s.stations.s1.dropEvents, s.stations.s2.dropEvents⟩ }

/-- The end of a close, step by step (R195). -/
theorem State.finishClose_eq (s : State) (e : Event) :
    s.finishClose e = s.clearSession.closeChannels.dropEvents.raise e := rfl

@[simp] theorem State.chan_raise (s : State) (e : Event) (k : Chan) :
    (s.raise e).chan k = s.chan k := rfl

@[simp] theorem State.chan_dropEvents (s : State) (k : Chan) : s.dropEvents.chan k = s.chan k := rfl

theorem State.stn_dropEvents (s : State) (k : Stn) : s.dropEvents.stn k = (s.stn k).dropEvents := by
  match k with
  | 0 => rfl
  | 1 => rfl
  | 2 => rfl

@[simp] theorem State.unheard_closeChannels (s : State) (k : Stn) :
    (s.closeChannels.stn k).unheard = (s.stn k).unheard := by
  simp [State.closeChannels]

@[simp] theorem State.session_closeChannels (s : State) : s.closeChannels.session = s.session := by
  simp [State.closeChannels]

@[simp] theorem State.config_closeChannels (s : State) : s.closeChannels.config = s.config := by
  simp [State.closeChannels]

/-- Each channel makes its move at the clearing, and but for its permit and sent frames the rest of it
stays. -/
theorem State.closeChannels_silent (s : State) (k : Chan) :
    (s.closeChannels.chan k).silent =
      (s.chan k).silent.inState (s.chan k).state.afterClose := by
  have other : ∀ (t : State) (ch k : Chan), k ≠ ch →
      ((t.closeChannel ch).chan k).silent = (t.chan k).silent :=
    fun t ch k h => by rw [State.closeChannel_silent, if_neg h]
  have own : ∀ (t : State) (k : Chan), (t.chan k).silent = (s.chan k).silent →
      ((t.closeChannel k).chan k).silent = (s.chan k).silent.inState (s.chan k).state.afterClose :=
    fun t k h => by
      rw [State.closeChannel_silent, if_pos rfl, h, Channel.state_eq_of_silent _ _ h]
  unfold State.closeChannels
  match k with
  | 0 =>
    rw [other _ 3 0 (by decide), other _ 2 0 (by decide), other _ 1 0 (by decide)]
    exact own _ 0 rfl
  | 1 =>
    rw [other _ 3 1 (by decide), other _ 2 1 (by decide)]
    exact own _ 1 (other _ 0 1 (by decide))
  | 2 =>
    rw [other _ 3 2 (by decide)]
    exact own _ 2 (by rw [other _ 1 2 (by decide), other _ 0 2 (by decide)])
  | 3 =>
    exact own _ 3 (by rw [other _ 2 3 (by decide), other _ 1 3 (by decide), other _ 0 3 (by decide)])

/-- The clearing leaves the state of a channel. -/
theorem Channel.state_cleared (c : Channel) (ch : Chan) (port : Port) :
    (c.cleared ch port).state = c.state := by
  have dropped : ∀ (c : Channel) (i : BufId), (c.dropBuffer ch port i).state = c.state := by
    intro c i
    unfold Channel.dropBuffer
    cases i <;> split <;> rfl
  exact (dropped _ .b).trans (dropped _ .a)

/-- Each channel is cleared. -/
theorem State.chan_clearSession (s : State) (k : Chan) :
    s.clearSession.chan k = (s.chan k).cleared k s.store.port := by
  match k with
  | 0 => rfl
  | 1 => rfl
  | 2 => rfl
  | 3 => rfl

/-- What a close leaves of a channel, said once (R195). -/
theorem State.finishClose_chan (s : State) (e : Event) (k : Chan) :
    let c := (s.finishClose e).chan k
    c.state = (s.chan k).state.afterClose ∧ c.claim = none ∧ c.traverse = none
      ∧ c.claimDue = none ∧ c.pauseDue = none ∧ c.linkLossMark = false ∧ c.screen = .idle := by
  have rest : ((s.finishClose e).chan k).silent =
      ((s.chan k).cleared k s.store.port).silent.inState (s.chan k).state.afterClose := by
    rw [State.finishClose_eq, State.chan_raise, State.chan_dropEvents, State.closeChannels_silent, State.chan_clearSession, Channel.state_cleared]
  generalize (s.finishClose e).chan k = c at rest
  intro d
  exact ⟨congrArg Channel.state rest, congrArg Channel.claim rest, congrArg Channel.traverse rest,
    congrArg Channel.claimDue rest, congrArg Channel.pauseDue rest,
    congrArg Channel.linkLossMark rest, congrArg Channel.screen rest⟩

/-- What a close leaves of a station: its event queue is emptied, and then it hears SESSION_CLOSED, which
has no session time of its own (R182, R195). -/
theorem State.finishClose_stn (s : State) (e : Event) (k : Stn) :
    ∃ x : StationLink, x.unheard = (s.stn k).unheard
      ∧ (s.finishClose e).stn k =
          x.dropEvents.hear (decide (s.config.phase = .ready)) .analyst ⟨e, none⟩ := by
  have mode : s.clearSession.closeChannels.dropEvents.mode = .analyst := by
    simp [State.mode, State.dropEvents, State.clearSession]
  have time : s.clearSession.closeChannels.dropEvents.time? = none := by
    simp [State.time?, State.dropEvents, State.clearSession]
  have config : s.clearSession.closeChannels.dropEvents.config = s.config := by
    simp [State.dropEvents]
  refine ⟨s.clearSession.closeChannels.stn k, ?_, ?_⟩
  · rw [State.unheard_closeChannels, State.stn, State.stations_clearSession, State.stn]
  · rw [State.finishClose_eq, State.stn_raise, State.stn_dropEvents, mode, time, config]

/-- With a role, SESSION_CLOSED stands alone in the event queue (R182). -/
theorem StationLink.events_hear_sessionClosed (x : StationLink) (mode : Mode) (base time a b d : Nat)
    (force : Bool) (h : x.role ≠ none) :
    (x.dropEvents.hear true mode ⟨.sessionClosed base time force a b d, none⟩).events =
      [⟨.sessionClosed base time force a b d, none⟩] := by
  obtain ⟨role, hr⟩ := Option.ne_none_iff_exists'.1 h
  have dropped : x.dropEvents.role = some role := hr
  have offered : (x.dropEvents.offer ⟨.sessionClosed base time force a b d, none⟩).events =
      [⟨.sessionClosed base time force a b d, none⟩] := rfl
  simp only [StationLink.hear, dropped, routes, if_true, offered]

/-- The store after a close (R89, R195). -/
theorem State.store_finishClose (s : State) (e : Event) :
    (s.finishClose e).store =
      { s.store with
        directory := [], reservedSlots := 0, reservedPages := 0, pool := fullPool
        lanes := Four.all [], port := s.store.port.orphan, low := false } := by
  unfold State.finishClose
  simp [State.clearSession]

@[simp] theorem State.session_finishClose (s : State) (e : Event) :
    (s.finishClose e).session = none := by
  unfold State.finishClose
  simp [State.clearSession]

@[simp] theorem State.cal_finishClose (s : State) (e : Event) :
    (s.finishClose e).cal = Calibration.reset := by
  unfold State.finishClose
  simp [State.clearSession]

@[simp] theorem State.comparisons_finishClose (s : State) (e : Event) :
    (s.finishClose e).comparisons = [] := by
  unfold State.finishClose
  simp [State.clearSession]

/-! The counts of a forced close (R194). -/

/-- The number of channels for which a test holds. -/
theorem length_filter_channels (p : Chan → Bool) :
    (([0, 1, 2, 3] : List Chan).filter p).length =
      (if p 0 then 1 else 0) + (if p 1 then 1 else 0) + (if p 2 then 1 else 0)
        + (if p 3 then 1 else 0) := by
  rw [← List.countP_eq_length_filter]
  simp only [List.countP_cons, List.countP_nil]
  omega

/-- The attempts in hand, counted channel by channel. -/
theorem State.inHand_eq (s : State) :
    s.cal.inHand = (([0, 1, 2, 3] : List Chan).filter fun ch => (s.attempt? ch).isSome).length := by
  rw [length_filter_channels]
  rfl

/-- The claims held, counted channel by channel. -/
theorem State.claimsHeld_eq (s : State) :
    s.claimsHeld =
      (([0, 1, 2, 3] : List Chan).filter fun ch => (s.chan ch).state == .claimed).length := by
  rw [length_filter_channels]
  simp only [beq_iff_eq]
  rfl

/-- A traverse is in its pull in these three states. -/
theorem Traverse.inPull_eq (t : Traverse) :
    t.inPull = [TraverseState.recording, .paused, .finishing].contains t.state := by
  unfold Traverse.inPull
  cases t.state <;> rfl

/-! The answer to the request in hand. -/

/-- The answer is on the line or waits for it. -/
theorem StationLink.withReply_sent (x : StationLink) (f : StationOut) :
    (x.withReply f).line = some f ∨ (x.withReply f).reply = some f := by
  unfold StationLink.withReply
  by_cases busy : x.line.isSome = true
  · exact .inr (by rw [if_pos busy])
  · rw [if_neg busy]
    cases x.queueFull with
    | nil => exact .inl rfl
    | cons q rest => exact .inr rfl

/-- The answer leaves the events and the streams of every station. -/
theorem State.answered_stn (s : State) (st k : Stn) (tag name : Nat) (r : Status) (c : Content) :
    ((s.answered st tag name r c).stn k).events = (s.stn k).events
      ∧ ((s.answered st tag name r c).stn k).stream = (s.stn k).stream := by
  have kept : ∀ (x : StationLink) (f : StationOut),
      (x.withReply f).events = x.events ∧ (x.withReply f).stream = x.stream := by
    intro x f
    unfold StationLink.withReply
    split
    · exact ⟨rfl, rfl⟩
    · cases x.queueFull <;> exact ⟨rfl, rfl⟩
  by_cases h : k = st
  · subst h
    simp only [State.answered, State.stn, Three.get_set_self]
    exact kept _ _
  · simp [State.answered, State.stn, Three.get_set_other _ _ _ _ h]

/-- The beginning of a request leaves every role. -/
theorem State.role_begun (s : State) (st k : Stn) : ((s.begun st).stn k).role = (s.stn k).role := by
  by_cases h : k = st
  · subst h
    rw [State.stn_begun_self]
  · rw [State.stn_begun_other s st k h]

/-! The two requests. -/

/-- The state that the clearing of a close starts from (R193, R194). -/
def State.beforeClose (s : State) (force : Bool) : State := if force then s.endWork else s

/-- What a close has ended before its clearing leaves the parts that outlive the session. -/
theorem State.beforeClose_keeps (s : State) (force : Bool) :
    (s.beforeClose force).config = s.config ∧ (s.beforeClose force).store.ddr = s.store.ddr
      ∧ (∀ k, ((s.beforeClose force).chan k).state = (s.chan k).state)
      ∧ (∀ k, ((s.beforeClose force).stn k).role = (s.stn k).role)
      ∧ (force = true → ∀ k, ((s.beforeClose force).stn k).closed) := by
  unfold State.beforeClose
  cases force
  · exact ⟨rfl, rfl, fun _ => rfl, fun _ => rfl, fun h => nomatch h⟩
  · exact ⟨s.config_endWork, s.ddr_endWork, s.state_endWork, fun k => (s.endWork_stn k).1,
      fun _ k => (s.endWork_stn k).2⟩

/-- The number that a close reports: of a forced one the count, and of an unforced one 0. -/
def closeCount (force : Bool) (n : Nat) : Nat := if force then n else 0

/-- An accepted close, said once (R193 to R195). -/
theorem State.closeSession_eq (s : State) (x : Session) (force : Bool) :
    let a := closeCount force (s.store.directory.filter fun u =>
      [TraverseState.recording, .paused, .finishing].contains u.state).length
    let b := closeCount force
      (([0, 1, 2, 3] : List Chan).filter fun ch => (s.attempt? ch).isSome).length
    let d := closeCount force
      (([0, 1, 2, 3] : List Chan).filter fun ch => (s.chan ch).state == .claimed).length
    s.closeSession x force =
      ((s.beforeClose force).finishClose (.sessionClosed x.base x.seconds force a b d),
       .ok (.sessionEnded a b d)) := by
  have pulls : Traverse.inPull =
      fun u => [TraverseState.recording, .paused, .finishing].contains u.state :=
    funext Traverse.inPull_eq
  rw [← pulls, ← State.inHand_eq, ← State.claimsHeld_eq]
  cases force <;> rfl

/-- Settles O52: OPEN_SESSION by its two cases, CLOSE_SESSION by the checks of R193 and what its clearing
leaves of each block. -/
theorem sessionsOpenAndClose : Obligations.SessionsOpenAndClose := by
  refine ⟨?_, ?_⟩
  · intro st tag wall s lb
    constructor
    · intro opened
      refine s.leadRequest_answer st tag (.openSession wall) _ _ _ _ lb (if_pos ?_)
      exact Option.isSome_iff_ne_none.2 opened
    · intro shut given
      let fresh : State :=
        { s.begun st with
          session := some (newSession wall given.clamp)
          store := { s.store with
            directory := [], reservedSlots := 0, reservedPages := 0, pool := fullPool, low := false }
          cal := { s.cal with log := [], brackets := [] } }
      refine ⟨_, s.leadRequest_answer st tag (.openSession wall) _ fresh.refreshPermits .ok
        (.sessionOpened wall given.clamp given.clampedFlags) lb (if_neg ?_), ?_, ?_, ?_, ?_, ?_, ?_, ?_⟩
      · simp [shut]
      · exact fresh.session_refreshPermits
      · exact fresh.store_refreshPermits
      · exact fresh.cal_refreshPermits
      · exact fresh.refreshPermits_permit
      · exact State.stations_answered_congr _ _ _ _ _ _ _ fresh.stations_refreshPermits
      · exact fresh.comparisons_refreshPermits
      · exact fresh.config_refreshPermits
  · intro st tag force s lb c
    refine ⟨fun shut => ?_, fun opened unforced unsettled => ?_, fun x hx settled => ?_⟩
    · exact s.leadRequest_answer st tag (.closeSession force) _ _ _ _ lb
        (State.withSession_none (s.begun st) _ shut)
    · obtain ⟨x, hx⟩ := Option.ne_none_iff_exists'.1 opened
      refine s.leadRequest_answer st tag (.closeSession force) _ _ _ _ lb ?_
      rw [State.withSession_some (s.begun st) _ x hx]
      exact if_pos ⟨unforced, unsettled⟩
    · have closing := (s.begun st).closeSession_eq x force
      obtain ⟨config, ddr, states, roles, closed⟩ := (s.begun st).beforeClose_keeps force
      generalize (s.begun st).beforeClose force = u at closing config ddr states roles closed
      let a := closeCount force (s.store.directory.filter fun u =>
        [TraverseState.recording, .paused, .finishing].contains u.state).length
      let b := closeCount force
        (([0, 1, 2, 3] : List Chan).filter fun ch => (s.attempt? ch).isSome).length
      let d := closeCount force
        (([0, 1, 2, 3] : List Chan).filter fun ch => (s.chan ch).state == .claimed).length
      let e : Event := .sessionClosed x.base x.seconds force a b d
      have store := u.store_finishClose e
      refine ⟨_, s.leadRequest_answer st tag (.closeSession force) _ (u.finishClose e) .ok
        (.sessionEnded a b d) lb ?_, ?_, ?_, ?_, ?_, ?_, ?_, ?_, ?_, ?_, ?_, ?_, ?_, ?_, ?_⟩
      · rw [State.withSession_some (s.begun st) _ x hx]
        refine (if_neg ?_).trans closing
        rintro ⟨unforced, unsettled⟩
        obtain ⟨none_live, none_reserved⟩ := settled.resolve_left (by simp [unforced])
        rcases unsettled with live | reserved
        · exact live none_live
        · exact absurd none_reserved (Nat.pos_iff_ne_zero.1 reserved)
      · exact u.session_finishClose e
      · exact u.comparisons_finishClose e
      · exact u.cal_finishClose e
      · exact congrArg Store.directory store
      · exact congrArg Store.reservedSlots store
      · exact congrArg Store.reservedPages store
      · exact congrArg Store.pool store
      · exact congrArg Store.low store
      · intro ch
        rw [State.store_answered, store]
        exact Four.get_all [] ch
      · rw [State.store_answered, store]
        exact ddr
      · intro ch
        obtain ⟨state, rest⟩ := u.finishClose_chan e ch
        rw [State.chan_answered]
        refine ⟨state.trans ?_, rest⟩
        rw [states ch]
        rfl
      · intro every count a' b' d' answer
        refine ⟨?_, fun k role => ?_⟩
        · have sent := ((u.finishClose e).stn st).withReply_sent answer
          simp only [State.answered, State.stn, Three.get_set_self]
          exact sent
        · obtain ⟨y, same, told⟩ := u.finishClose_stn e k
          have ready : u.config.phase = .ready := (congrArg ConfigMem.phase config).trans lb.1.1
          have holds : y.role ≠ none := by
            rw [StationLink.role_eq_of_unheard _ _ same, roles k, State.role_begun]
            exact role
          rw [(State.answered_stn _ st k _ _ _ _).1, told, ready]
          exact y.events_hear_sessionClosed .analyst x.base x.seconds a b d force holds
      · intro forced k r hr
        obtain ⟨y, same, told⟩ := u.finishClose_stn e k
        rw [(State.answered_stn _ st k _ _ _ _).2] at hr
        have stream : ((u.finishClose e).stn k).stream = (u.stn k).stream := by
          rw [told]
          exact (StationLink.stream_eq_of_unheard _ _ (StationLink.unheard_hear ..)).trans
            (StationLink.stream_eq_of_unheard _ _ same)
        exact (StationLink.closed_iff _).1 (closed forced k) r (stream ▸ hr)
      · exact (u.config_finishClose e).trans config

end Sys2Proof.Machine
end

section
namespace Sys2Proof.Machine

/-! What lasts of a session (R1, R12, R191). -/

/-- What a command must leave of a session: its wall-time base, and under a lock the lock with all that it
freezes. -/
def Session.keeps (x y : Session) : Prop :=
  y.base = x.base
    ∧ (x.plan.locked = true → y.plan.locked = true ∧ y.plan.limits = x.plan.limits
        ∧ y.plan.mode = x.plan.mode ∧ y.plan.classes = x.plan.classes
        ∧ y.tubes.map (fun e => (e.pos, e.cls)) = x.tubes.map (fun e => (e.pos, e.cls)))

/-- A session begins and ends by no other command, and what must be left of it is left. -/
def lasts (a b : Option Session) : Prop :=
  (a = none → b = none) ∧ ∀ x, a = some x → ∃ y, b = some y ∧ x.keeps y

/-- What only an edit of the plan or of the run of tubes changes of a session: its wall-time base, its plan,
and the positions of the tubes with their classes. -/
def outline (a : Option Session) : Option (Nat × Plan × List (Pos × Nat)) :=
  a.map fun x => (x.base, x.plan, x.tubes.map fun e => (e.pos, e.cls))

/-- A session with the same outline lasts. -/
theorem lasts_of_outline (a b : Option Session) (h : outline b = outline a) : lasts a b := by
  cases a with
  | none =>
    cases b with
    | none => exact ⟨fun _ => rfl, fun _ hx => (nomatch hx)⟩
    | some y => cases h
  | some x =>
    cases b with
    | none => cases h
    | some y =>
      simp only [outline, Option.map_some, Option.some.injEq, Prod.mk.injEq] at h
      obtain ⟨base, plan, tubes⟩ := h
      refine ⟨fun hx => (nomatch hx), ?_⟩
      rintro _ ⟨⟩
      refine ⟨y, rfl, base, fun locked => ?_⟩
      rw [plan]
      exact ⟨locked, rfl, rfl, rfl, tubes⟩

/-- A session whose plan is not locked, with its base, lasts whatever else is changed. -/
theorem lasts_of_unlocked (x y : Session) (hl : x.plan.locked = false) (hb : y.base = x.base) :
    lasts (some x) (some y) := by
  refine ⟨fun h => (nomatch h), ?_⟩
  rintro _ ⟨⟩
  exact ⟨y, rfl, hb, fun locked => by simp [hl] at locked⟩

/-! The operations of the tubes and the pulls keep the outline of the session. -/

/-- The session changed as `f` gives. -/
theorem State.outline_modSession (s : State) (f : Session → Session)
    (hbase : ∀ x, (f x).base = x.base) (hplan : ∀ x, (f x).plan = x.plan)
    (htubes : ∀ x, (f x).tubes.map (fun e => (e.pos, e.cls)) = x.tubes.map fun e => (e.pos, e.cls)) :
    outline (s.modSession f).session = outline s.session := by
  simp [outline, Function.comp_def, hbase, hplan, htubes]

/-- An entry changed in its place keeps the position and the class of every tube. -/
@[simp] theorem State.outline_modTube (s : State) (p : Pos) (f : TubeEntry → TubeEntry)
    (hpos : ∀ t, (f t).pos = t.pos) (hcls : ∀ t, (f t).cls = t.cls) :
    outline (s.modTube p f).session = outline s.session := by
  refine s.outline_modSession _ (fun _ => rfl) (fun _ => rfl) fun x => ?_
  rw [List.map_map]
  refine List.map_congr_left fun t _ => ?_
  by_cases h : t.pos = p <;> simp [h, hpos, hcls]

@[simp] theorem State.outline_moveTube (s : State) (p : Pos) (new : TubeState)
    (f : TubeEntry → TubeEntry) (hcls : ∀ t, (f t).cls = t.cls) :
    outline (s.moveTube p new f).session = outline s.session := by
  unfold State.moveTube
  cases s.tube? p with
  | none => rfl
  | some t =>
    exact (State.outline_modSession _ (fun x => { x with counts := x.counts.move t.state new })
      (fun _ => rfl) (fun _ => rfl) fun _ => rfl).trans (s.outline_modTube p (fun t => { f t with pos := t.pos, state := new, changed := s.time })
        (fun _ => rfl) hcls)

@[simp] theorem State.outline_endClaim (s : State) (ch : Chan)
    (restriction : Bool) :
    outline (s.endClaim ch restriction).session = outline s.session := by
  unfold State.endClaim
  split <;> simp

@[simp] theorem State.outline_grantClaim (s : State) (ch : Chan) (p : Pos) :
    outline (s.grantClaim ch p).session = outline s.session := by
  simp [State.grantClaim]

@[simp] theorem State.outline_abortTube (s : State) (p : Pos)
    (restriction : Bool) :
    outline (s.abortTube p restriction).session = outline s.session := by
  unfold State.abortTube
  split <;> simp

@[simp] theorem State.outline_retestTube (s : State) (p : Pos)
    (cause : RetestCause) (reset : Bool) (traverse : Option Nat) :
    outline (s.retestTube p cause reset traverse).session = outline s.session := by
  unfold State.retestTube
  cases traverse <;> simp [TubeEntry.dropCalls]

@[simp] theorem State.outline_decideTube (s : State) (p : Pos) (call : Call) :
    outline (s.decideTube p call).session = outline s.session := by
  simp [State.decideTube]

@[simp] theorem State.outline_applyOutcome (s : State) (c : Comparison) :
    outline (s.applyOutcome c).session = outline s.session := by
  unfold State.applyOutcome
  (repeat' split) <;> simp

@[simp] theorem State.outline_createTraverse (s : State) (t : Traverse) :
    outline (s.createTraverse t).session = outline s.session :=
  State.outline_modSession _ _ (fun _ => rfl) (fun _ => rfl) fun _ => rfl

@[simp] theorem State.outline_beginPull (s : State) (ch : Chan) (p : Pos) :
    outline (s.beginPull ch p).session = outline s.session := by
  simp [State.beginPull]

@[simp] theorem State.outline_beginCalibration (s : State) (ch : Chan) (id : Nat)
    (std : Standard) :
    outline (s.beginCalibration ch id std).session = outline s.session := by
  simp [State.beginCalibration]

@[simp] theorem State.outline_acquireTube (s : State) (p : Pos) (id : Nat)
    (ch : Chan) :
    outline (s.acquireTube p id ch).session = outline s.session := by
  simp [State.acquireTube, TubeEntry.dropCalls]

@[simp] theorem State.outline_completeTraverse (s : State) (t : Traverse) :
    outline (s.completeTraverse t).session = outline s.session := by
  unfold State.completeTraverse
  extract_lets ch
  cases (s.chan ch).screen.boundTo t.id with
  | none => rfl
  | some u => cases t.target <;> simp

@[simp] theorem State.outline_tryComplete (s : State) (id : Nat) :
    outline (s.tryComplete id).session = outline s.session := by
  unfold State.tryComplete
  (repeat' split) <;> simp

@[simp] theorem State.outline_finishPull (s : State) (ch : Chan) (id : Nat)
    (new : ChanState) :
    outline (s.finishPull ch id new).session = outline s.session := by
  simp [State.finishPull]

@[simp] theorem State.outline_abortPull (s : State) (ch : Chan)
    (restriction report : Bool) :
    outline (s.abortPull ch restriction report).session = outline s.session := by
  unfold State.abortPull
  split <;> simp

@[simp] theorem State.outline_abortAndRest (s : State) (ch : Chan)
    (restriction : Bool) :
    outline (s.abortAndRest ch restriction).session = outline s.session := by
  simp [State.abortAndRest]

@[simp] theorem State.outline_endClaimAndRest (s : State) (ch : Chan)
    (restriction : Bool) :
    outline (s.endClaimAndRest ch restriction).session = outline s.session := by
  simp [State.endClaimAndRest]

@[simp] theorem State.outline_loseLink (s : State) (ch : Chan) :
    outline (s.loseLink ch).session = outline s.session := by
  unfold State.loseLink State.loseWork
  cases (s.chan ch).state <;> simp

@[simp] theorem State.outline_failWork (s : State) (ch : Chan) :
    outline (s.failWork ch).session = outline s.session := by
  unfold State.failWork
  (repeat' split) <;> simp

@[simp] theorem State.outline_failProbe (s : State) (ch : Chan) :
    outline (s.failProbe ch).session = outline s.session := by
  unfold State.failProbe
  extract_lets s1
  split <;> simp [s1]

@[simp] theorem State.outline_presentFail (s : State) (n id : Nat) :
    outline (s.presentFail n id).session = outline s.session := by
  unfold State.presentFail
  (repeat' split) <;> simp

@[simp] theorem State.outline_writeEnded (s : State) (ch : Chan) (i : BufId)
    (traverse : Option Nat) (page : Nat) (bytes : List Byte) :
    outline (s.writeEnded ch i traverse page bytes).session = outline s.session := by
  unfold State.writeEnded
  cases traverse <;> simp

/-! The calibration log through everything but an accepted verdict (R131). -/

@[simp] theorem State.log_modBracket (s : State) (n : Nat) (f : Bracket → Bracket) :
    (s.modBracket n f).cal.log = s.cal.log := rfl

@[simp] theorem State.log_setAttempt (s : State) (ch : Chan) (a : Option Attempt) :
    (s.setAttempt ch a).cal.log = s.cal.log := rfl

@[simp] theorem State.log_setCalDue (s : State) (ch : Chan) (cause : CalDue) :
    (s.setCalDue ch cause).cal.log = s.cal.log := by
  unfold State.setCalDue
  cases s.openBracket ch with
  | none => rfl
  | some b =>
    dsimp only
    (repeat' split) <;> simp

@[simp] theorem State.log_closeBracket (s : State) (n : Nat) (good : Bool) (cause : ClosingCause) :
    (s.closeBracket n good cause).cal.log = s.cal.log := rfl

@[simp] theorem State.log_settleSweep (s : State) (n : Nat) :
    (s.settleSweep n).cal.log = s.cal.log := by
  unfold State.settleSweep
  (repeat' split) <;> simp

@[simp] theorem State.log_failBracket (s : State) (ch : Chan) (cause : ClosingCause) :
    (s.failBracket ch cause).cal.log = s.cal.log := by
  unfold State.failBracket
  split <;> simp

@[simp] theorem State.log_abortCalibration (s : State) (ch : Chan) :
    (s.abortCalibration ch).cal.log = s.cal.log := by
  unfold State.abortCalibration
  split <;> simp

@[simp] theorem State.log_endEvaluation (s : State) (ch : Chan) (id : Nat) (v : CalVerdict) :
    (s.endEvaluation ch id v).cal.log = s.cal.log := by
  unfold State.endEvaluation
  extract_lets s1 s2 s3
  have marked : s3.cal.log = s.cal.log := by
    simp only [s3, s2, s1, State.cal_modChan]
    split <;> simp
  split
  · next s4 _ => simp [s4, marked]
  · exact marked

@[simp] theorem State.log_rejectCalibration (s : State) (ch : Chan) (a : Attempt)
    (reason : CalReject) : (s.rejectCalibration ch a reason).cal.log = s.cal.log := by
  simp [State.rejectCalibration]

/-- An accepted verdict adds its entry at the end of the log. -/
theorem State.log_acceptCalibration (s : State) (ch : Chan) (a : Attempt) (f : Figures) :
    (s.acceptCalibration ch a f).cal.log = s.cal.log ++ [s.newLogEntry ch a f] := by
  unfold State.acceptCalibration
  extract_lets e s1 s2 s3 s4 outcome s5 s6
  have closed : s2.cal.log = s.cal.log ++ [e] := by
    simp only [s2]
    cases e.closed <;> simp [s1]
  have told : s6.cal.log = s.cal.log ++ [e] := by
    simpa [s6, s5, s4, s3] using closed
  cases e.closed with
  | none => exact told
  | some i => exact (s6.log_settleSweep i.number).trans told

@[simp] theorem State.log_joinBracket (s : State) (ch : Chan) (id : Nat) :
    (s.joinBracket ch id).cal.log = s.cal.log := by
  unfold State.joinBracket
  cases s.openBracket ch with
  | none => rfl
  | some b =>
    dsimp only
    split <;> simp

@[simp] theorem State.log_beginPull (s : State) (ch : Chan) (p : Pos) :
    (s.beginPull ch p).cal.log = s.cal.log := by
  simp [State.beginPull]

@[simp] theorem State.log_beginCalibration (s : State) (ch : Chan) (id : Nat) (std : Standard) :
    (s.beginCalibration ch id std).cal.log = s.cal.log := by
  simp [State.beginCalibration]

@[simp] theorem State.log_completeTraverse (s : State) (t : Traverse) :
    (s.completeTraverse t).cal.log = s.cal.log := by
  unfold State.completeTraverse
  extract_lets ch
  cases (s.chan ch).screen.boundTo t.id with
  | none => rfl
  | some u => cases t.target <;> simp

@[simp] theorem State.log_tryComplete (s : State) (id : Nat) :
    (s.tryComplete id).cal.log = s.cal.log := by
  unfold State.tryComplete
  (repeat' split) <;> simp

@[simp] theorem State.log_finishPull (s : State) (ch : Chan) (id : Nat) (new : ChanState) :
    (s.finishPull ch id new).cal.log = s.cal.log := by
  simp [State.finishPull]

@[simp] theorem State.log_loseLink (s : State) (ch : Chan) :
    (s.loseLink ch).cal.log = s.cal.log := by
  unfold State.loseLink State.loseWork
  cases (s.chan ch).state <;> simp

@[simp] theorem State.log_linkUp (s : State) (ch : Chan) (id : Identity) :
    (s.linkUp ch id).cal.log = s.cal.log := by
  have checked : ∀ t : State, (t.checkIdentity ch id.probe).cal.log = t.cal.log := by
    intro t
    unfold State.checkIdentity
    extract_lets failing s1
    have abandoned : s1.cal.log = t.cal.log := by
      simp only [s1]
      split <;> simp
    split <;> simp [abandoned]
  simp [State.linkUp, checked]

@[simp] theorem State.log_failWork (s : State) (ch : Chan) :
    (s.failWork ch).cal.log = s.cal.log := by
  unfold State.failWork
  (repeat' split) <;> simp

@[simp] theorem State.log_failProbe (s : State) (ch : Chan) :
    (s.failProbe ch).cal.log = s.cal.log := by
  unfold State.failProbe
  extract_lets s1
  split <;> simp [s1]

@[simp] theorem State.log_presentFail (s : State) (n id : Nat) :
    (s.presentFail n id).cal.log = s.cal.log := by
  unfold State.presentFail
  (repeat' split) <;> simp

@[simp] theorem State.log_writeEnded (s : State) (ch : Chan) (i : BufId) (traverse : Option Nat)
    (page : Nat) (bytes : List Byte) :
    (s.writeEnded ch i traverse page bytes).cal.log = s.cal.log := by
  unfold State.writeEnded
  cases traverse <;> simp

end Sys2Proof.Machine
end

section
namespace Sys2Proof.Machine

/-! What lasts through a command. -/

/-- The session lasts and the calibration log stays. -/
def State.lasting (s t : State) : Prop := lasts s.session t.session ∧ t.cal.log = s.cal.log

/-- An act that keeps the outline of the session and the log. -/
theorem State.lasting_of_outline (s t : State) (h : outline t.session = outline s.session)
    (hl : t.cal.log = s.cal.log) : s.lasting t :=
  ⟨lasts_of_outline _ _ h, hl⟩

@[simp] theorem State.lasting_refl (s : State) : s.lasting s := s.lasting_of_outline s rfl rfl

/-- An act that leaves the session and the Calibration Unit. -/
theorem State.lasting_of_eq (s t : State) (h : t.session = s.session) (hc : t.cal = s.cal) :
    s.lasting t :=
  s.lasting_of_outline t (congrArg outline h) (congrArg Calibration.log hc)

/-- A change of the open session alone. -/
theorem State.lasting_modSession (s : State) (f : Session → Session)
    (h : ∀ x, s.session = some x → lasts (some x) (some (f x))) : s.lasting (s.modSession f) := by
  refine ⟨?_, rfl⟩
  rw [State.session_modSession]
  cases hx : s.session with
  | none => exact lasts_of_outline _ _ rfl
  | some x => exact h x hx

/-- What lasts through an act lasts through the arrival that it is. -/
theorem State.act_lasting (s t : State) (f : State → State) (hf : ∀ s : State, s.lasting (f s))
    (h : s.act f = .next t) : s.lasting t := by
  unfold State.act at h
  split at h <;> cases h
  · exact s.lasting_refl
  · exact hf s

/-- What lasts through an act lasts through the probe frame that it answers. -/
theorem State.probeFrame_lasting (s t : State) (ch : Chan) (f : State → State)
    (hf : ∀ s : State, s.lasting (f s)) (h : s.probeFrame ch f = .next t) : s.lasting t := by
  refine State.act_lasting s t _ (fun s => ?_) h
  split
  · exact s.lasting_refl
  · exact hf (s.modChan ch fun c => { c with silenceMs := 0 })

/-- What lasts through the execution of a request lasts through its arrival and beginning. -/
theorem State.takeRequest_lasting (s t : State) (st : Stn) (tag : Nat) (req : Request)
    (run : State → State) (hr : ∀ s : State, s.lasting (run s)) (h : s.takeRequest st tag req run = .next t) :
    s.lasting t := by
  refine State.act_lasting s t _ (fun s => ?_) h
  have arrived : ∀ u : State, u.session = s.session → u.cal = s.cal →
      s.lasting (if u.begins st ⟨tag, req⟩ then run (u.modStn st fun x => { x with inHand := true })
        else u) := by
    intro u session cal
    split
    · obtain ⟨kept, log⟩ := hr (u.modStn st fun x => { x with inHand := true })
      rw [State.session_modStn, session] at kept
      rw [State.cal_modStn, cal] at log
      exact ⟨kept, log⟩
    · exact s.lasting_of_eq u session cal
  refine arrived _ ?_ ?_
  · split <;> simp
  · split <;> simp

/-- What lasts through the body of a request lasts through the request. -/
theorem State.request_lasting (s t : State) (st : Stn) (tag : Nat) (req : Request)
    (body : State → State × Reply) (hb : ∀ s : State, s.lasting (body s).1)
    (h : s.request st tag req body = .next t) : s.lasting t :=
  s.takeRequest_lasting t st tag req _ (fun s => by simpa [State.lasting] using hb s) h

/-- What lasts through the body of a lead request lasts through the request. -/
theorem State.leadRequest_lasting (s t : State) (st : Stn) (tag : Nat) (req : Request)
    (body : State → State × Reply) (hb : ∀ s : State, s.lasting (body s).1)
    (h : s.leadRequest st tag req body = .next t) : s.lasting t := by
  refine s.request_lasting t st tag req _ (fun s => ?_) h
  unfold State.forLead State.forRole
  split
  · exact hb s
  · exact s.lasting_refl

/-- The check for a session changes nothing. -/
theorem State.withSession_lasting (s : State) (body : Session → State × Reply)
    (hb : ∀ x, s.session = some x → s.lasting (body x).1) : s.lasting (s.withSession body).1 := by
  unfold State.withSession
  cases hx : s.session with
  | none => exact s.lasting_refl
  | some x => exact hb x hx

/-- The check for a position changes nothing. -/
theorem State.withTube_lasting (s : State) (p : Pos) (body : TubeEntry → State × Reply)
    (hb : ∀ e, s.lasting (body e).1) : s.lasting (s.withTube p body).1 := by
  unfold State.withTube
  cases s.tube? p with
  | none => exact s.lasting_refl
  | some e => exact hb e

/-- An edit acts on an unlocked plan only, so whatever it changes but the base lasts. -/
theorem State.editRequest_lasting (s t : State) (st : Stn) (tag : Nat) (req : Request) (good : Bool)
    (body : State → Session → State × Reply)
    (hb : ∀ (s : State) (x : Session), s.session = some x → x.plan.locked = false → s.lasting (body s x).1)
    (h : s.editRequest st tag req good body = .next t) : s.lasting t := by
  refine s.leadRequest_lasting t st tag req _ (fun s => s.withSession_lasting _ fun x hx => ?_) h
  cases locked : x.plan.locked
  · cases good
    · exact s.lasting_refl
    · exact hb s x hx locked
  · exact s.lasting_refl

/-- A change of the plan of an unlocked session. -/
theorem State.lasting_modPlan_unlocked (s : State) (f : Plan → Plan) (x : Session)
    (hx : s.session = some x) (hl : x.plan.locked = false) : s.lasting (s.modPlan f) :=
  s.lasting_modSession _ fun y hy => by
    rw [hx] at hy
    cases hy
    exact lasts_of_unlocked x _ hl rfl

end Sys2Proof.Machine
end

section
namespace Sys2Proof.Machine

/-! What lasts through the acts of probe units and of their timers. -/

theorem State.takeClaim_lasting (s : State) (ch : Chan) (row col : Nat) :
    s.lasting (s.takeClaim ch row col) := by
  unfold State.takeClaim
  split
  · exact s.lasting_of_eq _ (by simp) (by simp)
  · exact s.lasting_of_outline _ (by simp) (by simp)

theorem State.takePullStart_lasting (s : State) (ch : Chan) : s.lasting (s.takePullStart ch) := by
  have refused : ∀ f, s.lasting (s.sendProbe ch f) := fun f => s.lasting_of_eq _ (by simp) (by simp)
  unfold State.takePullStart
  cases (s.chan ch).state with
  | claimed =>
    cases (s.chan ch).claim with
    | none => exact refused _
    | some p => exact s.lasting_of_outline _ (by simp) (by simp)
  | _ => exact refused _

theorem State.takeAbandon_lasting (s : State) (ch : Chan) (restriction : Bool) :
    s.lasting (s.takeAbandon ch restriction) := by
  unfold State.takeAbandon
  cases (s.chan ch).state <;> exact s.lasting_of_outline _ (by simp) (by simp)

theorem State.takeCalStart_lasting (s : State) (ch : Chan) (std : Nat) :
    s.lasting (s.takeCalStart ch std) := by
  unfold State.takeCalStart
  split <;> exact s.lasting_of_outline _ (by simp) (by simp)

theorem State.finishPull_lasting (s : State) (ch : Chan) (id : Nat) (new : ChanState) :
    s.lasting (s.finishPull ch id new) :=
  s.lasting_of_outline _ (by simp) (by simp)

/-! What lasts through a sweep. -/

theorem State.sweepStep_lasting (s : State) (n : Nat) (verdict : BracketState)
    (present : State → Nat → State) (hp : ∀ (s : State) (id : Nat), s.lasting (present s id)) :
    s.lasting (s.sweepStep n verdict present) := by
  have settled : ∀ u : State, s.lasting u → s.lasting (u.settleSweep n) := fun u h => by
    simpa [State.lasting] using h
  unfold State.sweepStep
  (repeat' split)
  · exact s.lasting_refl
  · exact settled s s.lasting_refl
  · next b _ _ _ id rest _ =>
    exact settled _ (hp (s.modBracket n fun b => { b with toPresent := rest }) id)
  · exact s.lasting_refl

/-! What lasts through the requests. -/

/-- A change of the plan that keeps what a lock freezes. -/
theorem State.lasting_modPlan (s : State) (f : Plan → Plan)
    (hf : ∀ p, (f p).locked = p.locked ∧ (f p).limits = p.limits ∧ (f p).mode = p.mode
      ∧ (f p).classes = p.classes) : s.lasting (s.modPlan f) := by
  refine s.lasting_modSession _ fun x _ => ⟨fun h => (nomatch h), ?_⟩
  rintro _ ⟨⟩
  obtain ⟨locked, limits, mode, classes⟩ := hf x.plan
  exact ⟨_, rfl, rfl, fun h => ⟨locked.trans h, limits, mode, classes, rfl⟩⟩

/-- LOCK_PLAN changes the lock of an unlocked plan only. -/
theorem execLockPlan_lasting (st : Stn) (tag : Nat) (s t : State)
    (h : execLockPlan st tag s = .next t) : s.lasting t := by
  refine s.leadRequest_lasting t st tag _ _ (fun s => ?_) h
  by_cases locked : s.planLocked = true
  · rw [if_pos locked]
    exact s.lasting_refl
  · rw [if_neg locked]
    cases hf : s.lockFailure with
    | some r => exact s.lasting_refl
    | none =>
      cases hx : s.session with
      | none => simp [State.lockFailure, hx] at hf
      | some x =>
        have unlocked : x.plan.locked = false := by simpa [State.planLocked, hx] using locked
        simpa [State.lasting] using
          s.lasting_modPlan_unlocked (fun p => { p with locked := true }) x hx unlocked

theorem execSetWindow_lasting (st : Stn) (tag ch : Nat) (w : Rect) (s t : State)
    (h : execSetWindow st tag ch w s = .next t) : s.lasting t := by
  refine s.leadRequest_lasting t st tag _ _ (fun s => s.withSession_lasting _ fun x _ => ?_) h
  split
  · exact s.lasting_modPlan _ fun p => ⟨rfl, rfl, rfl, rfl⟩
  · exact s.lasting_refl

theorem execSetExclusions_lasting (st : Stn) (tag : Nat) (complement : Bool) (rects : List Rect)
    (s t : State) (h : execSetExclusions st tag complement rects s = .next t) : s.lasting t := by
  refine s.leadRequest_lasting t st tag _ _ (fun s => s.withSession_lasting _ fun x _ => ?_) h
  split
  · exact s.lasting_modPlan _ fun p => ⟨rfl, rfl, rfl, rfl⟩
  · exact s.lasting_refl

theorem execDefineStandard_lasting (st : Stn) (tag id : Nat) (depths : List Nat)
    (freq threshold : Nat) (s t : State)
    (h : execDefineStandard st tag id depths freq threshold s = .next t) : s.lasting t := by
  refine s.leadRequest_lasting t st tag _ _ (fun s => ?_) h
  dsimp only
  (repeat' split) <;> exact s.lasting_of_eq _ (by simp) (by simp)

/-- DEFINE_TUBES acts on an unlocked plan only. -/
theorem execDefineTubes_lasting (st : Stn) (tag row col1 col2 cls : Nat) (cond : Condition)
    (s t : State) (h : execDefineTubes st tag row col1 col2 cls cond s = .next t) : s.lasting t := by
  refine s.editRequest_lasting t st tag _ _ _ (fun s x hx unlocked => ?_) h
  dsimp only
  split
  · exact s.lasting_refl
  · refine s.lasting_modSession _ fun y hy => ?_
    rw [hx] at hy
    cases hy
    exact lasts_of_unlocked x _ unlocked rfl

/-- REMOVE_TUBES acts on an unlocked plan only. -/
theorem execRemoveTubes_lasting (st : Stn) (tag row col1 col2 : Nat) (s t : State)
    (h : execRemoveTubes st tag row col1 col2 s = .next t) : s.lasting t := by
  refine s.editRequest_lasting t st tag _ _ _ (fun s x hx unlocked => ?_) h
  refine s.lasting_modSession _ fun y hy => ?_
  rw [hx] at hy
  cases hy
  exact lasts_of_unlocked x _ unlocked rfl

theorem State.leadRetest_lasting (s : State) (e : TubeEntry) (reset : Bool) :
    s.lasting (s.leadRetest e reset).1 := by
  have sent : ∀ cause reset traverse, s.lasting (s.retestTube e.pos cause reset traverse) :=
    fun _ _ _ => s.lasting_of_outline _ (by simp) (by simp)
  unfold State.leadRetest
  cases e.state with
  | claimed => exact s.lasting_refl
  | plugged => exact s.lasting_refl
  | pending => cases reset <;> simp [sent]
  | retest => cases reset <;> simp [sent]
  | restricted => cases reset <;> simp [sent]
  | _ => exact sent _ _ _

theorem execConfirmPlug_lasting (st : Stn) (tag row col : Nat) (s t : State)
    (h : execConfirmPlug st tag row col s = .next t) : s.lasting t := by
  refine s.leadRequest_lasting t st tag _ _ (fun s => s.withSession_lasting _ fun x _ =>
    s.withTube_lasting _ _ fun e => ?_) h
  split
  · cases e.traverse <;> exact s.lasting_of_outline _ (by simp) (by simp)
  · exact s.lasting_refl

theorem execSubmitFinal_lasting (st : Stn) (tag row col traverse : Nat) (call : SubmittedCall)
    (s t : State) (h : execSubmitFinal st tag row col traverse call s = .next t) : s.lasting t := by
  refine s.leadRequest_lasting t st tag _ _ (fun s => s.withSession_lasting _ fun x _ => ?_) h
  split
  · exact s.lasting_refl
  · refine s.withTube_lasting _ _ fun e => ?_
    (repeat' split) <;> exact s.lasting_of_outline _ (by simp) (by simp)

theorem execMarkArchived_lasting (st : Stn) (tag traverse : Nat) (s t : State)
    (h : execMarkArchived st tag traverse s = .next t) : s.lasting t := by
  refine s.leadRequest_lasting t st tag _ _ (fun s => s.withSession_lasting _ fun x _ => ?_) h
  cases s.trav? traverse with
  | none => exact s.lasting_refl
  | some u =>
    have archived : s.lasting (if u.archived then s
        else (s.modTrav traverse fun t => { t with archived := true }).testRelease traverse) := by
      split
      · exact s.lasting_refl
      · exact s.lasting_of_eq _ (by simp) (by simp)
    cases hs : u.state with
    | recording => simp [hs]
    | paused => simp [hs]
    | finishing => simp [hs]
    | _ => simpa [hs] using archived

theorem execDeclareProbeFailed_lasting (st : Stn) (tag ch : Nat) (s t : State)
    (h : execDeclareProbeFailed st tag ch s = .next t) : s.lasting t := by
  refine s.leadRequest_lasting t st tag _ _ (fun s => ?_) h
  cases chanOf ch with
  | none => exact s.lasting_refl
  | some c => exact s.lasting_of_outline _ (by simp) (by simp)

theorem State.submitCall_lasting (s : State) (role : Role) (p : Pos) (traverse : Nat)
    (call : SubmittedCall) : s.lasting (s.submitCall role p traverse call).1 := by
  have accepted : ∀ (e : TubeEntry) (c : Call), s.lasting (s.acceptSubmit role e c).1 := by
    intro e c
    have compared : ∀ (u : State) (q : Pos), (u.startComparison q).1.session = u.session
        ∧ (u.startComparison q).1.cal = u.cal := by
      intro u q
      unfold State.startComparison
      (repeat' split) <;> simp
    have kept : ∀ f : TubeEntry, (f.withCall role c).pos = f.pos ∧ (f.withCall role c).cls = f.cls := by
      intro f
      cases role <;> exact ⟨rfl, rfl⟩
    refine s.lasting_of_outline _ ?_ ?_
    · simp [State.acceptSubmit, compared, kept]
    · simp [State.acceptSubmit, compared]
  unfold State.submitCall
  refine s.withSession_lasting _ fun x _ => ?_
  split
  · exact s.lasting_refl
  · split
    · exact s.lasting_refl
    · refine s.withTube_lasting _ _ fun e => ?_
      split
      · exact s.lasting_refl
      · split
        · exact s.lasting_refl
        · exact accepted _ _

theorem State.runReadPages_lasting (s : State) (st : Stn) (tag traverse first count : Nat) :
    s.lasting (s.runReadPages st tag traverse first count) := by
  unfold State.runReadPages
  extract_lets refuse
  (repeat' split) <;> exact s.lasting_of_eq _ (by simp [refuse]) (by simp [refuse])

/-! What lasts through the arrivals and the requests that are left. -/

/-- An arrival that leaves the session and the Calibration Unit. -/
theorem State.lasting_of_next (s t u : State) (h : (.next u : Host.Outcome State Fault Refusal) = .next t)
    (hs : u.session = s.session) (hc : u.cal = s.cal) : s.lasting t := by
  cases h
  exact s.lasting_of_eq t hs hc

theorem execResetRelease_lasting (s t : State)
    (h : execResetRelease s = .next t) : s.lasting t := by
  unfold execResetRelease at h
  split at h
  · exact s.lasting_of_next t _ h rfl rfl
  · exact s.lasting_of_next t _ h rfl rfl

theorem execStartupReadEnd_lasting (upset : List Host.Cell) (s t : State)
    (h : execStartupReadEnd upset s = .next t) : s.lasting t := by
  unfold execStartupReadEnd at h
  split at h
  · exact s.lasting_of_next t _ h (by simp) (by simp)
  · exact s.lasting_of_next t _ h rfl rfl

theorem execHello_lasting (ch : Chan) (id : Identity) (s t : State)
    (h : execHello ch id s = .next t) : s.lasting t := by
  refine s.act_lasting t _ (fun s => ?_) h
  split <;> exact s.lasting_of_outline _ (by simp) (by simp)

theorem execProbeIdle_lasting (ch : Chan) (s t : State)
    (h : execProbeIdle ch s = .next t) : s.lasting t :=
  s.probeFrame_lasting t ch _ (fun s => s.lasting_refl) h

theorem execProbeFrameDiscarded_lasting (ch : Chan) (frame : List Byte) (s t : State)
    (h : execProbeFrameDiscarded ch frame s = .next t) : s.lasting t :=
  s.act_lasting t _ (fun s => s.lasting_refl) h

theorem execClaim_lasting (ch : Chan) (row col : Nat) (s t : State)
    (h : execClaim ch row col s = .next t) : s.lasting t :=
  s.probeFrame_lasting t ch _ (fun s => s.takeClaim_lasting ch row col) h

theorem execReleaseClaim_lasting (ch : Chan) (s t : State)
    (h : execReleaseClaim ch s = .next t) : s.lasting t := by
  refine s.probeFrame_lasting t ch _ (fun s => ?_) h
  split
  · exact s.lasting_of_outline _ (by simp) (by simp)
  all_goals exact s.lasting_refl

theorem execPullStart_lasting (ch : Chan) (s t : State)
    (h : execPullStart ch s = .next t) : s.lasting t :=
  s.probeFrame_lasting t ch _ (fun s => s.takePullStart_lasting ch) h

theorem execSample_lasting (ch : Chan) (seq : Nat) (reading : Reading) (s t : State)
    (h : execSample ch seq reading s = .next t) : s.lasting t := by
  refine s.probeFrame_lasting t ch _ (fun s => ?_) h
  split
  · exact s.lasting_of_eq _ (by simp) (by simp)
  · exact s.lasting_refl

theorem execPause_lasting (ch : Chan) (s t : State)
    (h : execPause ch s = .next t) : s.lasting t := by
  refine s.probeFrame_lasting t ch _ (fun s => ?_) h
  (repeat' split) <;> exact s.lasting_of_eq _ (by simp) (by simp)

theorem execResume_lasting (ch : Chan) (s t : State)
    (h : execResume ch s = .next t) : s.lasting t := by
  refine s.probeFrame_lasting t ch _ (fun s => ?_) h
  split <;> exact s.lasting_of_eq _ (by simp) (by simp)

theorem execPullEnd_lasting (ch : Chan) (s t : State)
    (h : execPullEnd ch s = .next t) : s.lasting t := by
  refine s.probeFrame_lasting t ch _ (fun s => ?_) h
  split
  · split
    · exact s.finishPull_lasting ch _ _
    · exact s.lasting_refl
  · exact s.finishPull_lasting ch _ _
  · exact s.finishPull_lasting ch _ _
  · exact s.lasting_refl

theorem execAbandon_lasting (ch : Chan) (reason : AbandonReason) (s t : State)
    (h : execAbandon ch reason s = .next t) : s.lasting t :=
  s.probeFrame_lasting t ch _ (fun s => s.takeAbandon_lasting ch _) h

theorem execCalStart_lasting (ch : Chan) (std : Nat) (s t : State)
    (h : execCalStart ch std s = .next t) : s.lasting t :=
  s.probeFrame_lasting t ch _ (fun s => s.takeCalStart_lasting ch std) h

theorem execProbeFailed_lasting (ch : Chan) (s t : State)
    (h : execProbeFailed ch s = .next t) : s.lasting t :=
  s.probeFrame_lasting t ch _ (fun s => s.lasting_of_outline _ (by simp) (by simp)) h

theorem execProbeLinkLoss_lasting (ch : Chan) (s t : State)
    (h : execProbeLinkLoss ch s = .next t) : s.lasting t := by
  refine s.act_lasting t _ (fun s => ?_) h
  split
  · exact s.lasting_refl
  · exact s.lasting_of_outline _ (by simp) (by simp)

theorem execProbeIdleSend_lasting (ch : Chan) (s t : State)
    (h : execProbeIdleSend ch s = .next t) : s.lasting t :=
  s.act_lasting t _ (fun s => s.lasting_of_eq _ (by simp) (by simp)) h

theorem execClaimExpiry_lasting (ch : Chan) (s t : State)
    (h : execClaimExpiry ch s = .next t) : s.lasting t := by
  refine s.act_lasting t _ (fun s => ?_) h
  split <;> exact s.lasting_of_outline _ (by simp) (by simp)

theorem execPauseExpiry_lasting (ch : Chan) (s t : State)
    (h : execPauseExpiry ch s = .next t) : s.lasting t := by
  refine s.act_lasting t _ (fun s => ?_) h
  split <;> exact s.lasting_of_outline _ (by simp) (by simp)

theorem execPageWriteEnd_lasting (s t : State)
    (h : execPageWriteEnd s = .next t) : s.lasting t := by
  unfold execPageWriteEnd at h
  (repeat' split at h) <;> cases h
  · exact s.lasting_refl
  · exact s.lasting_of_outline _ (by simp) (by simp)
  all_goals exact s.lasting_refl

theorem execFetchEnd_lasting (upset : List Host.Cell) (s t : State)
    (h : execFetchEnd upset s = .next t) : s.lasting t := by
  unfold execFetchEnd at h
  (repeat' split at h) <;> cases h
  · exact s.lasting_refl
  · exact s.lasting_of_eq _ (by simp) (by simp)
  all_goals exact s.lasting_refl

theorem execBracketAgeLimit_lasting (ch : Chan) (s t : State)
    (h : execBracketAgeLimit ch s = .next t) : s.lasting t := by
  refine s.act_lasting t _ (fun s => ?_) h
  split <;> exact s.lasting_of_outline _ (by simp) (by simp)

theorem execClosedFailPresentation_lasting (bracket : Nat) (s t : State)
    (h : execClosedFailPresentation bracket s = .next t) : s.lasting t :=
  s.act_lasting t _ (fun s => s.sweepStep_lasting _ _ _ fun s id =>
    s.lasting_of_outline _ (by simp) (by simp)) h

theorem execClosedGoodHandover_lasting (bracket : Nat) (s t : State)
    (h : execClosedGoodHandover bracket s = .next t) : s.lasting t :=
  s.act_lasting t _ (fun s => s.sweepStep_lasting _ _ _ fun s id =>
    s.lasting_of_eq _ (by simp) (by simp)) h

theorem execComparisonEnd_lasting (row col : Nat) (s t : State)
    (h : execComparisonEnd row col s = .next t) : s.lasting t := by
  refine s.act_lasting t _ (fun s => ?_) h
  split <;> exact s.lasting_of_outline _ (by simp) (by simp)

theorem execStationRequestFrame_lasting (st : Stn) (tag : Nat) (req : Request) (s t : State)
    (h : execStationRequestFrame st tag req s = .next t) : s.lasting t :=
  s.act_lasting t _ (fun s => s.lasting_of_eq _ (by simp) (by simp)) h

theorem execAbortStream_lasting (st : Stn) (s t : State)
    (h : execAbortStream st s = .next t) : s.lasting t :=
  s.act_lasting t _ (fun s => s.lasting_of_eq _ (by simp) (by simp)) h

theorem execStationIdle_lasting (st : Stn) (s t : State)
    (h : execStationIdle st s = .next t) : s.lasting t :=
  s.act_lasting t _ (fun s => s.lasting_of_eq _ (by simp) (by simp)) h

theorem execStationFrameDiscarded_lasting (st : Stn) (frame : List Byte) (s t : State)
    (h : execStationFrameDiscarded st frame s = .next t) : s.lasting t :=
  s.act_lasting t _ (fun s => s.lasting_refl) h

theorem execStationLinkLoss_lasting (st : Stn) (s t : State)
    (h : execStationLinkLoss st s = .next t) : s.lasting t := by
  refine s.act_lasting t _ (fun s => ?_) h
  split <;> exact s.lasting_of_eq _ (by simp) (by simp)

theorem execStationIdleSend_lasting (st : Stn) (s t : State)
    (h : execStationIdleSend st s = .next t) : s.lasting t := by
  refine s.act_lasting t _ (fun s => ?_) h
  split <;> exact s.lasting_of_eq _ (by simp) (by simp)

theorem execFrameSendEnd_lasting (st : Stn) (s t : State)
    (h : execFrameSendEnd st s = .next t) : s.lasting t := by
  refine s.act_lasting t _ (fun s => ?_) h
  split <;> exact s.lasting_of_eq _ (by simp) (by simp)

theorem execPageSendEnd_lasting (st : Stn) (s t : State)
    (h : execPageSendEnd st s = .next t) : s.lasting t := by
  refine s.act_lasting t _ (fun s => ?_) h
  split <;> exact s.lasting_of_eq _ (by simp) (by simp)

theorem execUnreadableRequest_lasting (st : Stn) (tag name : Nat) (s t : State)
    (h : execUnreadableRequest st tag name s = .next t) : s.lasting t :=
  s.request_lasting t st tag _ _ (fun s => s.lasting_refl) h

theorem execSaveConfig_lasting (st : Stn) (tag : Nat) (s t : State)
    (h : execSaveConfig st tag s = .next t) : s.lasting t := by
  refine s.leadRequest_lasting t st tag _ _ (fun s => ?_) h
  (repeat' split) <;> exact s.lasting_of_eq _ (by simp [State.startSave]) (by simp [State.startSave])

theorem execSaveCommandEnd_lasting (shown : Bool) (upset : List Host.Cell) (s t : State)
    (h : execSaveCommandEnd shown upset s = .next t) : s.lasting t :=
  s.act_lasting t _ (fun s => s.lasting_of_eq _ (by simp) (by simp)) h

theorem execEraseTimeout_lasting (s t : State)
    (h : execEraseTimeout s = .next t) : s.lasting t :=
  s.act_lasting t _ (fun s => s.lasting_of_eq _ (by simp) (by simp)) h

theorem execProgramTimeout_lasting (s t : State)
    (h : execProgramTimeout s = .next t) : s.lasting t :=
  s.act_lasting t _ (fun s => s.lasting_of_eq _ (by simp) (by simp)) h

theorem execCfgProtectRise_lasting (s t : State)
    (h : execCfgProtectRise s = .next t) : s.lasting t :=
  s.lasting_of_next t _ h rfl rfl

theorem execCfgProtectFall_lasting (s t : State)
    (h : execCfgProtectFall s = .next t) : s.lasting t :=
  s.lasting_of_next t _ h rfl rfl

theorem execSessionSecondTick_lasting (s t : State)
    (h : execSessionSecondTick s = .next t) : s.lasting t := by
  refine s.act_lasting t _ (fun s => ?_) h
  exact s.lasting_of_outline _
    (s.outline_modSession _ (fun _ => rfl) (fun _ => rfl) fun _ => rfl) rfl

theorem execDefineGeometry_lasting (st : Stn) (tag cls count length : Nat) (s t : State)
    (h : execDefineGeometry st tag cls count length s = .next t) : s.lasting t :=
  s.editRequest_lasting t st tag _ _ _ (fun s x => s.lasting_modPlan_unlocked _ x) h

theorem execSetLimits_lasting (st : Stn) (tag : Nat) (v : LimitArgs) (s t : State)
    (h : execSetLimits st tag v s = .next t) : s.lasting t :=
  s.editRequest_lasting t st tag _ _ _ (fun s x => s.lasting_modPlan_unlocked _ x) h

theorem execSetSecondOpinion_lasting (st : Stn) (tag : Nat) (mode : Mode) (s t : State)
    (h : execSetSecondOpinion st tag mode s = .next t) : s.lasting t :=
  s.editRequest_lasting t st tag _ _ _ (fun s x => s.lasting_modPlan_unlocked _ x) h

theorem execRequestRetest_lasting (st : Stn) (tag row col : Nat) (reset : Bool) (s t : State)
    (h : execRequestRetest st tag row col reset s = .next t) : s.lasting t :=
  s.leadRequest_lasting t st tag _ _ (fun s => s.withSession_lasting _ fun _ _ =>
    s.withTube_lasting _ _ fun e => s.leadRetest_lasting e reset) h

theorem execSubmitCall_lasting (st : Stn) (tag row col traverse : Nat) (call : SubmittedCall) (s t : State)
    (h : execSubmitCall st tag row col traverse call s = .next t) : s.lasting t := by
  refine s.request_lasting t st tag _ _ (fun s => ?_) h
  split
  · exact s.submitCall_lasting _ _ _ _
  · exact s.submitCall_lasting _ _ _ _
  all_goals exact s.lasting_refl

theorem execReadStatus_lasting (st : Stn) (tag : Nat) (s t : State)
    (h : execReadStatus st tag s = .next t) : s.lasting t :=
  s.request_lasting t st tag _ _ (fun s => s.lasting_of_eq _ (by simp) (by simp)) h

theorem execGetEvents_lasting (st : Stn) (tag count : Nat) (s t : State)
    (h : execGetEvents st tag count s = .next t) : s.lasting t := by
  refine s.request_lasting t st tag _ _ (fun s => ?_) h
  split <;> exact s.lasting_of_eq _ (by simp) (by simp)

theorem execReadPages_lasting (st : Stn) (tag traverse first count : Nat) (s t : State)
    (h : execReadPages st tag traverse first count s = .next t) : s.lasting t :=
  s.takeRequest_lasting t st tag _ _
    (fun s => s.runReadPages_lasting st tag traverse first count) h

theorem execReadTube_lasting (st : Stn) (tag row col : Nat) (s t : State)
    (h : execReadTube st tag row col s = .next t) : s.lasting t :=
  s.request_lasting t st tag _ _ (fun s => s.withSession_lasting _ fun _ _ =>
    s.withTube_lasting _ _ fun _ => s.lasting_refl) h

theorem execScanTubes_lasting (st : Stn) (tag row col : Nat) (states : List TubeState) (count : Nat) (s t : State)
    (h : execScanTubes st tag row col states count s = .next t) : s.lasting t := by
  refine s.request_lasting t st tag _ _ (fun s => s.withSession_lasting _ fun x _ => ?_) h
  split <;> exact s.lasting_refl

theorem execReadTraverse_lasting (st : Stn) (tag traverse : Nat) (s t : State)
    (h : execReadTraverse st tag traverse s = .next t) : s.lasting t := by
  refine s.request_lasting t st tag _ _ (fun s => s.withSession_lasting _ fun x _ => ?_) h
  split <;> exact s.lasting_refl

theorem execReadChannel_lasting (st : Stn) (tag ch : Nat) (s t : State)
    (h : execReadChannel st tag ch s = .next t) : s.lasting t := by
  refine s.request_lasting t st tag _ _ (fun s => ?_) h
  split <;> exact s.lasting_refl

theorem execReadCalLog_lasting (st : Stn) (tag first : Nat) (s t : State)
    (h : execReadCalLog st tag first s = .next t) : s.lasting t := by
  refine s.request_lasting t st tag _ _ (fun s => s.withSession_lasting _ fun x _ => ?_) h
  split <;> exact s.lasting_refl

theorem execReadBracket_lasting (st : Stn) (tag number : Nat) (s t : State)
    (h : execReadBracket st tag number s = .next t) : s.lasting t := by
  refine s.request_lasting t st tag _ _ (fun s => s.withSession_lasting _ fun x _ => ?_) h
  split <;> exact s.lasting_refl

theorem execReadConfig_lasting (st : Stn) (tag : Nat) (s t : State)
    (h : execReadConfig st tag s = .next t) : s.lasting t :=
  s.request_lasting t st tag _ _ (fun s => s.lasting_refl) h

/-! What lasts through every command. -/

/-- A verdict lets the session last and adds at most one entry at the end of the log. -/
theorem execCalibrationVerdict_log (ch : Chan) (s t : State)
    (h : execCalibrationVerdict ch s = .next t) :
    lasts s.session t.session ∧ (t.cal.log = s.cal.log ∨ ∃ e, t.cal.log = s.cal.log ++ [e]) := by
  unfold execCalibrationVerdict State.act at h
  split at h
  · cases h
    exact ⟨lasts_of_outline _ _ rfl, .inl rfl⟩
  · cases h
    dsimp only
    (repeat' split)
    · exact ⟨lasts_of_outline _ _ rfl, .inl rfl⟩
    · exact ⟨lasts_of_outline _ _ (by simp), .inl (by simp)⟩
    · exact ⟨lasts_of_outline _ _ (by simp), .inr ⟨_, s.log_acceptCalibration ch _ _⟩⟩
    · exact ⟨lasts_of_outline _ _ rfl, .inl rfl⟩

/-- Through every command but power-on reset, OPEN_SESSION, CLOSE_SESSION and a verdict the session lasts
and the log stays. -/
theorem exec_lasting (c : Instr) (s t : State) (h : exec c s = .next t) (hreset : c ≠ .powerOnReset)
    (hopen : ∀ st tag wall, c ≠ .openSession st tag wall)
    (hclose : ∀ st tag f, c ≠ .closeSession st tag f)
    (hverdict : ∀ ch, c ≠ .calibrationVerdict ch) : s.lasting t := by
  cases c with
  | powerOnReset => exact absurd rfl hreset
  | openSession st tag wall => exact absurd rfl (hopen st tag wall)
  | closeSession st tag force => exact absurd rfl (hclose st tag force)
  | calibrationVerdict ch => exact absurd rfl (hverdict ch)
  | resetRelease => exact execResetRelease_lasting s t h
  | startupReadEnd upset => exact execStartupReadEnd_lasting upset s t h
  | hello ch id => exact execHello_lasting ch id s t h
  | probeIdle ch => exact execProbeIdle_lasting ch s t h
  | probeFrameDiscarded ch frame => exact execProbeFrameDiscarded_lasting ch frame s t h
  | claim ch row col => exact execClaim_lasting ch row col s t h
  | releaseClaim ch => exact execReleaseClaim_lasting ch s t h
  | pullStart ch => exact execPullStart_lasting ch s t h
  | sample ch seq reading => exact execSample_lasting ch seq reading s t h
  | pause ch => exact execPause_lasting ch s t h
  | resume ch => exact execResume_lasting ch s t h
  | pullEnd ch => exact execPullEnd_lasting ch s t h
  | abandon ch reason => exact execAbandon_lasting ch reason s t h
  | calStart ch std => exact execCalStart_lasting ch std s t h
  | probeFailed ch => exact execProbeFailed_lasting ch s t h
  | probeLinkLoss ch => exact execProbeLinkLoss_lasting ch s t h
  | probeIdleSend ch => exact execProbeIdleSend_lasting ch s t h
  | claimExpiry ch => exact execClaimExpiry_lasting ch s t h
  | pauseExpiry ch => exact execPauseExpiry_lasting ch s t h
  | pageWriteEnd => exact execPageWriteEnd_lasting s t h
  | fetchEnd upset => exact execFetchEnd_lasting upset s t h
  | bracketAgeLimit ch => exact execBracketAgeLimit_lasting ch s t h
  | closedFailPresentation bracket => exact execClosedFailPresentation_lasting bracket s t h
  | closedGoodHandover bracket => exact execClosedGoodHandover_lasting bracket s t h
  | comparisonEnd row col => exact execComparisonEnd_lasting row col s t h
  | stationRequestFrame st tag req => exact execStationRequestFrame_lasting st tag req s t h
  | abortStream st => exact execAbortStream_lasting st s t h
  | stationIdle st => exact execStationIdle_lasting st s t h
  | stationFrameDiscarded st frame => exact execStationFrameDiscarded_lasting st frame s t h
  | stationLinkLoss st => exact execStationLinkLoss_lasting st s t h
  | stationIdleSend st => exact execStationIdleSend_lasting st s t h
  | frameSendEnd st => exact execFrameSendEnd_lasting st s t h
  | pageSendEnd st => exact execPageSendEnd_lasting st s t h
  | unreadableRequest st tag name => exact execUnreadableRequest_lasting st tag name s t h
  | saveConfig st tag => exact execSaveConfig_lasting st tag s t h
  | saveCommandEnd shown upset => exact execSaveCommandEnd_lasting shown upset s t h
  | eraseTimeout => exact execEraseTimeout_lasting s t h
  | programTimeout => exact execProgramTimeout_lasting s t h
  | cfgProtectRise => exact execCfgProtectRise_lasting s t h
  | cfgProtectFall => exact execCfgProtectFall_lasting s t h
  | sessionSecondTick => exact execSessionSecondTick_lasting s t h
  | defineGeometry st tag cls count length => exact execDefineGeometry_lasting st tag cls count length s t h
  | defineTubes st tag row col1 col2 cls cond => exact execDefineTubes_lasting st tag row col1 col2 cls cond s t h
  | removeTubes st tag row col1 col2 => exact execRemoveTubes_lasting st tag row col1 col2 s t h
  | setLimits st tag v => exact execSetLimits_lasting st tag v s t h
  | setSecondOpinion st tag mode => exact execSetSecondOpinion_lasting st tag mode s t h
  | lockPlan st tag => exact execLockPlan_lasting st tag s t h
  | setWindow st tag ch w => exact execSetWindow_lasting st tag ch w s t h
  | setExclusions st tag complement rects => exact execSetExclusions_lasting st tag complement rects s t h
  | defineStandard st tag id depths freq threshold => exact execDefineStandard_lasting st tag id depths freq threshold s t h
  | requestRetest st tag row col reset => exact execRequestRetest_lasting st tag row col reset s t h
  | confirmPlug st tag row col => exact execConfirmPlug_lasting st tag row col s t h
  | submitFinal st tag row col traverse call => exact execSubmitFinal_lasting st tag row col traverse call s t h
  | markArchived st tag traverse => exact execMarkArchived_lasting st tag traverse s t h
  | declareProbeFailed st tag ch => exact execDeclareProbeFailed_lasting st tag ch s t h
  | submitCall st tag row col traverse call => exact execSubmitCall_lasting st tag row col traverse call s t h
  | readStatus st tag => exact execReadStatus_lasting st tag s t h
  | getEvents st tag count => exact execGetEvents_lasting st tag count s t h
  | readPages st tag traverse first count => exact execReadPages_lasting st tag traverse first count s t h
  | readTube st tag row col => exact execReadTube_lasting st tag row col s t h
  | scanTubes st tag row col states count => exact execScanTubes_lasting st tag row col states count s t h
  | readTraverse st tag traverse => exact execReadTraverse_lasting st tag traverse s t h
  | readChannel st tag ch => exact execReadChannel_lasting st tag ch s t h
  | readCalLog st tag first => exact execReadCalLog_lasting st tag first s t h
  | readBracket st tag number => exact execReadBracket_lasting st tag number s t h
  | readConfig st tag => exact execReadConfig_lasting st tag s t h

/-- Settles O7: a verdict by its own lemma, and every other command by what lasts through it. -/
theorem sessionLockAndLogLast : Obligations.SessionLockAndLogLast := by
  have sessions : ∀ (c : Instr) (s t : State), exec c s = .next t → c ≠ .powerOnReset →
      (∀ st tag wall, c ≠ .openSession st tag wall) → (∀ st tag f, c ≠ .closeSession st tag f) →
      lasts s.session t.session
        ∧ (t.cal.log = s.cal.log ∨ ∃ e, t.cal.log = s.cal.log ++ [e] ∧ ∃ ch, c = .calibrationVerdict ch) := by
    intro c s t h hreset hopen hclose
    by_cases verdict : ∃ ch, c = .calibrationVerdict ch
    · obtain ⟨ch, rfl⟩ := verdict
      obtain ⟨session, same | ⟨e, added⟩⟩ := execCalibrationVerdict_log ch s t h
      · exact ⟨session, .inl same⟩
      · exact ⟨session, .inr ⟨e, added, ch, rfl⟩⟩
    · obtain ⟨session, same⟩ := exec_lasting c s t h hreset hopen hclose fun ch hc => verdict ⟨ch, hc⟩
      exact ⟨session, .inl same⟩
  exact ⟨fun c s t h hreset hopen hclose => (sessions c s t h hreset hopen hclose).1,
    fun c s t h hreset hopen hclose => (sessions c s t h hreset hopen hclose).2⟩

end Sys2Proof.Machine
end

section
namespace Sys2Proof.Machine

/-! The tube table in its order (R20; section 3.4 of 00_scope.md). -/

theorem Pos.before_trans (p q r : Pos) (h : p.before q = true) (k : q.before r = true) :
    p.before r = true := by
  simp only [Pos.before, decide_eq_true_eq] at *
  omega

/-- Of two different positions one comes before the other. -/
theorem Pos.before_of_not_before (p q : Pos) (h : q.before p = false) (hne : q ≠ p) :
    p.before q = true := by
  have parts : ¬(q.row = p.row ∧ q.col = p.col) := fun ⟨hr, hc⟩ => hne (by
    cases q
    cases p
    exact congrArg₂ Pos.mk hr hc)
  simp only [Pos.before, decide_eq_true_eq, decide_eq_false_iff_not] at *
  omega

/-- A run is made in table order. -/
theorem runOf_sorted (row col1 col2 : Nat) :
    (runOf row col1 col2).Pairwise fun p q => p.before q = true := by
  refine List.pairwise_map.2 ((List.pairwise_lt_range' ..).imp fun h => ?_)
  simpa [Pos.before] using h

/-- In a table in order the entries from a position on are those that do not come before it. -/
theorem dropWhile_before_eq_filter (p : Pos) (tubes : List TubeEntry)
    (sorted : tubes.Pairwise fun a b => a.pos.before b.pos = true) :
    tubes.dropWhile (fun e => e.pos.before p) = tubes.filter fun e => !e.pos.before p := by
  induction tubes with
  | nil => rfl
  | cons e rest ih =>
    obtain ⟨first, restSorted⟩ := List.pairwise_cons.1 sorted
    by_cases h : e.pos.before p = true
    · simp [h, ih restSorted]
    · have later : rest.filter (fun e => !e.pos.before p) = rest := by
        refine List.filter_eq_self.2 fun b hb => ?_
        simp only [Bool.not_eq_true'] at h ⊢
        exact eq_false_of_ne_true fun hbp => by
          simp [Pos.before_trans _ _ _ (first b hb) hbp] at h
      simp [h, later]

/-- Two tables in order with no position in common are merged into one in order. -/
theorem mergeTubes_sorted (xs ys : List TubeEntry)
    (hx : xs.Pairwise fun a b => a.pos.before b.pos = true)
    (hy : ys.Pairwise fun a b => a.pos.before b.pos = true)
    (apart : ∀ a ∈ xs, ∀ b ∈ ys, b.pos ≠ a.pos) :
    (mergeTubes xs ys).Pairwise fun a b => a.pos.before b.pos = true := by
  induction xs generalizing ys with
  | nil => exact hy
  | cons x xs ih =>
    obtain ⟨first, restSorted⟩ := List.pairwise_cons.1 hx
    have low : ∀ b ∈ ys.takeWhile (fun y => y.pos.before x.pos), b.pos.before x.pos = true :=
      fun b hb => List.mem_takeWhile_imp (p := fun y : TubeEntry => y.pos.before x.pos) hb
    have high : ∀ b ∈ ys.dropWhile (fun y => y.pos.before x.pos), b ∈ ys ∧ x.pos.before b.pos = true := by
      intro b hb
      rw [dropWhile_before_eq_filter x.pos ys hy] at hb
      obtain ⟨mem, after⟩ := List.mem_filter.1 hb
      exact ⟨mem, Pos.before_of_not_before _ _ (by simpa using after)
        (apart x List.mem_cons_self b mem)⟩
    have merged := ih _ restSorted (hy.sublist (List.dropWhile_sublist _)) fun a ha b hb =>
      apart a (List.mem_cons_of_mem x ha) b (high b hb).1
    have behind : ∀ b ∈ mergeTubes xs (ys.dropWhile fun y => y.pos.before x.pos),
        x.pos.before b.pos = true := by
      intro b hb
      rcases List.mem_append.1 ((mergeTubes_perm _ _).mem_iff.1 hb) with h | h
      · exact first b h
      · exact (high b h).2
    refine List.pairwise_append.2 ⟨hy.sublist (List.takeWhile_sublist _),
      List.pairwise_cons.2 ⟨behind, merged⟩, fun a ha b hb => ?_⟩
    rcases List.mem_cons.1 hb with rfl | h
    · exact low a ha
    · exact Pos.before_trans _ _ _ (low a ha) (behind b h)

/-! The counters follow the table (R20). -/

/-- A table in order whose counters follow it. -/
def Session.tabled (x : Session) : Prop :=
  x.tubes.Pairwise (fun a b => a.pos.before b.pos = true)
    ∧ ∀ t, x.counts.get t = tubesIn x.tubes t

/-- The tube law, of the session that a state holds. -/
def tabled (a : Option Session) : Prop := ∀ x, a = some x → x.tabled

theorem State.tubeLaw_iff (s : State) : s.tubeLaw ↔ tabled s.session := Iff.rfl

@[simp] theorem tabled_none : tabled none := fun _ h => nomatch h

@[simp] theorem tabled_some (x : Session) : tabled (some x) ↔ x.tabled :=
  ⟨fun h => h x rfl, fun h _ e => Option.some.inj e ▸ h⟩

/-- The entries of a table, each counted in its state, are all its entries. -/
theorem tubesIn_sum (tubes : List TubeEntry) :
    tubesIn tubes .pending + tubesIn tubes .claimed + tubesIn tubes .acquired
      + tubesIn tubes .resolution + tubesIn tubes .final + tubesIn tubes .plugRecommended
      + tubesIn tubes .retest + tubesIn tubes .restricted + tubesIn tubes .plugged
    = tubes.length := by
  induction tubes with
  | nil => rfl
  | cons e rest ih =>
    have head : ∀ u, tubesIn (e :: rest) u = tubesIn rest u + if e.state = u then 1 else 0 := by
      intro u
      by_cases h : e.state = u <;> simp [tubesIn, h]
    simp only [head, List.length_cons, ← ih]
    cases e.state <;> simp <;> omega

/-- A counter after one entry has moved. -/
theorem TubeCounts.get_move (c : TubeCounts) (old new u : TubeState) (h : 1 ≤ c.get old) :
    (c.move old new).get u + (if u = old then 1 else 0) = c.get u + if u = new then 1 else 0 := by
  unfold TubeCounts.move
  by_cases same : old = new
  · simp [same]
  · rw [if_neg same, TubeCounts.get_add, TubeCounts.sub, TubeCounts.get_set]
    by_cases hu : u = old
    · subst hu
      simp [same]
      omega
    · simp [hu]

/-- Entries that keep their states are counted as before. -/
theorem tubesIn_map (tubes : List TubeEntry) (f : TubeEntry → TubeEntry) (u : TubeState)
    (h : ∀ t ∈ tubes, (f t).state = t.state) : tubesIn (tubes.map f) u = tubesIn tubes u := by
  unfold tubesIn
  rw [List.filter_map, List.length_map]
  exact congrArg List.length (List.filter_congr fun t ht => by simp [h t ht])

/-- The entry of one position moved to a state leaves its old count for the new one. -/
theorem tubesIn_move (tubes : List TubeEntry) (p : Pos) (f : TubeEntry → TubeEntry) (e : TubeEntry)
    (new u : TubeState) (nodup : (tubes.map (·.pos)).Nodup)
    (he : tubes.find? (fun t => t.pos == p) = some e) (hf : ∀ t, (f t).state = new) :
    tubesIn (tubes.map fun t => if t.pos = p then f t else t) u + (if u = e.state then 1 else 0)
      = tubesIn tubes u + if u = new then 1 else 0 := by
  have head : ∀ (a : TubeEntry) l, tubesIn (a :: l) u = tubesIn l u + if u = a.state then 1 else 0 := by
    intro a l
    by_cases h : u = a.state
    · simp [tubesIn, h]
    · simp [tubesIn, h, Ne.symm h]
  induction tubes with
  | nil => cases he
  | cons a rest ih =>
    obtain ⟨fresh, restNodup⟩ := List.nodup_cons.1 nodup
    rw [List.map_cons, head, head]
    by_cases h : a.pos = p
    · have same : e = a := by simpa [h, eq_comm] using he
      have others : tubesIn (rest.map fun t => if t.pos = p then f t else t) u = tubesIn rest u :=
        tubesIn_map _ _ _ fun t ht => by
          rw [if_neg fun hp => fresh (List.mem_map.2 ⟨t, ht, hp.trans h.symm⟩)]
      rw [others, if_pos h, hf, same]
      omega
    · have := ih restNodup (by simpa [h] using he)
      rw [if_neg h]
      omega

/-- An entry changed in its place that keeps its position keeps the table in order. -/
theorem sorted_map (tubes : List TubeEntry) (f : TubeEntry → TubeEntry)
    (hf : ∀ t, (f t).pos = t.pos) (h : tubes.Pairwise fun a b => a.pos.before b.pos = true) :
    (tubes.map f).Pairwise fun a b => a.pos.before b.pos = true :=
  List.pairwise_map.2 (h.imp fun {a b} hab => by rwa [hf, hf])

/-- A table found to hold an entry counts it in its state. -/
theorem Session.tabled_counted (x : Session) (p : Pos) (e : TubeEntry) (h : x.tabled)
    (he : x.tubes.find? (fun t => t.pos == p) = some e) : 1 ≤ x.counts.get e.state := by
  rw [h.2]
  exact List.length_pos_of_mem (List.mem_filter.2 ⟨List.mem_of_find?_eq_some he, by simp⟩)

/-- The one move of a tube (R20): the table stays in order and the counters follow. -/
theorem Session.tabled_updTube (x : Session) (p : Pos) (f : TubeEntry → TubeEntry) (e : TubeEntry)
    (new : TubeState) (h : x.tabled) (he : x.tubes.find? (fun t => t.pos == p) = some e)
    (hpos : ∀ t, (f t).pos = t.pos) (hf : ∀ t, (f t).state = new) :
    (x.updTube p f (x.counts.move e.state new)).tabled := by
  refine ⟨sorted_map _ _ (fun t => ?_) h.1, fun u => ?_⟩
  · split
    · exact hpos t
    · rfl
  · have counted := TubeCounts.get_move x.counts e.state new u (x.tabled_counted p e h he)
    have moved := tubesIn_move x.tubes p f e new u (nodup_pos _ h.1) he hf
    have before := h.2 u
    simp only [Session.updTube]
    omega

/-- DEFINE_TUBES keeps the table in order and its counters exact (R6). -/
theorem defineRun_tabled (x : Session) (row col1 col2 cls : Nat) (cond : Condition) (h : x.tabled) :
    (defineRun x row col1 col2 cls cond).tabled := by
  refine ⟨mergeTubes_sorted _ _ (h.1.filter _) ?_ ?_, counts_defineRun x row col1 col2 cls cond h.2⟩
  · exact List.pairwise_map.2 ((runOf_sorted row col1 col2).imp fun {p q} hpq => hpq)
  · intro a ha b hb same
    obtain ⟨q, hq, rfl⟩ := List.mem_map.1 hb
    have inside := (inRun_iff row col1 col2 q).2 ((mem_runOf ..).1 hq)
    have outside := (List.mem_filter.1 ha).2
    rw [← same] at outside
    simp [newTube, inside] at outside

end Sys2Proof.Machine
end

section
namespace Sys2Proof.Machine

/-! The operations of the tubes and the pulls keep the tube law. -/

/-- The open session changed as `f` gives. -/
theorem State.tabled_modSession (s : State) (f : Session → Session) (h : tabled s.session)
    (hf : ∀ x, s.session = some x → x.tabled → (f x).tabled) : tabled (s.modSession f).session := by
  rw [State.session_modSession]
  cases hx : s.session with
  | none => exact tabled_none
  | some x => exact (tabled_some _).2 (hf x hx (h x hx))

/-- A session with the same table and the same counters. -/
theorem Session.tabled_congr (x y : Session) (h : x.tabled) (ht : y.tubes = x.tubes)
    (hc : y.counts = x.counts) : y.tabled := by
  unfold Session.tabled
  rw [ht, hc]
  exact h

/-- An entry changed in its place that keeps its position and its state. -/
@[simp] theorem State.tabled_modTube (s : State) (p : Pos) (f : TubeEntry → TubeEntry)
    (h : tabled s.session) (hpos : ∀ t, (f t).pos = t.pos) (hstate : ∀ t, (f t).state = t.state) :
    tabled (s.modTube p f).session := by
  refine s.tabled_modSession _ h fun x _ ⟨sorted, counted⟩ => ⟨sorted_map _ _ (fun t => ?_) sorted,
    fun u => (counted u).trans (tubesIn_map _ _ _ fun t _ => ?_).symm⟩
  · split
    · exact hpos t
    · rfl
  · split
    · exact hstate t
    · rfl

@[simp] theorem State.tabled_moveTube (s : State) (p : Pos) (new : TubeState)
    (f : TubeEntry → TubeEntry) (h : tabled s.session) : tabled (s.moveTube p new f).session := by
  cases he : s.tube? p with
  | none => simpa [State.moveTube, he] using h
  | some e =>
    cases hx : s.session with
    | none => simp [State.tube?, State.tubes, hx] at he
    | some x =>
      have found : x.tubes.find? (fun t => t.pos == p) = some e := by
        simpa [State.tube?, State.tubes, hx] using he
      rw [s.moveTube_eq p new f x e hx he]
      exact (tabled_some _).2 (x.tabled_updTube p _ e new (h x hx) found (fun _ => rfl) fun _ => rfl)

@[simp] theorem State.tabled_endClaim (s : State) (ch : Chan) (restriction : Bool)
    (h : tabled s.session) : tabled (s.endClaim ch restriction).session := by
  unfold State.endClaim
  split <;> simp [h]

@[simp] theorem State.tabled_grantClaim (s : State) (ch : Chan) (p : Pos) (h : tabled s.session) :
    tabled (s.grantClaim ch p).session := by
  simp [State.grantClaim, h]

@[simp] theorem State.tabled_abortTube (s : State) (p : Pos) (restriction : Bool)
    (h : tabled s.session) : tabled (s.abortTube p restriction).session := by
  unfold State.abortTube
  split <;> simp [h]

@[simp] theorem State.tabled_retestTube (s : State) (p : Pos) (cause : RetestCause) (reset : Bool)
    (traverse : Option Nat) (h : tabled s.session) :
    tabled (s.retestTube p cause reset traverse).session := by
  unfold State.retestTube
  cases traverse <;> simp [h]

@[simp] theorem State.tabled_decideTube (s : State) (p : Pos) (call : Call) (h : tabled s.session) :
    tabled (s.decideTube p call).session := by
  simp [State.decideTube, h]

@[simp] theorem State.tabled_applyOutcome (s : State) (c : Comparison) (h : tabled s.session) :
    tabled (s.applyOutcome c).session := by
  unfold State.applyOutcome
  (repeat' split) <;> simp [h]

@[simp] theorem State.tabled_createTraverse (s : State) (t : Traverse) (h : tabled s.session) :
    tabled (s.createTraverse t).session :=
  State.tabled_modSession _ _ h fun x _ hx => x.tabled_congr _ hx rfl rfl

@[simp] theorem State.tabled_beginPull (s : State) (ch : Chan) (p : Pos) (h : tabled s.session) :
    tabled (s.beginPull ch p).session := by
  simp only [State.beginPull, State.session_refreshPermit, State.session_joinBracket,
    State.session_sendProbe, State.session_setChan, State.session_modChan, State.session_setUpPull]
  exact State.tabled_modTube _ _ _ (by simp [h]) (fun _ => rfl) fun _ => rfl

@[simp] theorem State.tabled_beginCalibration (s : State) (ch : Chan) (id : Nat) (std : Standard)
    (h : tabled s.session) : tabled (s.beginCalibration ch id std).session := by
  simp [State.beginCalibration, h]

@[simp] theorem State.tabled_acquireTube (s : State) (p : Pos) (id : Nat) (ch : Chan)
    (h : tabled s.session) : tabled (s.acquireTube p id ch).session := by
  simp [State.acquireTube, h]

@[simp] theorem State.tabled_completeTraverse (s : State) (t : Traverse) (h : tabled s.session) :
    tabled (s.completeTraverse t).session := by
  unfold State.completeTraverse
  extract_lets ch
  cases (s.chan ch).screen.boundTo t.id with
  | none => exact h
  | some u => cases t.target <;> simp [h]

@[simp] theorem State.tabled_tryComplete (s : State) (id : Nat) (h : tabled s.session) :
    tabled (s.tryComplete id).session := by
  unfold State.tryComplete
  (repeat' split) <;> simp [h]

@[simp] theorem State.tabled_finishPull (s : State) (ch : Chan) (id : Nat) (new : ChanState)
    (h : tabled s.session) : tabled (s.finishPull ch id new).session := by
  simp [State.finishPull, h]

@[simp] theorem State.tabled_abortPull (s : State) (ch : Chan) (restriction report : Bool)
    (h : tabled s.session) : tabled (s.abortPull ch restriction report).session := by
  unfold State.abortPull
  split <;> simp [h]

@[simp] theorem State.tabled_abortAndRest (s : State) (ch : Chan) (restriction : Bool)
    (h : tabled s.session) : tabled (s.abortAndRest ch restriction).session := by
  simp [State.abortAndRest, h]

@[simp] theorem State.tabled_endClaimAndRest (s : State) (ch : Chan) (restriction : Bool)
    (h : tabled s.session) : tabled (s.endClaimAndRest ch restriction).session := by
  simp [State.endClaimAndRest, h]

@[simp] theorem State.tabled_loseLink (s : State) (ch : Chan) (h : tabled s.session) :
    tabled (s.loseLink ch).session := by
  unfold State.loseLink State.loseWork
  cases (s.chan ch).state <;> simp [h]

@[simp] theorem State.tabled_failWork (s : State) (ch : Chan) (h : tabled s.session) :
    tabled (s.failWork ch).session := by
  unfold State.failWork
  (repeat' split) <;> simp [h]

@[simp] theorem State.tabled_failProbe (s : State) (ch : Chan) (h : tabled s.session) :
    tabled (s.failProbe ch).session := by
  unfold State.failProbe
  extract_lets s1
  split <;> simp [s1, h]

@[simp] theorem State.tabled_presentFail (s : State) (n id : Nat) (h : tabled s.session) :
    tabled (s.presentFail n id).session := by
  unfold State.presentFail
  (repeat' split) <;> simp [h]

@[simp] theorem State.tabled_sweepStep (s : State) (n : Nat) (verdict : BracketState)
    (present : State → Nat → State)
    (hp : ∀ (u : State) (id : Nat), tabled u.session → tabled (present u id).session)
    (h : tabled s.session) : tabled (s.sweepStep n verdict present).session := by
  unfold State.sweepStep
  (repeat' split) <;> simp [hp, h]

@[simp] theorem State.tabled_writeEnded (s : State) (ch : Chan) (i : BufId) (traverse : Option Nat)
    (page : Nat) (bytes : List Byte) (h : tabled s.session) :
    tabled (s.writeEnded ch i traverse page bytes).session := by
  unfold State.writeEnded
  cases traverse <;> simp [h]

@[simp] theorem State.tabled_modPlan (s : State) (f : Plan → Plan) (h : tabled s.session) :
    tabled (s.modPlan f).session :=
  s.tabled_modSession _ h fun x _ hx => x.tabled_congr _ hx rfl rfl

end Sys2Proof.Machine
end

section
namespace Sys2Proof.Machine

/-! A law of the part through what carries a command to its meaning: an arrival, a probe frame, a request
and its checks. `P` is the law; the links of the stations have no part in it. -/

variable (P : State → Prop)

/-- A law that an act keeps is kept by the arrival that it is. -/
theorem State.act_keeps (s t : State) (f : State → State) (hf : ∀ u, P u → P (f u))
    (h : s.act f = .next t) (hs : P s) : P t := by
  unfold State.act at h
  split at h <;> cases h
  · exact hs
  · exact hf s hs

/-- A law that the hearing of a frame and the act in answer keep is kept by a probe frame. -/
theorem State.probeFrame_keeps (s t : State) (ch : Chan) (f : State → State)
    (heard : ∀ u, P u → P (u.modChan ch fun c => { c with silenceMs := 0 }))
    (hf : ∀ u, P u → P (f u)) (h : s.probeFrame ch f = .next t) (hs : P s) : P t := by
  refine State.act_keeps P s t _ (fun u hu => ?_) h hs
  split
  · exact hu
  · exact hf _ (heard u hu)

/-- A law that the execution of a request keeps is kept by its arrival and its beginning. -/
theorem State.takeRequest_keeps (s t : State) (st : Stn) (tag : Nat) (req : Request)
    (run : State → State) (links : ∀ u f, P u → P (u.modStn st f)) (hr : ∀ u, P u → P (run u))
    (h : s.takeRequest st tag req run = .next t) (hs : P s) : P t := by
  have arrived : ∀ u : State, P u →
      P (if u.begins st ⟨tag, req⟩ then run (u.modStn st fun x => { x with inHand := true }) else u) := by
    intro u hu
    split
    · exact hr _ (links _ _ hu)
    · exact hu
  refine State.act_keeps P s t _ (fun u hu => arrived _ ?_) h hs
  split
  · exact hu
  · exact links _ _ (links _ _ hu)

/-- A law that the body of a request keeps is kept by the request. -/
theorem State.request_keeps (s t : State) (st : Stn) (tag : Nat) (req : Request)
    (body : State → State × Reply) (links : ∀ u f, P u → P (u.modStn st f))
    (hb : ∀ u, P u → P (body u).1) (h : s.request st tag req body = .next t) (hs : P s) : P t :=
  State.takeRequest_keeps P s t st tag req _ links (fun u hu => links _ _ (hb u hu)) h hs

/-- A law that the body of a lead request keeps is kept by the request. -/
theorem State.leadRequest_keeps (s t : State) (st : Stn) (tag : Nat) (req : Request)
    (body : State → State × Reply) (links : ∀ u f, P u → P (u.modStn st f))
    (hb : ∀ u, P u → P (body u).1) (h : s.leadRequest st tag req body = .next t) (hs : P s) : P t := by
  refine State.request_keeps P s t st tag req _ links (fun u hu => ?_) h hs
  unfold State.forLead State.forRole
  split
  · exact hb u hu
  · exact hu

/-- The check for a session keeps every law. -/
theorem State.withSession_keeps (s : State) (body : Session → State × Reply)
    (hb : ∀ x, s.session = some x → P s → P (body x).1) (hs : P s) : P (s.withSession body).1 := by
  unfold State.withSession
  cases hx : s.session with
  | none => exact hs
  | some x => exact hb x hx hs

/-- The check for a position keeps every law. -/
theorem State.withTube_keeps (s : State) (p : Pos) (body : TubeEntry → State × Reply)
    (hb : ∀ e, P s → P (body e).1) (hs : P s) : P (s.withTube p body).1 := by
  unfold State.withTube
  cases s.tube? p with
  | none => exact hs
  | some e => exact hb e hs

/-- A law that the body of an edit keeps is kept by the edit. -/
theorem State.editRequest_keeps (s t : State) (st : Stn) (tag : Nat) (req : Request) (good : Bool)
    (body : State → Session → State × Reply) (links : ∀ u f, P u → P (u.modStn st f))
    (hb : ∀ u x, u.session = some x → P u → P (body u x).1)
    (h : s.editRequest st tag req good body = .next t) (hs : P s) : P t := by
  refine State.leadRequest_keeps P s t st tag req _ links
    (fun u hu => State.withSession_keeps P u _ (fun x hx hu => ?_) hu) h hs
  split
  · exact hu
  · split
    · exact hb u x hx hu
    · exact hu

end Sys2Proof.Machine
end

section
namespace Sys2Proof.Machine

/-! The tube law through each command. -/

theorem execRequestRetest_tabled (st : Stn) (tag row col : Nat) (reset : Bool) (s t : State)
    (h : execRequestRetest st tag row col reset s = .next t) (hs : s.tubeLaw) : t.tubeLaw := by
  refine State.leadRequest_keeps State.tubeLaw s t st tag _ _ (fun _ _ h => h) (fun u hu =>
    State.withSession_keeps _ u _ (fun _ _ hu => State.withTube_keeps _ u _ _ (fun e hu => ?_) hu) hu) h hs
  rw [State.tubeLaw_iff] at hu ⊢
  unfold State.leadRetest
  (repeat' split) <;> simp [hu]

theorem execConfirmPlug_tabled (st : Stn) (tag row col : Nat) (s t : State)
    (h : execConfirmPlug st tag row col s = .next t) (hs : s.tubeLaw) : t.tubeLaw := by
  refine State.leadRequest_keeps State.tubeLaw s t st tag _ _ (fun _ _ h => h) (fun u hu =>
    State.withSession_keeps _ u _ (fun _ _ hu => State.withTube_keeps _ u _ _ (fun e hu => ?_) hu) hu) h hs
  rw [State.tubeLaw_iff] at hu ⊢
  split
  · cases e.traverse <;> simp [hu]
  · exact hu

theorem execSubmitFinal_tabled (st : Stn) (tag row col traverse : Nat) (call : SubmittedCall)
    (s t : State) (h : execSubmitFinal st tag row col traverse call s = .next t) (hs : s.tubeLaw) :
    t.tubeLaw := by
  refine State.leadRequest_keeps State.tubeLaw s t st tag _ _ (fun _ _ h => h) (fun u hu =>
    State.withSession_keeps _ u _ (fun _ _ hu => ?_) hu) h hs
  split
  · exact hu
  · refine State.withTube_keeps _ u _ _ (fun e hu => ?_) hu
    rw [State.tubeLaw_iff] at hu ⊢
    (repeat' split) <;> simp [hu]

/-- An accepted call is stored in the entry of its tube. -/
theorem State.submitCall_tabled (s : State) (role : Role) (p : Pos) (traverse : Nat)
    (call : SubmittedCall) (hs : s.tubeLaw) : (s.submitCall role p traverse call).1.tubeLaw := by
  have compared : ∀ (u : State) (q : Pos), (u.startComparison q).1.session = u.session := by
    intro u q
    unfold State.startComparison
    (repeat' split) <;> simp
  have kept : ∀ (f : TubeEntry) c, (f.withCall role c).pos = f.pos ∧ (f.withCall role c).state = f.state := by
    intro f c
    cases role <;> exact ⟨rfl, rfl⟩
  have stored : ∀ (e : TubeEntry) (c : Call), tabled (s.acceptSubmit role e c).1.session := by
    intro e c
    have := s.tabled_modTube e.pos (·.withCall role c) hs (fun t => (kept t c).1) fun t => (kept t c).2
    simpa [State.acceptSubmit, compared] using this
  unfold State.submitCall
  refine State.withSession_keeps State.tubeLaw s _ (fun _ _ hs => ?_) hs
  split
  · exact hs
  · split
    · exact hs
    · refine State.withTube_keeps State.tubeLaw s _ _ (fun e hs => ?_) hs
      split
      · exact hs
      · split
        · exact hs
        · exact stored _ _

theorem execSubmitCall_tabled (st : Stn) (tag row col traverse : Nat) (call : SubmittedCall)
    (s t : State) (h : execSubmitCall st tag row col traverse call s = .next t) (hs : s.tubeLaw) :
    t.tubeLaw := by
  refine State.request_keeps State.tubeLaw s t st tag _ _ (fun _ _ h => h) (fun u hu => ?_) h hs
  split
  · exact u.submitCall_tabled _ _ _ _ hu
  · exact u.submitCall_tabled _ _ _ _ hu
  all_goals exact hu

/-- A session opens with an empty table (R1). -/
theorem execOpenSession_tabled (st : Stn) (tag wall : Nat) (s t : State)
    (h : execOpenSession st tag wall s = .next t) (hs : s.tubeLaw) : t.tubeLaw := by
  refine State.leadRequest_keeps State.tubeLaw s t st tag _ _ (fun _ _ h => h) (fun u hu => ?_) h hs
  split
  · exact hu
  · have fresh : ∀ limits, (newSession wall limits).tabled := fun limits =>
      ⟨List.Pairwise.nil, fun t => by cases t <;> rfl⟩
    simp [State.tubeLaw_iff, State.openSession, State.refreshPermits, fresh]

/-- A session closes with its table (R195). -/
theorem execCloseSession_tabled (st : Stn) (tag : Nat) (force : Bool) (s t : State)
    (h : execCloseSession st tag force s = .next t) (hs : s.tubeLaw) : t.tubeLaw := by
  refine State.leadRequest_keeps State.tubeLaw s t st tag _ _ (fun _ _ h => h) (fun u hu =>
    State.withSession_keeps _ u _ (fun x _ hu => ?_) hu) h hs
  split
  · exact hu
  · simp [State.tubeLaw_iff, State.closeSession_eq]

theorem execDefineTubes_tabled (st : Stn) (tag row col1 col2 cls : Nat) (cond : Condition)
    (s t : State) (h : execDefineTubes st tag row col1 col2 cls cond s = .next t) (hs : s.tubeLaw) :
    t.tubeLaw := by
  refine State.editRequest_keeps State.tubeLaw s t st tag _ _ _ (fun _ _ h => h) (fun u x _ hu => ?_) h hs
  dsimp only
  split
  · exact hu
  · exact u.tabled_modSession _ hu fun y _ hy => defineRun_tabled y row col1 col2 cls cond hy

theorem execRemoveTubes_tabled (st : Stn) (tag row col1 col2 : Nat) (s t : State)
    (h : execRemoveTubes st tag row col1 col2 s = .next t) (hs : s.tubeLaw) : t.tubeLaw := by
  refine State.editRequest_keeps State.tubeLaw s t st tag _ _ _ (fun _ _ h => h) (fun u x hx hu => ?_) h hs
  refine u.tabled_modSession _ hu fun y hy ⟨sorted, counted⟩ => ?_
  rw [hx] at hy
  cases hy
  exact ⟨sorted.filter _, TubeCounts.get_drop_filter _ _ _ counted⟩

theorem execHello_tabled (ch : Chan) (id : Identity) (s t : State)
    (h : execHello ch id s = .next t) (hs : s.tubeLaw) : t.tubeLaw := by
  refine State.act_keeps State.tubeLaw s t _ (fun u hu => ?_) h hs
  rw [State.tubeLaw_iff] at hu ⊢
  split <;> simp [hu]

theorem execPageWriteEnd_tabled (s t : State) (h : execPageWriteEnd s = .next t) (hs : s.tubeLaw) :
    t.tubeLaw := by
  rw [State.tubeLaw_iff] at hs ⊢
  unfold execPageWriteEnd at h
  (repeat' split at h) <;> cases h <;> simp [hs]

theorem execFetchEnd_tabled (upset : List Host.Cell) (s t : State)
    (h : execFetchEnd upset s = .next t) (hs : s.tubeLaw) : t.tubeLaw := by
  rw [State.tubeLaw_iff] at hs ⊢
  unfold execFetchEnd at h
  (repeat' split at h) <;> cases h <;> simp [hs]

theorem execResetRelease_tabled (s t : State) (h : execResetRelease s = .next t) (hs : s.tubeLaw) :
    t.tubeLaw := by
  unfold execResetRelease at h
  split at h <;> cases h <;> exact hs

theorem execStartupReadEnd_tabled (upset : List Host.Cell) (s t : State)
    (h : execStartupReadEnd upset s = .next t) (hs : s.tubeLaw) : t.tubeLaw := by
  rw [State.tubeLaw_iff] at hs ⊢
  unfold execStartupReadEnd at h
  split at h <;> cases h <;> simp [hs]

theorem execCalibrationVerdict_tabled (ch : Chan) (s t : State)
    (h : execCalibrationVerdict ch s = .next t) (hs : s.tubeLaw) : t.tubeLaw := by
  refine State.act_keeps State.tubeLaw s t _ (fun u hu => ?_) h hs
  rw [State.tubeLaw_iff] at hu ⊢
  (repeat' split) <;> simp [hu]

end Sys2Proof.Machine
end

section
namespace Sys2Proof.Machine

/-- Every arrival that its meaning takes by `act`. -/
theorem State.act_tabled (s t : State) (f : State → State)
    (hf : ∀ u : State, tabled u.session → tabled (f u).session) (h : s.act f = .next t)
    (hs : s.tubeLaw) : t.tubeLaw :=
  State.act_keeps State.tubeLaw s t f hf h hs

/-- Every frame of a probe unit. -/
theorem State.probeFrame_tabled (s t : State) (ch : Chan) (f : State → State)
    (hf : ∀ u : State, tabled u.session → tabled (f u).session) (h : s.probeFrame ch f = .next t)
    (hs : s.tubeLaw) : t.tubeLaw :=
  State.probeFrame_keeps State.tubeLaw s t ch f (fun _ h => h) hf h hs

/-- Every request whose body leaves the session. -/
theorem State.request_tabled (s t : State) (st : Stn) (tag : Nat) (req : Request)
    (body : State → State × Reply) (hb : ∀ u : State, (body u).1.session = u.session)
    (h : s.request st tag req body = .next t) (hs : s.tubeLaw) : t.tubeLaw := by
  refine State.request_keeps State.tubeLaw s t st tag req body (fun _ _ h => h) (fun u hu => ?_) h hs
  rw [State.tubeLaw_iff, hb u]
  exact hu

/-- Every lead request whose body leaves the session. -/
theorem State.leadRequest_tabled (s t : State) (st : Stn) (tag : Nat) (req : Request)
    (body : State → State × Reply) (hb : ∀ u : State, tabled u.session → tabled (body u).1.session)
    (h : s.leadRequest st tag req body = .next t) (hs : s.tubeLaw) : t.tubeLaw :=
  State.leadRequest_keeps State.tubeLaw s t st tag req body (fun _ _ h => h) hb h hs

/-- Every edit whose body leaves the table. -/
theorem State.editRequest_tabled (s t : State) (st : Stn) (tag : Nat) (req : Request) (good : Bool)
    (body : State → Session → State × Reply)
    (hb : ∀ (u : State) x, tabled u.session → tabled (body u x).1.session)
    (h : s.editRequest st tag req good body = .next t) (hs : s.tubeLaw) : t.tubeLaw :=
  State.editRequest_keeps State.tubeLaw s t st tag req good body (fun _ _ h => h)
    (fun u x _ hu => hb u x hu) h hs

/-- Every command keeps the tube law: those of the probe units and of the timers by the operations that
they call, the requests of the lead by their own lemmas, and the requests that read by leaving the
session. -/
theorem exec_tubeLaw (c : Instr) (s t : State) (h : exec c s = .next t) (hs : s.tubeLaw) : t.tubeLaw := by
  cases c with
  | powerOnReset =>
    cases h
    exact tabled_none
  | cfgProtectRise | cfgProtectFall =>
    cases h
    exact hs
  | resetRelease => exact execResetRelease_tabled s t h hs
  | startupReadEnd upset => exact execStartupReadEnd_tabled upset s t h hs
  | hello ch id => exact execHello_tabled ch id s t h hs
  | pageWriteEnd => exact execPageWriteEnd_tabled s t h hs
  | fetchEnd upset => exact execFetchEnd_tabled upset s t h hs
  | calibrationVerdict ch => exact execCalibrationVerdict_tabled ch s t h hs
  | probeIdle ch | claim ch row col | releaseClaim ch | pullStart ch | sample ch seq reading | pause ch
  | resume ch | pullEnd ch | abandon ch reason | calStart ch std | probeFailed ch =>
    simp only [exec, execProbeIdle, execClaim, execReleaseClaim, execPullStart, execSample, execPause,
      execResume, execPullEnd, execAbandon, execCalStart, execProbeFailed, State.takeClaim,
      State.takePullStart, State.takeAbandon, State.takeCalStart] at h
    refine s.probeFrame_tabled t ch _ (fun u hu => ?_) h hs
    (repeat' split) <;> simp [hu]
  | probeFrameDiscarded ch frame | probeLinkLoss ch | probeIdleSend ch | claimExpiry ch | pauseExpiry ch
  | bracketAgeLimit ch | closedFailPresentation bracket | closedGoodHandover bracket
  | comparisonEnd row col | stationRequestFrame st tag req | abortStream st | stationIdle st
  | stationFrameDiscarded st frame | stationLinkLoss st | stationIdleSend st | frameSendEnd st
  | pageSendEnd st | saveCommandEnd shown upset | eraseTimeout | programTimeout =>
    simp only [exec, execProbeFrameDiscarded, execProbeLinkLoss, execProbeIdleSend, execClaimExpiry,
      execPauseExpiry, execBracketAgeLimit, execClosedFailPresentation, execClosedGoodHandover,
      execComparisonEnd, execStationRequestFrame, execAbortStream, execStationIdle,
      execStationFrameDiscarded, execStationLinkLoss, execStationIdleSend, execFrameSendEnd,
      execPageSendEnd, execSaveCommandEnd, execEraseTimeout, execProgramTimeout] at h
    refine s.act_tabled t _ (fun u hu => ?_) h hs
    (repeat' split) <;> simp +contextual [hu]
  | sessionSecondTick =>
    simp only [exec, execSessionSecondTick] at h
    refine s.act_tabled t _ (fun u hu => ?_) h hs
    exact u.tabled_modSession _ hu fun x _ hx => x.tabled_congr _ hx rfl rfl
  | openSession st tag wall => exact execOpenSession_tabled st tag wall s t h hs
  | closeSession st tag force => exact execCloseSession_tabled st tag force s t h hs
  | defineTubes st tag row col1 col2 cls cond =>
    exact execDefineTubes_tabled st tag row col1 col2 cls cond s t h hs
  | removeTubes st tag row col1 col2 => exact execRemoveTubes_tabled st tag row col1 col2 s t h hs
  | defineGeometry st tag cls count length =>
    exact s.editRequest_tabled t st tag _ _ _ (fun u x => u.tabled_modPlan _) h hs
  | setLimits st tag v => exact s.editRequest_tabled t st tag _ _ _ (fun u x => u.tabled_modPlan _) h hs
  | setSecondOpinion st tag mode =>
    exact s.editRequest_tabled t st tag _ _ _ (fun u x => u.tabled_modPlan _) h hs
  | requestRetest st tag row col reset => exact execRequestRetest_tabled st tag row col reset s t h hs
  | confirmPlug st tag row col => exact execConfirmPlug_tabled st tag row col s t h hs
  | submitFinal st tag row col traverse call =>
    exact execSubmitFinal_tabled st tag row col traverse call s t h hs
  | submitCall st tag row col traverse call =>
    exact execSubmitCall_tabled st tag row col traverse call s t h hs
  | saveConfig st tag | lockPlan st tag | setWindow st tag ch w | setExclusions st tag complement rects
  | defineStandard st tag id depths freq threshold | markArchived st tag traverse
  | declareProbeFailed st tag ch =>
    simp only [exec, execSaveConfig, execLockPlan, execSetWindow, execSetExclusions,
      execDefineStandard, execMarkArchived, execDeclareProbeFailed, State.withSession] at h
    refine s.leadRequest_tabled t st tag _ _ (fun u hu => ?_) h hs
    (repeat' split) <;> simp [hu, State.startSave]
  | unreadableRequest st tag name | readStatus st tag | getEvents st tag count
  | readTube st tag row col | scanTubes st tag row col states count | readTraverse st tag traverse
  | readChannel st tag ch | readCalLog st tag first | readBracket st tag number | readConfig st tag =>
    simp only [exec, execUnreadableRequest, execReadStatus, execGetEvents, execReadTube, execScanTubes,
      execReadTraverse, execReadChannel, execReadCalLog, execReadBracket, execReadConfig,
      State.withSession, State.withTube] at h
    refine s.request_tabled t st tag _ _ (fun u => ?_) h hs
    (repeat' split) <;> simp
  | readPages st tag traverse first count =>
    simp only [exec, execReadPages, State.runReadPages] at h
    refine State.takeRequest_keeps State.tubeLaw s t st tag _ _ (fun _ _ h => h) (fun u hu => ?_) h hs
    rw [State.tubeLaw_iff] at hu ⊢
    (repeat' split) <;> simp [hu]

/-- A millisecond of the part's own time leaves the table. -/
@[simp] theorem State.tabled_tick (s : State) (h : tabled s.session) : tabled s.tick.session := by
  have counted : tabled (s.session.map fun x => { x with subMs := x.subMs + 1 }) :=
    s.tabled_modSession _ h fun x _ hx => x.tabled_congr _ hx rfl rfl
  unfold State.tick
  extract_lets c x s1
  split
  · simpa using counted
  · exact counted

/-- What the part does by itself keeps the tube law. -/
theorem State.tabled_idle (s : State) (h : tabled s.session) : tabled s.idle.session := by
  unfold State.idle
  (repeat' split) <;> simp [h]

/-- Settles O9: the front command by `exec_tubeLaw`, the part's own time by `State.tabled_idle`; the nine
counts of a table sum to its entries. -/
theorem tubeLawIsKept : Obligations.TubeLawIsKept := by
  intro s t hs h
  have kept : t.tubeLaw := by
    unfold step at h
    split at h
    · cases h
      exact s.tabled_idle hs
    · next c rest _ => exact exec_tubeLaw c { s with pending := rest } t h hs
  refine ⟨kept, fun x hx => ?_⟩
  have counted := (kept x hx).2
  rw [← tubesIn_sum x.tubes]
  simp only [← counted, TubeCounts.get]

end Sys2Proof.Machine
end

section
namespace Sys2Proof.Machine

/-! The requests that read. -/

/-- A request is answered with what its body gives on the begun state. -/
theorem State.request_answer (s : State) (st : Stn) (tag : Nat) (req : Request)
    (body : State → State × Reply) (t : State) (r : Status) (c : Content)
    (h : s.mayBegin st tag req) (hb : body (s.begun st) = (t, ⟨r, c⟩)) :
    s.request st tag req body = .next (t.answered st tag (requestCode req) r c) := by
  rw [State.request_begun s st tag req body h, hb]

/-- The check for a position, with no entry there. -/
theorem State.withTube_none (s : State) (p : Pos) (body : TubeEntry → State × Reply)
    (h : s.tube? p = none) : s.withTube p body = (s, .refuse .noSuchTube) := by
  simp [State.withTube, h]

/-- The check for a position, with its entry. -/
theorem State.withTube_some (s : State) (p : Pos) (body : TubeEntry → State × Reply) (e : TubeEntry)
    (h : s.tube? p = some e) : s.withTube p body = body e := by
  simp [State.withTube, h]

/-- A request that needs a session is refused without one, and runs its body with one. -/
theorem State.sessionRequest (s : State) (st : Stn) (tag : Nat) (req : Request)
    (body : State → Session → State × Reply) (h : s.mayBegin st tag req) :
    (s.session = none → s.request st tag req (fun u => u.withSession (body u)) =
        .next ((s.begun st).answered st tag (requestCode req) .noSession .none))
      ∧ ∀ x, s.session = some x → ∀ t r c, body (s.begun st) x = (t, ⟨r, c⟩) →
          s.request st tag req (fun u => u.withSession (body u)) =
            .next (t.answered st tag (requestCode req) r c) := by
  refine ⟨fun none => s.request_answer st tag req _ _ _ _ h (State.withSession_none _ _ none),
    fun x hx t r c hb => s.request_answer st tag req _ _ _ _ h ?_⟩
  rw [State.withSession_some (s.begun st) _ x hx, hb]

/-- The link of the station in hand changed while its request is in hand. -/
theorem State.modStn_begun (s : State) (st : Stn) (f g : StationLink → StationLink)
    (hf : ∀ x : StationLink, f { x with inHand := true } = { g x with inHand := true }) :
    (s.begun st).modStn st f =
      State.begun { s with stations := s.stations.set st (g (s.stn st)) } st := by
  simp [State.modStn, State.begun, State.stn, hf]

@[simp] theorem State.link_begun (s : State) (st k : Stn) : ((s.begun st).stn k).link = (s.stn k).link := by
  by_cases h : k = st
  · subst h
    rw [State.stn_begun_self]
  · rw [State.stn_begun_other s st k h]

/-- The links of a status report, station by station (R183). -/
theorem State.statusReport_links (s : State) (st k : Stn) :
    (s.statusReport st).links.get k = (s.stn k).link := by
  match k with
  | 0 => rfl
  | 1 => rfl
  | 2 => rfl

/-- The channels of a status report, channel by channel (R183). -/
theorem State.statusReport_channels (s : State) (st : Stn) (ch : Chan) :
    (s.statusReport st).channels.get ch = (s.chan ch).status := by
  match ch with
  | 0 => rfl
  | 1 => rfl
  | 2 => rfl
  | 3 => rfl

/-- What READ_STATUS answers, and what it clears (R183). -/
theorem execReadStatus_begun (st : Stn) (tag : Nat) (s : State) (h : s.mayBegin st tag .readStatus) :
    execReadStatus st tag s =
      .next ((State.begun { s with stations := s.stations.set st { s.stn st with eventsLost := false } }
        st).answered st tag 19 .ok (.status ((s.begun st).statusReport st))) := by
  refine s.request_answer st tag _ _ _ _ _ h ?_
  rw [s.modStn_begun st _ (fun x => { x with eventsLost := false }) fun _ => rfl]
  rfl

/-- What GET_EVENTS answers, and what it takes (R181). -/
theorem execGetEvents_begun (st : Stn) (tag count : Nat) (s : State)
    (h : s.mayBegin st tag (.getEvents count)) (low : 1 ≤ count) (high : count ≤ 16) :
    execGetEvents st tag count s =
      .next ((State.begun { s with stations := s.stations.set st ((s.stn st).takeEvents count) }
        st).answered st tag 20 .ok (.events ((s.stn st).events.take count)
          ((s.stn st).events.length - count) (s.stn st).eventsLost)) := by
  refine s.request_answer st tag _ _ _ _ _ h ?_
  have good : within 1 16 count = true := by simp [within, low, high]
  rw [s.modStn_begun st _ (·.takeEvents count) fun _ => rfl, good]
  simp [Reply.ok]

theorem execGetEvents_badArgument (st : Stn) (tag count : Nat) (s : State)
    (h : s.mayBegin st tag (.getEvents count)) (bad : count = 0 ∨ 16 < count) :
    execGetEvents st tag count s = .next ((s.begun st).answered st tag 20 .badArgument .none) := by
  refine s.request_answer st tag _ _ _ _ _ h ?_
  have no : within 1 16 count = false := by
    simp only [within, decide_eq_false_iff_not]
    omega
  rw [no]
  rfl

/-- The admitted arguments of SCAN_TUBES (R40). -/
theorem goodScan_iff (row col : Nat) (states : List TubeState) (count : Nat) :
    goodScan row col states count = true ↔
      row ≠ 0 ∧ col ≠ 0 ∧ states ≠ [] ∧ 1 ≤ count ∧ count ≤ 32 := by
  simp [goodScan, within, and_assoc]

/-- The entries that a scan finds in a table in order (R41). -/
theorem filter_dropWhile_before (row col : Nat) (states : List TubeState) (tubes : List TubeEntry)
    (sorted : tubes.Pairwise fun a b => a.pos.before b.pos = true) :
    (tubes.dropWhile fun t => t.pos.before ⟨row, col⟩).filter (fun t => states.contains t.state) =
      tubes.filter fun e =>
        decide (row < e.pos.row ∨ row = e.pos.row ∧ col ≤ e.pos.col) && states.contains e.state := by
  rw [dropWhile_before_eq_filter ⟨row, col⟩ tubes sorted, List.filter_filter]
  refine List.filter_congr fun e _ => ?_
  have outside : (!e.pos.before ⟨row, col⟩)
      = decide (row < e.pos.row ∨ row = e.pos.row ∧ col ≤ e.pos.col) := by
    rw [Bool.eq_iff_iff]
    simp only [Pos.before, Bool.not_eq_true', decide_eq_false_iff_not, decide_eq_true_eq]
    omega
  rw [outside, Bool.and_comm]

/-- The continuation of a scan (R41): absent when the entries ran out before the count. -/
theorem scanNext_short (tubes hits : List TubeEntry) (count : Nat) (h : hits.length ≠ count) :
    scanNext tubes hits count = none := by
  unfold scanNext
  split
  · simp [h]
  · rfl

/-- The continuation of a scan (R41), by its last entry and the last defined position. -/
theorem scanNext_last (tubes hits : List TubeEntry) (count : Nat) (h l : TubeEntry)
    (hh : hits.getLast? = some h) (hl : tubes.getLast? = some l) :
    scanNext tubes hits count = if hits.length = count ∧ h.pos ≠ l.pos then h.pos.next else none := by
  simp [scanNext, hh, hl]

/-- A part of a list that is left ends as the list does. -/
theorem getLast_dropWhile {α : Type} (p : α → Bool) (l : List α) (h : l.dropWhile p ≠ []) :
    (l.dropWhile p).getLast? = l.getLast? := by
  conv => rhs; rw [← List.takeWhile_append_dropWhile (p := p) (l := l)]
  rw [List.getLast?_append_of_ne_nil _ h]

/-- Of a log numbered from 1 the entries from a number on are those behind its place (R131). -/
theorem filter_number_eq_drop (log : List LogEntry) (n : Nat) (hn : 1 ≤ n)
    (numbered : log.map (·.number) = List.range' 1 log.length) :
    log.filter (fun e => decide (n ≤ e.number)) = log.drop (n - 1) := by
  suffices general : ∀ (log : List LogEntry) (k m : Nat), log.map (·.number) = List.range' k log.length →
      log.filter (fun e => decide (k + m ≤ e.number)) = log.drop m by
    obtain ⟨m, rfl⟩ := Nat.exists_eq_add_of_le hn
    simpa using general log 1 m numbered
  intro log
  induction log with
  | nil => simp
  | cons e rest ih =>
    intro k m h
    simp only [List.map_cons, List.length_cons, List.range'_succ, List.cons.injEq] at h
    obtain ⟨first, later⟩ := h
    cases m with
    | zero =>
      have bounds : rest.filter (fun x => decide (k ≤ x.number)) = rest := by
        refine List.filter_eq_self.2 fun x hx => ?_
        have := List.mem_map_of_mem (f := (·.number)) hx
        rw [later, List.mem_range'_1] at this
        simp only [decide_eq_true_eq]
        omega
      simp [first, bounds]
    | succ m =>
      have next := ih (k + 1) m later
      have skip : ¬ k + (m + 1) ≤ e.number := by omega
      simpa [skip, Nat.add_assoc, Nat.add_comm 1 m] using next

@[simp] theorem State.bracket_begun (s : State) (st : Stn) (n : Nat) :
    (s.begun st).bracket? n = s.bracket? n := rfl
@[simp] theorem State.logEntry_begun (s : State) (st : Stn) (n : Nat) :
    (s.begun st).logEntry? n = s.logEntry? n := rfl

/-- When an evaluation is in hand (R45, R123). -/
theorem State.evaluationInHand_isSome (s : State) (ch : Chan) :
    (s.evaluationInHand ch).isSome = true ↔ ∃ a, s.attempt? ch = some a ∧ (a.stage = .evaluating
      ∨ ∃ u, s.trav? a.traverse = some u ∧ u.state = .finishing) := by
  unfold State.evaluationInHand
  cases s.attempt? ch with
  | none => simp
  | some a =>
    cases hs : a.stage with
    | evaluating => simp [hs]
    | pulling => cases s.trav? a.traverse <;> simp [hs]

theorem execReadChannel_badArgument (st : Stn) (tag n : Nat) (s : State)
    (h : s.mayBegin st tag (.readChannel n)) (big : 4 ≤ n) :
    execReadChannel st tag n s = .next ((s.begun st).answered st tag 25 .badArgument .none) := by
  refine s.request_answer st tag _ _ _ _ _ h ?_
  rw [chanOf_none n big]
  rfl

theorem execReadChannel_begun (st : Stn) (tag : Nat) (ch : Chan) (s : State)
    (h : s.mayBegin st tag (.readChannel ch.val)) :
    execReadChannel st tag ch.val s =
      .next ((s.begun st).answered st tag 25 .ok (.channel (s.channelReport ch))) := by
  refine s.request_answer st tag _ _ _ _ _ h ?_
  rw [chanOf_val]
  rfl

theorem execReadConfig_begun (st : Stn) (tag : Nat) (s : State) (h : s.mayBegin st tag .readConfig) :
    execReadConfig st tag s = .next ((s.begun st).answered st tag 28 .ok
      (.config ⟨s.config.shadow, s.config.status, s.config.save.step?, s.config.lastSave,
        s.config.cfgProtect⟩)) :=
  s.request_answer st tag _ _ _ _ _ h rfl

/-- Settles O59, request by request: each body is run on the begun state, which reads as the state does. -/
theorem readsAnswerAndChangeNothing : Obligations.ReadsAnswerAndChangeNothing := by
  intro st tag s x say put
  refine ⟨fun h => ?_, fun count h => ⟨fun low high => execGetEvents_begun st tag count s h low high,
    execGetEvents_badArgument st tag count s h⟩, fun p h => ?_, fun row col states count h => ?_,
    fun id h => ?_, fun n h => ?_, fun n h => ?_, fun n h => ?_, fun h => ?_⟩
  case refine_1 =>
    refine ⟨_, execReadStatus_begun st tag s h, rfl, rfl, rfl, rfl, rfl, rfl, rfl, rfl, rfl, ?_, ?_, rfl,
      fun k => ?_, ?_, fun ch => ?_⟩
    · simp [State.statusReport, x]
    · simp [State.statusReport, x]
    · rw [State.statusReport_links, State.link_begun]
    · simp [State.statusReport]
    · rw [State.statusReport_channels]
      exact ⟨rfl, rfl⟩
  case refine_2 =>
    obtain ⟨closed, opened⟩ := s.sessionRequest st tag (.readTube p.row p.col)
      (fun u _ => u.withTube ⟨p.row, p.col⟩ fun t => (u, .ok (.tube t (u.geometry? t.cls)))) h
    refine ⟨closed, fun session none => ?_, fun y e hy he => ?_⟩
    · obtain ⟨y, hy⟩ := Option.ne_none_iff_exists'.1 session
      exact opened y hy _ _ _ (State.withTube_none (s.begun st) p _ none)
    · refine opened y hy _ _ _ ((State.withTube_some (s.begun st) p _ e he).trans ?_)
      simp [State.geometry?, hy, Reply.ok]
  case refine_3 =>
    obtain ⟨closed, opened⟩ := s.sessionRequest st tag (.scanTubes row col states count)
      (fun u _ => if goodScan row col states count then
        let tubes := u.tubesFrom ⟨row, col⟩
        let hits := scanHits tubes states count
        (u, .ok (.tubes hits (scanNext tubes hits count)))
      else (u, .refuse .badArgument)) h
    refine ⟨closed, fun session bad => ?_, fun y hy good law => ?_⟩
    · obtain ⟨y, hy⟩ := Option.ne_none_iff_exists'.1 session
      exact opened y hy _ _ _ (if_neg fun good => bad ((goodScan_iff ..).1 good))
    · intro found hits
      let tubes := y.tubes.dropWhile fun t => t.pos.before ⟨row, col⟩
      have from_eq : (s.begun st).tubesFrom ⟨row, col⟩ = tubes := by
        simp [State.tubesFrom, State.tubes, hy, tubes]
      have hits_eq : scanHits tubes states count = hits := by
        unfold scanHits
        rw [filter_dropWhile_before row col states y.tubes (law y hy).1]
      refine ⟨scanNext tubes hits count, ?_, fun few => ?_, fun e l he hl => ?_⟩
      · refine opened y hy _ _ _ ((if_pos ((goodScan_iff ..).2 good)).trans ?_)
        simp only [from_eq, hits_eq, Reply.ok]
      · refine scanNext_short _ _ _ ?_
        rw [List.length_take]
        omega
      · have some_hit : tubes ≠ [] := by
          intro nil
          have : hits = [] := by simp [← hits_eq, scanHits, nil]
          simp [this] at he
        rw [scanNext_last tubes hits count e l he ((getLast_dropWhile _ _ some_hit).trans hl)]
        exact ⟨fun same => if_neg fun ⟨_, differ⟩ => differ same, fun differ full => if_pos ⟨full, differ⟩⟩
  case refine_4 =>
    obtain ⟨closed, opened⟩ := s.sessionRequest st tag (.readTraverse id)
      (fun u _ => match u.trav? id with
        | none => (u, .refuse .noSuchTraverse)
        | some t => (u, .ok (.traverse t.report))) h
    refine ⟨closed, fun session none => ?_, fun tr session htr => ⟨tr.windowCounts, ?_, ?_, ?_⟩⟩
    · obtain ⟨y, hy⟩ := Option.ne_none_iff_exists'.1 session
      exact opened y hy _ _ _ (by simp [none, Reply.refuse])
    · obtain ⟨y, hy⟩ := Option.ne_none_iff_exists'.1 session
      exact opened y hy _ _ _ (by simp [htr, Reply.ok, Traverse.report])
    · intro lists
      simp [Traverse.windowCounts, lists]
    · intro no_lists
      exact (tr.windowCounts_eq_some _).2 ⟨no_lists, rfl⟩
  case refine_5 =>
    refine ⟨execReadChannel_badArgument st tag n s h, fun ch hch => ?_⟩
    subst hch
    exact ⟨s.channelReport ch, execReadChannel_begun st tag ch s h, rfl, rfl, rfl, rfl, rfl, rfl, rfl, rfl,
      rfl, rfl, s.evaluationInHand_isSome ch, rfl, rfl⟩
  case refine_6 =>
    obtain ⟨closed, opened⟩ := s.sessionRequest st tag (.readCalLog n)
      (fun u _ => if n = 0 then (u, .refuse .badArgument)
        else (u, .ok (.calLog ((u.cal.log.filter fun e => decide (n ≤ e.number)).take 16)
          u.cal.log.length))) h
    refine ⟨closed, fun session zero => ?_, fun session pos law => ?_⟩
    · obtain ⟨y, hy⟩ := Option.ne_none_iff_exists'.1 session
      exact opened y hy _ _ _ (if_pos zero)
    · obtain ⟨y, hy⟩ := Option.ne_none_iff_exists'.1 session
      rw [← filter_number_eq_drop s.cal.log n pos law.1]
      exact opened y hy _ _ _ (if_neg (by omega))
  case refine_7 =>
    obtain ⟨closed, opened⟩ := s.sessionRequest st tag (.readBracket n)
      (fun u _ => match u.bracket? n with
        | none => (u, .refuse .badArgument)
        | some b =>
          let e := u.logEntry? b.openingLog
          (u, .ok (.bracket { b with toPresent := [] } (u.ageLeft b) ((e.map (·.rho)).getD 0)
            ((e.map (·.aRef)).getD 0)))) h
    refine ⟨closed, fun session none => ?_, fun y b e hy hb he => ?_⟩
    · obtain ⟨y, hy⟩ := Option.ne_none_iff_exists'.1 session
      exact opened y hy _ _ _ (by rw [s.bracket_begun st n, none]; rfl)
    · refine opened y hy _ _ _ ?_
      simp only [State.bracket_begun, State.logEntry_begun, hb, he, Option.map_some, Option.getD_some]
      simp [State.ageLeft, Bracket.ageDue, State.limits, State.time, State.time?, hy, Reply.ok]
  case refine_8 =>
    refine ⟨s.config.save.step?, execReadConfig_begun st tag s h, fun idle => ?_,
      fun snapshot k ms running => ?_⟩
    · rw [idle]
      rfl
    · rw [running]
      rfl

end Sys2Proof.Machine
end

section
namespace Sys2Proof.Machine

/-! What an act raises. -/

/-- States between which no event was raised hear alike: the same links, role loading, mode and clock. -/
def State.raised (s t : State) (es : List Event) : Prop :=
  t.stations = (s.raiseAll es).stations ∧ t.config.phase = s.config.phase ∧ t.mode = s.mode
    ∧ t.time? = s.time?

theorem State.mode_of_session (s t : State) (h : t.session = s.session) : t.mode = s.mode := by
  simp [State.mode, h]

theorem State.time?_of_session (s t : State) (h : t.session = s.session) : t.time? = s.time? := by
  simp [State.time?, h]

theorem State.raised_refl (s : State) : s.raised s [] := ⟨rfl, rfl, rfl, rfl⟩

theorem State.raised_raise (s : State) (e : Event) : s.raised (s.raise e) [e] :=
  ⟨rfl, rfl, State.mode_of_session _ _ (s.session_raise e), State.time?_of_session _ _ (s.session_raise e)⟩

/-- The same events are heard alike where no event was raised. -/
theorem State.raised_congr (s t : State) (es : List Event) (h : s.raised t []) :
    (t.raiseAll es).stations = (s.raiseAll es).stations := by
  unfold State.raiseAll
  induction es generalizing s t with
  | nil => exact h.1
  | cons e es ih =>
    obtain ⟨links, phase, mode, time⟩ := h
    refine ih (s.raise e) (t.raise e) ⟨?_, ?_, ?_, ?_⟩
    · change (t.raise e).stations = (s.raise e).stations
      unfold State.raise
      rw [phase, mode, time, links]
      rfl
    · simpa using phase
    · exact (State.raised_raise t e).2.2.1.trans (mode.trans (State.raised_raise s e).2.2.1.symm)
    · exact (State.raised_raise t e).2.2.2.trans (time.trans (State.raised_raise s e).2.2.2.symm)

theorem State.raised_raiseAll (s : State) (es : List Event) : s.raised (s.raiseAll es) es := by
  have frame : ∀ {γ : Type} (g : State → γ), (∀ u e, g (State.raise u e) = g u) → g (s.raiseAll es) = g s :=
    fun g hg => foldl_frame State.raise g hg es s
  exact ⟨rfl, congrArg _ (frame State.config State.config_raise),
    frame State.mode fun u e => (u.raised_raise e).2.2.1,
    frame State.time? fun u e => (u.raised_raise e).2.2.2⟩

/-- Acts one after the other raise their events one after the other. -/
theorem State.raised_trans (s t u : State) (es fs : List Event) (h : s.raised t es) (k : t.raised u fs) :
    s.raised u (es ++ fs) := by
  obtain ⟨links, phase, mode, time⟩ := h
  obtain ⟨links', phase', mode', time'⟩ := k
  obtain ⟨_, phase_es, mode_es, time_es⟩ := s.raised_raiseAll es
  refine ⟨?_, phase'.trans phase, mode'.trans mode, time'.trans time⟩
  rw [links', State.raiseAll_append]
  exact State.raised_congr _ _ fs ⟨links, phase.trans phase_es.symm, mode.trans mode_es.symm,
    time.trans time_es.symm⟩

/-- An act that leaves the links, the session and the Configuration Memory Controller raises nothing. -/
theorem State.raised_of_eq (s t : State) (hst : t.stations = s.stations) (hs : t.session = s.session)
    (hc : t.config = s.config) : s.raised t [] :=
  ⟨hst, congrArg _ hc, State.mode_of_session _ _ hs, State.time?_of_session _ _ hs⟩

/-- An act that raises nothing, and then events. -/
theorem State.raised_after (s t u : State) (es : List Event) (h : s.raised t []) (k : t.raised u es) :
    s.raised u es := s.raised_trans t u [] es h k

/-- Events, and then an act that raises nothing. -/
theorem State.raised_before (s t u : State) (es : List Event) (h : s.raised t es) (k : t.raised u []) :
    s.raised u es := by simpa using s.raised_trans t u es [] h k

/-- The move of a tube raises nothing. -/
theorem State.raised_moveTube (s : State) (p : Pos) (new : TubeState) (f : TubeEntry → TubeEntry) :
    s.raised (s.moveTube p new f) [] := by
  have outline : ∀ u : State, (u.session.map fun x => (x.plan.mode, x.seconds))
      = (s.session.map fun x => (x.plan.mode, x.seconds)) → u.mode = s.mode ∧ u.time? = s.time? := by
    intro u h
    unfold State.mode State.time?
    cases hu : u.session <;> cases hs : s.session <;> simp_all
  obtain ⟨mode, time⟩ := outline (s.moveTube p new f) (by
    unfold State.moveTube
    cases s.tube? p with
    | none => rfl
    | some e => simp [State.modTube, Function.comp_def])
  exact ⟨by simp, by simp, mode, time⟩

/-- What R85 raises. -/
theorem State.raised_watchStore (s : State) :
    ∃ es, s.raised s.watchStore es ∧ es.length ≤ 1 ∧ ∀ e ∈ es, e.isStoreNews = true := by
  let v := s.freePages - s.store.reservedPages
  refine ⟨if v < 65536 ∧ s.store.low = false then [.storeLow v]
    else if 131072 ≤ v ∧ s.store.low = true then [.storeOk v] else [], ?_, ?_, ?_⟩
  · rw [s.watchStore_eq]
    refine State.raised_after _ _ _ _ ?_ (State.raised_raiseAll _ _)
    exact s.raised_of_eq _ rfl rfl rfl
  · (repeat' split) <;> simp
  · (repeat' split) <;> simp [Event.isStoreNews]

/-! Channels (R43, R47 to R49). -/

@[simp] theorem State.channels_modChan (s : State) (ch : Chan) (f : Channel → Channel) :
    (s.modChan ch f).channels = s.channels.set ch (f (s.chan ch)) := rfl

theorem State.channels_sendProbe_up (s : State) (ch : Chan) (f : ProbeOut)
    (h : (s.chan ch).state ≠ .offline) :
    (s.sendProbe ch f).channels =
      s.channels.set ch { s.chan ch with sent := (s.chan ch).sent ++ [f], quietMs := 0 } := by
  rw [s.sendProbe_up ch f h]
  rfl

/-- A channel's new state. -/
theorem State.channels_setChan (s : State) (ch : Chan) (new : ChanState) :
    (s.setChan ch new).channels = s.channels.set ch { s.chan ch with state := new } := by
  unfold State.setChan
  split
  · next h =>
    subst h
    exact (Four.set_get _ _).symm
  · simp

/-- A channel that leaves its state raises CHANNEL_CHANGE (R47). -/
theorem State.setChan_of_ne (s : State) (ch : Chan) (new : ChanState) (h : (s.chan ch).state ≠ new) :
    s.setChan ch new =
      (s.modChan ch fun c => { c with state := new }).raise
        (.channelChange ch new ((s.modChan ch fun c => { c with state := new }).permitNow ch)) := by
  unfold State.setChan
  rw [if_neg h]

/-- The permit of an up channel recomputed (R48). -/
theorem State.channels_refreshPermit_up (s : State) (ch : Chan) (v : Permit)
    (hv : s.permitNow ch = some v) :
    (s.refreshPermit ch).channels = s.channels.set ch
      { s.chan ch with
        permit := some v
        quietMs := if (s.chan ch).permit = some v then (s.chan ch).quietMs else 0
        sent := (s.chan ch).sent ++ if (s.chan ch).permit = some v then [] else [.permit v] } := by
  have up : (s.chan ch).state ≠ .offline := by
    intro off
    simp [State.permitNow, off] at hv
  unfold State.refreshPermit
  rw [hv]
  by_cases same : (s.chan ch).permit = some v
  · simp only [same, if_true, List.append_nil]
    rw [← same]
    exact (Four.set_get _ _).symm
  · have differs : ¬ some v = (s.chan ch).permit := fun e => same e.symm
    simp only [differs, same, if_false]
    rw [State.channels_sendProbe_up _ _ _ (by simpa using up)]
    simp

/-- What a channel's recomputed permit raises: nothing. -/
theorem State.raised_refreshPermit (s : State) (ch : Chan) : s.raised (s.refreshPermit ch) [] :=
  s.raised_of_eq _ (by simp) (by simp) (by simp)

theorem State.raised_sendProbe (s : State) (ch : Chan) (f : ProbeOut) : s.raised (s.sendProbe ch f) [] :=
  s.raised_of_eq _ (by simp) (by simp) (by simp)

theorem State.raised_modChan (s : State) (ch : Chan) (f : Channel → Channel) :
    s.raised (s.modChan ch f) [] :=
  s.raised_of_eq _ rfl rfl rfl

/-! What an act on a channel leaves of the others. -/

theorem State.chan_sendProbe_other (s : State) (ch k : Chan) (f : ProbeOut) (h : k ≠ ch) :
    (s.sendProbe ch f).chan k = s.chan k :=
  s.chan_modChan_other ch k _ h

theorem State.chan_setChan_other (s : State) (ch k : Chan) (new : ChanState) (h : k ≠ ch) :
    (s.setChan ch new).chan k = s.chan k := by
  rw [State.chan, State.channels_setChan]
  exact Four.get_set_other _ _ _ _ h

theorem State.chan_refreshPermit_other (s : State) (ch k : Chan) (h : k ≠ ch) :
    (s.refreshPermit ch).chan k = s.chan k := by
  unfold State.refreshPermit
  generalize s.permitNow ch = p
  by_cases same : p = (s.chan ch).permit
  · rw [if_pos same]
  · rw [if_neg same]
    cases p with
    | none => exact s.chan_modChan_other ch k _ h
    | some v => exact (State.chan_sendProbe_other _ ch k _ h).trans (s.chan_modChan_other ch k _ h)

theorem State.chan_moveChan_other (s : State) (ch k : Chan) (new : ChanState) (h : k ≠ ch) :
    (s.moveChan ch new).chan k = s.chan k :=
  (State.chan_refreshPermit_other _ ch k h).trans (s.chan_setChan_other ch k new h)

theorem State.chan_hearProbe_other (s : State) (ch k : Chan) (h : k ≠ ch) :
    (s.hearProbe ch).chan k = s.chan k :=
  Four.get_set_other _ _ _ _ h

/-- A channel moved (R47, R48): its state is the new one, its permit the one of now, and the rest of it but
the frames that it sends stays. -/
theorem State.moveChan_chan (s : State) (ch : Chan) (new : ChanState) :
    ((s.moveChan ch new).chan ch).silent = { s.chan ch with state := new }.silent
      ∧ ((s.moveChan ch new).chan ch).permit = (s.moveChan ch new).permitNow ch := by
  obtain ⟨rest, permit⟩ := (s.setChan ch new).refreshPermit_chan ch ch
  have moved : (s.setChan ch new).chan ch = { s.chan ch with state := new } := by
    rw [State.chan, State.channels_setChan, Four.get_set_self]
  refine ⟨rest.trans (by rw [moved]), ?_⟩
  unfold State.moveChan
  rw [permit, if_pos rfl, State.permitNow_refreshPermit]

/-- The state that an up channel with no work comes to rest in follows its open bracket (R26, R49, R58). -/
theorem State.restState_of_bracket (s : State) (ch : Chan) (b : Bracket) (h : s.openBracket ch = some b) :
    s.restState ch = if b.calDue.isSome then .due else .ready := by
  simp [State.restState, h]

/-- The open bracket of a channel is read off the Calibration Unit. -/
theorem State.openBracket_congr (s t : State) (ch : Chan) (h : t.cal = s.cal) :
    t.openBracket ch = s.openBracket ch := by
  simp [State.openBracket, h]

/-! An arrival by a frame and one by a timer act alike but for the silence timer. -/

/-- The state with another time on a channel's silence timer. -/
def State.silentFor (s : State) (ch : Chan) (ms : Nat) : State :=
  s.modChan ch fun c => { c with silenceMs := ms }

theorem State.hearProbe_eq (s : State) (ch : Chan) : s.hearProbe ch = s.silentFor ch 0 := rfl

theorem State.silentFor_self (s : State) (ch : Chan) : s.silentFor ch (s.chan ch).silenceMs = s := by
  have same : s.channels.set ch (s.channels.get ch) = s.channels := Four.set_get _ _
  unfold State.silentFor State.modChan
  exact congrArg (fun c => { s with channels := c }) same

@[simp] theorem State.chan_silentFor_self (s : State) (ch : Chan) (ms : Nat) :
    (s.silentFor ch ms).chan ch = { s.chan ch with silenceMs := ms } :=
  s.chan_modChan_self ch _

theorem State.chan_silentFor_other (s : State) (ch k : Chan) (ms : Nat) (h : k ≠ ch) :
    (s.silentFor ch ms).chan k = s.chan k :=
  s.chan_modChan_other ch k _ h

@[simp] theorem State.session_silentFor (s : State) (ch : Chan) (ms : Nat) :
    (s.silentFor ch ms).session = s.session := rfl

theorem State.raised_silentFor (s : State) (ch : Chan) (ms : Nat) : s.raised (s.silentFor ch ms) [] :=
  s.raised_modChan ch _

end Sys2Proof.Machine
end

section
namespace Sys2Proof.Machine

/-! Claims (R22 to R28). -/

/-- The first failing step, looked for at the head of the table. -/
theorem firstFailure_cons {α : Type} (b : Bool) (r : α) (rest : List (Bool × α)) :
    firstFailure ((b, r) :: rest) = if b then some r else firstFailure rest := by
  cases b <;> rfl

/-- The check of a CLAIM is the table of R22. -/
theorem State.claimRefusal_eq (s : State) (ch : Chan) (p : Pos) :
    s.claimRefusal ch p = firstFailure (claimTable s ch p) := by
  unfold State.claimRefusal claimTable
  simp only [firstFailure_cons]
  cases hx : s.session with
  | none => rfl
  | some x =>
    cases hl : x.plan.locked with
    | false => simp [State.planLocked, hx, hl]
    | true =>
      cases hs : (s.chan ch).state with
      | ready =>
        cases ht : s.tube? p with
        | none => simp [State.planLocked, hx, hl]
        | some e =>
          by_cases full : e.attempts = 8 <;> cases he : e.state <;>
            simp [firstFailure, State.planLocked, hx, hl, State.tubeIn, ht, he, full, tubeRefusal,
              State.storeRefusal, Config.maxAttempts, Config.directorySlots, Config.reservation] <;>
            congr
      | _ => simp [State.planLocked, hx, hl]

/-- A claim that no step refuses meets a READY channel in a session under a locked plan. -/
theorem State.claimable_of_table (s : State) (ch : Chan) (p : Pos)
    (h : firstFailure (claimTable s ch p) = none) :
    ∃ x e, s.session = some x ∧ x.plan.locked = true ∧ (s.chan ch).state = .ready ∧ s.tube? p = some e := by
  rw [← s.claimRefusal_eq] at h
  unfold State.claimRefusal at h
  cases hx : s.session with
  | none => simp [hx] at h
  | some x =>
    cases hl : x.plan.locked with
    | false => simp [hx, hl] at h
    | true =>
      cases hs : (s.chan ch).state with
      | ready =>
        cases ht : s.tube? p with
        | none => simp [hx, hl, hs, ht] at h
        | some e => exact ⟨x, e, rfl, hl, rfl, rfl⟩
      | _ => simp [hx, hl, hs] at h

/-- The check of a CLAIM does not depend on the silence timer. -/
theorem State.claimTable_hearProbe (s : State) (ch : Chan) (p : Pos) :
    claimTable (s.hearProbe ch) ch p = claimTable s ch p := by
  unfold claimTable
  rw [State.chan_hearProbe_self]
  rfl

/-- CLAIM on an up link, by the table of R22. -/
theorem execClaim_up (ch : Chan) (row col : Nat) (s : State) (up : s.probeUp ch) :
    execClaim ch row col s = .next (match firstFailure (claimTable s ch ⟨row, col⟩) with
      | some r => (s.hearProbe ch).sentOn ch (.claimReply (some r) row col)
      | none => (s.hearProbe ch).grantClaim ch ⟨row, col⟩) := by
  refine (s.probeFrame_up ch _ up).trans ?_
  simp only [State.takeClaim, State.claimRefusal_eq, State.claimTable_hearProbe]
  cases firstFailure (claimTable s ch ⟨row, col⟩) with
  | none => rfl
  | some r =>
    have still_up : ((s.hearProbe ch).chan ch).state ≠ .offline := by simpa using up.2
    exact congrArg _ (State.sendProbe_up _ ch _ still_up)

/-- R85 changes nothing of the store but its flag. -/
theorem State.store_watchStore (s : State) :
    s.watchStore.store = { s.store with low := s.watchStore.store.low } := by
  unfold State.watchStore
  extract_lets v
  (repeat' split) <;> rfl

/-- The reservation of a claim (R23): all but the two counts and the store-low flag is left. -/
theorem State.store_reserve (s : State) :
    s.reserve.store = { s.store with
      reservedSlots := s.store.reservedSlots + 1, reservedPages := s.store.reservedPages + 1171
      low := s.reserve.store.low } := by
  unfold State.reserve
  exact State.store_watchStore _

/-- The reservation of a claim returned (R26): all but the two counts and the store-low flag is left. -/
theorem State.store_unreserve (s : State) :
    s.unreserve.store = { s.store with
      reservedSlots := s.store.reservedSlots - 1, reservedPages := s.store.reservedPages - 1171
      low := s.unreserve.store.low } := by
  unfold State.unreserve
  exact State.store_watchStore _

/-- What the reservation of a claim raises. -/
theorem State.raised_reserve (s : State) : ∃ es, s.raised s.reserve es ∧ es.length ≤ 1 := by
  obtain ⟨es, told, few, _⟩ := State.raised_watchStore (s.modStore fun x =>
    { x with reservedSlots := x.reservedSlots + 1
             reservedPages := x.reservedPages + Config.reservation })
  refine ⟨es, State.raised_after _ _ _ _ ?_ told, few⟩
  exact s.raised_of_eq _ rfl rfl rfl

/-- A granted claim, said once (R24). -/
theorem State.grantClaim_eq (s : State) (ch : Chan) (p : Pos) (x : Session) (e : TubeEntry)
    (ready : (s.chan ch).state = .ready) (hx : s.session = some x) (hl : x.plan.locked = true)
    (he : s.tube? p = some e) :
    let t := s.grantClaim ch p
    t.session = some (x.updTube p (fun u =>
        { u with preClaim := some u.state, state := .claimed, holder := some ch, changed := x.seconds })
        (x.counts.move e.state .claimed))
      ∧ t.channels = s.channels.set ch
          { s.chan ch with
            state := .claimed, quietMs := 0, claim := some p
            claimDue := some (x.seconds + 600), permit := some ⟨false, .busy⟩
            sent := (s.chan ch).sent ++ [.claimReply none p.row p.col] ++
              (if (s.chan ch).permit = some ⟨false, .busy⟩ then [] else [.permit ⟨false, .busy⟩]) }
      ∧ ∃ es, t.stations = (s.raiseAll es).stations
          ∧ es.getLast? = some (.channelChange ch .claimed (some ⟨false, .busy⟩)) ∧ es.length ≤ 2 := by
  let y := x.updTube p (fun u =>
    { u with preClaim := some u.state, state := .claimed, holder := some ch, changed := x.seconds })
    (x.counts.move e.state .claimed)
  let s1 := s.moveTube p .claimed fun t => { t with preClaim := some t.state, holder := some ch }
  let s3 := s1.reserve.modChan ch fun c =>
    { c with claim := some p, claimDue := some (s.time + Config.claimSeconds) }
  let s4 := s3.setChan ch .claimed
  let s5 := s4.sendProbe ch (.claimReply none p.row p.col)
  have time : s.time = x.seconds := by simp [State.time, State.time?, hx]
  have moved : s1.session = some y := by
    change (s.moveTube p .claimed _).session = _
    rw [s.moveTube_eq p .claimed _ x e hx he]
  have busy : ∀ u : State, u.session = some y → (u.chan ch).state = .claimed →
      u.permitNow ch = some ⟨false, .busy⟩ := by
    intro u hu hc
    have locked : y.plan.locked = true := hl
    simp [State.permitNow, hu, hc, permitOf, locked]
  have chan3 : s3.channels = s.channels.set ch
      { s.chan ch with claim := some p, claimDue := some (x.seconds + 600) } := by
    simp only [s3, State.channels_modChan, State.chan, State.channels_reserve, s1,
      State.channels_moveTube, time]
    rfl
  have chan4 : s4.channels = s.channels.set ch { s.chan ch with
      state := .claimed, claim := some p, claimDue := some (x.seconds + 600) } := by
    rw [State.channels_setChan, State.chan, chan3]
    simp
  have chan5 : s5.channels = s.channels.set ch { s.chan ch with
      state := .claimed, claim := some p, claimDue := some (x.seconds + 600), quietMs := 0
      sent := (s.chan ch).sent ++ [.claimReply none p.row p.col] } := by
    rw [State.channels_sendProbe_up _ _ _ (by simp [State.chan, chan4]), State.chan, chan4]
    simp
  have sess3 : s3.session = some y := by simpa [s3] using moved
  have sess5 : s5.session = some y := by simpa [s5, s4] using sess3
  refine ⟨?_, ?_, ?_⟩
  · exact (State.session_refreshPermit s5 ch).trans sess5
  · have now := busy s5 sess5 (by simp [State.chan, chan5])
    refine (State.channels_refreshPermit_up s5 ch _ now).trans ?_
    rw [State.chan, chan5]
    simp
  · obtain ⟨es, told, few⟩ := s1.raised_reserve
    have told3 : s.raised s3 es :=
      State.raised_before _ _ _ _ (State.raised_after _ _ _ _ (s.raised_moveTube _ _ _) told)
        (State.raised_modChan _ _ _)
    have ready3 : (s3.chan ch).state ≠ .claimed := by
      rw [State.chan, chan3, Four.get_set_self]
      simp [ready]
    have told4 : s3.raised s4 [.channelChange ch .claimed (some ⟨false, .busy⟩)] := by
      have now := busy (s3.modChan ch fun c => { c with state := .claimed })
        ((State.session_modChan _ _ _).trans sess3) (by rw [State.chan_modChan_self])
      change s3.raised (s3.setChan ch .claimed) _
      rw [s3.setChan_of_ne ch .claimed ready3, now]
      exact State.raised_after _ _ _ _ (State.raised_modChan _ _ _) (State.raised_raise _ _)
    have told5 : s.raised (s5.refreshPermit ch) _ :=
      State.raised_before _ _ _ _ (State.raised_before _ _ _ _ (State.raised_trans _ _ _ _ _ told3 told4)
        (State.raised_sendProbe _ _ _)) (State.raised_refreshPermit _ _)
    exact ⟨_, told5.1, by simp, by simpa using few⟩

/-- What a granted claim does to the store. -/
theorem State.store_grantClaim (s : State) (ch : Chan) (p : Pos) :
    (s.grantClaim ch p).store = { s.store with
      reservedSlots := s.store.reservedSlots + 1, reservedPages := s.store.reservedPages + 1171
      low := (s.grantClaim ch p).store.low } := by
  have reserved := State.store_reserve
    (s.moveTube p .claimed fun t => { t with preClaim := some t.state, holder := some ch })
  simpa [State.grantClaim] using reserved

/-- Settles O29: the check by its table, the grant by `State.grantClaim_eq`. -/
theorem claimCheckInOrder : Obligations.ClaimCheckInOrder := by
  refine ⟨fun ch row col s up => ?_, fun ch p s x e up pass hx he => ?_⟩
  · have done := execClaim_up ch row col s up
    cases pass : firstFailure (claimTable s ch ⟨row, col⟩) with
    | some r => exact done.trans (by rw [pass])
    | none =>
      obtain ⟨x, e, hx, hl, ready, he⟩ := s.claimable_of_table ch ⟨row, col⟩ pass
      obtain ⟨_, channels, _⟩ := (s.hearProbe ch).grantClaim_eq ch ⟨row, col⟩ x e (by simpa using ready) hx hl he
      rw [pass] at done
      refine ⟨by simp [hx], by simp [State.planLocked, hx, hl], _, done, ?_, ?_⟩
      · simp [State.chan, channels]
      · simp [State.chan, channels]
  · obtain ⟨y, e', hy, hl, ready, he'⟩ := s.claimable_of_table ch p pass
    obtain rfl : x = y := Option.some.inj (hx.symm.trans hy)
    have done := execClaim_up ch p.row p.col s up
    rw [pass] at done
    obtain ⟨session, channels, es, told, last, few⟩ :=
      (s.hearProbe ch).grantClaim_eq ch p x e (by simpa using ready) hx hl he
    refine ⟨_, es, done, session, State.store_grantClaim _ _ _, ?_, told.trans ?_, last, few,
      by simp [State.grantClaim], by simp [State.grantClaim, State.hearProbe],
      by simp [State.grantClaim], by simp [State.grantClaim, State.hearProbe]⟩
    · rw [channels, State.chan_hearProbe_self]
      exact Four.set_set _ _ _ _
    · exact State.raised_congr s _ es (s.raised_of_eq _ rfl rfl rfl)

end Sys2Proof.Machine
end

section
namespace Sys2Proof.Machine

/-! The end of a claim (R26 to R28). -/

/-- The end of a claim, said once: the tube moves back, the reservation returns, the timer stops. -/
theorem State.endClaim_eq (s : State) (ch : Chan) (restriction : Bool) (p : Pos) (e : TubeEntry)
    (old : TubeState) (hp : (s.chan ch).claim = some p) (he : s.tube? p = some e)
    (hold : e.preClaim = some old) :
    let back := if restriction then TubeState.restricted else old
    s.endClaim ch restriction =
      ((s.moveTube p back fun t =>
        { t with preClaim := none, holder := none
                 cause := if back = .retest then t.cause else none }).unreserve).modChan ch fun c =>
          { c with claim := none, claimDue := none } := by
  simp [State.endClaim, hp, he, hold]

/-- A claim ended and its channel at rest, said once (R26). -/
theorem State.endClaimAndRest_does (s : State) (ch : Chan) (restriction : Bool) (p : Pos) (x : Session)
    (e : TubeEntry) (old : TubeState) (b : Bracket) (hx : s.session = some x)
    (hp : (s.chan ch).claim = some p) (he : s.tube? p = some e) (claimed : e.state = .claimed)
    (hold : e.preClaim = some old) (hb : s.openBracket ch = some b) :
    let back := if restriction then TubeState.restricted else old
    let t := s.endClaimAndRest ch restriction
    t.session = some (x.updTube p (fun u =>
        { u with preClaim := none, holder := none, state := back, changed := x.seconds
                 cause := if back = .retest then u.cause else none }) (x.counts.move .claimed back))
      ∧ t.store = { s.store with
          reservedSlots := s.store.reservedSlots - 1, reservedPages := s.store.reservedPages - 1171
          low := t.store.low }
      ∧ (t.chan ch).silent = { s.chan ch with
          state := if b.calDue.isSome then .due else .ready, claim := none, claimDue := none }.silent
      ∧ (t.chan ch).permit = t.permitNow ch
      ∧ ∀ k, k ≠ ch → t.chan k = s.chan k := by
  intro back t
  let s1 := s.moveTube p back fun t =>
    { t with preClaim := none, holder := none, cause := if back = .retest then t.cause else none }
  let s2 := s.endClaim ch restriction
  have ended : s2 = s1.unreserve.modChan ch fun c => { c with claim := none, claimDue := none } :=
    s.endClaim_eq ch restriction p e old hp he hold
  have rest : s2.restState ch = if b.calDue.isSome then .due else .ready :=
    s2.restState_of_bracket ch b ((State.openBracket_congr s s2 ch (by simp [s2])).trans hb)
  have moved : t = s2.moveChan ch (if b.calDue.isSome then .due else .ready) := by
    rw [← rest]
    rfl
  have chan2 : ∀ k, s1.unreserve.chan k = s.chan k := fun k => by simp [s1, State.chan]
  obtain ⟨chan, permit⟩ := s2.moveChan_chan ch (if b.calDue.isSome then .due else .ready)
  refine ⟨?_, ?_, ?_, ?_, fun k hk => ?_⟩
  · rw [moved, State.session_moveChan, ended, State.session_modChan, State.session_unreserve,
      ← claimed]
    exact congrArg State.session (s.moveTube_eq p back _ x e hx he)
  · have store : t.store = s1.unreserve.store := by
      rw [moved, State.store_moveChan, ended, State.store_modChan]
    rw [store]
    exact (State.store_unreserve s1).trans (by simp [s1])
  · rw [moved, chan, ended, State.chan_modChan_self, chan2]
  · rw [moved]
    exact permit
  · rw [moved, State.chan_moveChan_other _ _ _ _ hk, ended, State.chan_modChan_other _ _ _ _ hk, chan2]

/-- A time of the session clock has come (R191). -/
theorem State.reached_of_le (s : State) (x : Session) (d : Nat) (hx : s.session = some x)
    (h : d ≤ x.seconds) : s.reached (some d) = true := by
  simp [State.reached, State.time?, hx, h]

theorem execReleaseClaim_claimed (ch : Chan) (s : State) (up : s.probeUp ch)
    (claimed : (s.chan ch).state = .claimed) :
    execReleaseClaim ch s = .next ((s.hearProbe ch).endClaimAndRest ch false) := by
  refine (s.probeFrame_up ch _ up).trans ?_
  rw [State.chan_hearProbe_self, claimed]

theorem execAbandon_claimed (ch : Chan) (r : AbandonReason) (s : State) (up : s.probeUp ch)
    (claimed : (s.chan ch).state = .claimed) :
    execAbandon ch r s = .next ((s.hearProbe ch).endClaimAndRest ch (r == .restriction)) := by
  refine (s.probeFrame_up ch _ up).trans ?_
  unfold State.takeAbandon
  rw [State.chan_hearProbe_self, claimed]

theorem execClaimExpiry_due (ch : Chan) (s : State) (awake : s.awake)
    (claimed : (s.chan ch).state = .claimed) (due : s.reached (s.chan ch).claimDue = true) :
    execClaimExpiry ch s = .next (s.endClaimAndRest ch false) := by
  refine (s.act_awake _ awake).trans ?_
  rw [if_pos ⟨claimed, due⟩]
  rfl

/-- Settles O30: each of the three commands ends the claim and brings its channel to rest. -/
theorem claimEndsWithoutPull : Obligations.ClaimEndsWithoutPull := by
  intro ch p s x e old b c up hx claimed hp he tube hold hb how back
  have taken : ∃ ms restriction, exec c s = .next ((s.silentFor ch ms).endClaimAndRest ch restriction)
      ∧ back = if restriction then TubeState.restricted else old := by
    rcases how with rfl | ⟨r, rfl⟩ | ⟨rfl, d, due, past⟩
    · exact ⟨0, false, execReleaseClaim_claimed ch s up claimed, rfl⟩
    · refine ⟨0, r == .restriction, execAbandon_claimed ch r s up claimed, ?_⟩
      cases r <;> simp [back]
    · refine ⟨(s.chan ch).silenceMs, false, ?_, rfl⟩
      rw [s.silentFor_self]
      exact execClaimExpiry_due ch s up.1 claimed (due ▸ s.reached_of_le x d hx past)
  obtain ⟨ms, restriction, done, hback⟩ := taken
  obtain ⟨session, store, chan, permit, others⟩ := (s.silentFor ch ms).endClaimAndRest_does ch restriction p x e
    old b hx (by simpa using hp) he tube hold hb
  rw [← hback] at session
  refine ⟨_, done, session, store, ?_, ?_, ?_, permit, ?_, fun k hk =>
    (others k hk).trans (s.chan_silentFor_other ch k ms hk), ?_, ?_, ?_, ?_⟩
  · exact congrArg Channel.state chan
  · exact congrArg Channel.claim chan
  · exact congrArg Channel.claimDue chan
  · exact (congrArg Channel.identity chan).trans (by simp [Channel.silent])
  all_goals simp [State.endClaimAndRest, State.silentFor]

end Sys2Proof.Machine
end

section
namespace Sys2Proof.Machine

/-! What a release says of an act depends on the store alone. -/

theorem State.trav?_of_store (s t : State) (h : t.store = s.store) (id : Nat) : t.trav? id = s.trav? id := by
  simp [State.trav?, h]

theorem State.goesOrStays_congr (s s' t t' : State) (id : Nat) (tr : Traverse) (freed : Bool)
    (stays : Traverse → Prop) (hs : s'.store = s.store) (ht : t'.store = t.store)
    (h : s'.goesOrStays t' id tr freed stays) : s.goesOrStays t id tr freed stays := by
  cases s; cases s'; cases t; cases t'
  simp only at hs ht
  subst hs ht
  exact h

theorem State.releaseNews_congr (s s' t t' : State) (id : Nat) (tr : Traverse) (freed : Bool)
    (hs : s'.store = s.store) (ht : t'.store = t.store) :
    s'.releaseNews t' id tr freed = s.releaseNews t id tr freed := by
  cases s; cases s'; cases t; cases t'
  simp only at hs ht
  subst hs ht
  rfl

/-- What is said of an entry that stays may be said less fully. -/
theorem State.goesOrStays_imp (s t : State) (id : Nat) (tr : Traverse) (freed : Bool)
    (stays stays' : Traverse → Prop) (imp : ∀ u, stays u → stays' u)
    (h : s.goesOrStays t id tr freed stays) : s.goesOrStays t id tr freed stays' := by
  obtain ⟨others, reserved, goes, stay⟩ := h
  refine ⟨others, reserved, goes, fun hf => ?_⟩
  obtain ⟨pool, low, u, hu, hs⟩ := stay hf
  exact ⟨pool, low, u, hu, imp u hs⟩

/-- A release raises at most two events, none of them a TUBE_RETEST. -/
theorem State.length_releaseNews (s t : State) (id : Nat) (tr : Traverse) (freed : Bool) :
    (s.releaseNews t id tr freed).length ≤ 2 := by
  unfold State.releaseNews
  extract_lets v
  (repeat' split) <;> simp

@[simp] theorem State.releaseNews_false (s t : State) (id : Nat) (tr : Traverse) :
    s.releaseNews t id tr false = [] := rfl

/-! Moves of a tube, and what they raise. -/

/-- The entry of a tube that has moved. -/
theorem State.tube?_moveTube (s : State) (p : Pos) (new : TubeState) (f : TubeEntry → TubeEntry)
    (x : Session) (e : TubeEntry) (hx : s.session = some x) (he : s.tube? p = some e) :
    (s.moveTube p new f).tube? p = some { f e with pos := p, state := new, changed := x.seconds } := by
  have found : x.tubes.find? (fun t => t.pos == p) = some e := by
    simpa [State.tube?, State.tubes, hx] using he
  rw [s.moveTube_eq p new f x e hx he]
  simp only [State.tube?, State.tubes, Session.updTube, List.find?_map]
  have same : ((fun t : TubeEntry => t.pos == p) ∘ fun t : TubeEntry =>
      if t.pos = p then { f t with pos := t.pos, state := new, changed := x.seconds } else t)
      = fun t : TubeEntry => t.pos == p := by
    funext t
    by_cases ht : t.pos = p <;> simp [ht]
  rw [same, found, Option.map_some, if_pos (s.tube_pos p e he), s.tube_pos p e he]

theorem State.tube?_of_session (s t : State) (h : t.session = s.session) (p : Pos) :
    t.tube? p = s.tube? p := by
  simp [State.tube?, State.tubes, h]

/-- Settling raises what the release raises. -/
theorem State.raised_settle (s : State) (id : Nat) (tr : Traverse) (h : s.trav? id = some tr) :
    s.raised (s.settle id) (s.releaseNews (s.settle id) id tr tr.freedBySettling) := by
  refine ⟨(s.settle_goesOrStays id tr h).2, by simp, ?_, ?_⟩
  · exact State.mode_of_session _ _ (by simp)
  · exact State.time?_of_session _ _ (by simp)

/-- An id that names no live traverse is not settled. -/
theorem State.settle_of_none (s : State) (id : Nat) (h : s.trav? id = none) : s.settle id = s := by
  simp [State.settle, h]

/-- Any traverse but a COMPLETE one of an inspection is left by an invalidation (R73). -/
theorem State.invalidate_of_not (s : State) (id : Nat)
    (h : ∀ tr, s.trav? id = some tr → ¬(tr.state = .complete ∧ tr.target.kind = .inspection)) :
    s.invalidate id = s := by
  unfold State.invalidate
  cases ht : s.trav? id with
  | none => rfl
  | some tr => exact if_neg (h tr ht)

/-- An invalidation raises what the release raises. -/
theorem State.raised_invalidate (s : State) (id : Nat) (tr : Traverse) (h : s.trav? id = some tr)
    (hc : tr.state = .complete) (hk : tr.target.kind = .inspection) :
    s.raised (s.invalidate id) (s.releaseNews (s.invalidate id) id tr tr.freedBySettling) := by
  refine ⟨(s.invalidate_goesOrStays id tr h hc hk).2, by simp, ?_, ?_⟩
  · exact State.mode_of_session _ _ (by simp)
  · exact State.time?_of_session _ _ (by simp)

/-- TUBE_RETEST of a tube as it stands. -/
theorem State.raised_raiseRetest (s : State) (p : Pos) (e : TubeEntry) (cause : RetestCause)
    (he : s.tube? p = some e) (hc : e.cause = some cause) :
    s.raised (s.raiseRetest p) [.tubeRetest p cause e.attempts] := by
  unfold State.raiseRetest
  simp only [he, hc, Option.getD_some]
  exact s.raised_raise _

/-- The entry of a tube sent to RETEST (R32, R33, R36). -/
def TubeEntry.sentBack (u : TubeEntry) (cause : RetestCause) (reset : Bool) (time : Nat) : TubeEntry :=
  { u with primary := none, secondary := none, finalCall := none, cause := some cause
           attempts := if reset then 0 else u.attempts, state := .retest, changed := time }

/-- A tube sent to RETEST, said once (R32, R33, R36): the tube moves, the COMPLETE inspection traverse named
is invalidated, and TUBE_RETEST is raised last. -/
theorem State.retestTube_does (s : State) (p : Pos) (cause : RetestCause) (reset : Bool)
    (traverse : Option Nat) (x : Session) (e : TubeEntry) (hx : s.session = some x)
    (he : s.tube? p = some e) :
    let t := s.retestTube p cause reset traverse
    let told := Event.tubeRetest p cause (if reset then 0 else e.attempts)
    t.session = some (x.updTube p (·.sentBack cause reset x.seconds) (x.counts.move e.state .retest))
      ∧ (∀ id tr, traverse = some id → s.trav? id = some tr → tr.state = .complete →
          tr.target.kind = .inspection →
          s.goesOrStays t id tr tr.freedBySettling (fun v =>
            ∃ q, v = { tr with state := .invalidated, settled := true, releasePending := q } ∧ tr.settledTo v)
          ∧ s.raised t (s.releaseNews t id tr tr.freedBySettling ++ [told]))
      ∧ ((∀ id tr, traverse = some id → s.trav? id = some tr →
            ¬(tr.state = .complete ∧ tr.target.kind = .inspection)) →
          t.store = s.store ∧ s.raised t [told]) := by
  intro t told
  let s1 := s.moveTube p .retest fun t =>
    { t.dropCalls with cause := some cause, attempts := if reset then 0 else t.attempts }
  have store1 : s1.store = s.store := by simp [s1]
  have entry1 := s.tube?_moveTube p .retest (fun t =>
    { t.dropCalls with cause := some cause, attempts := if reset then 0 else t.attempts }) x e hx he
  have session1 : s1.session =
      some (x.updTube p (·.sentBack cause reset x.seconds) (x.counts.move e.state .retest)) :=
    congrArg State.session (s.moveTube_eq p .retest _ x e hx he)
  have raised1 : s.raised s1 [] := s.raised_moveTube _ _ _
  have lastTold : ∀ s2 : State, s2.session = s1.session → s2.raised (s2.raiseRetest p) [told] := by
    intro s2 h
    exact s2.raised_raiseRetest p _ cause ((State.tube?_of_session s1 s2 h p).trans entry1) rfl
  refine ⟨?_, fun id tr hid htr hc hk => ?_, fun no => ?_⟩
  · cases traverse with
    | none => exact (State.session_raiseRetest s1 p).trans session1
    | some id =>
      exact (State.session_raiseRetest (s1.invalidate id) p).trans
        ((State.session_invalidate s1 id).trans session1)
  · subst hid
    have htr1 : s1.trav? id = some tr := (State.trav?_of_store s s1 store1 id).trans htr
    have store_t : t.store = (s1.invalidate id).store := State.store_raiseRetest _ p
    obtain ⟨gone, _⟩ := s1.invalidate_goesOrStays id tr htr1 hc hk
    refine ⟨State.goesOrStays_congr s s1 t _ id tr _ _ store1 store_t.symm gone, ?_⟩
    have news := State.releaseNews_congr s s1 t (s1.invalidate id) id tr tr.freedBySettling store1 store_t.symm
    rw [← news]
    exact State.raised_after _ _ _ _ raised1 (State.raised_trans _ _ _ _ _
      (s1.raised_invalidate id tr htr1 hc hk) (lastTold _ (State.session_invalidate s1 id)))
  · have same : t = s1.raiseRetest p := by
      cases traverse with
      | none => rfl
      | some id =>
        have left : s1.invalidate id = s1 := s1.invalidate_of_not id fun tr htr =>
          no id tr rfl ((State.trav?_of_store s s1 store1 id).symm.trans htr)
        exact congrArg (State.raiseRetest · p) left
    rw [same]
    exact ⟨(State.store_raiseRetest s1 p).trans store1, State.raised_after _ _ _ _ raised1 (lastTold s1 rfl)⟩

/-- What a tube sent to RETEST tells: the news of the release, where there is one, and TUBE_RETEST last. -/
theorem State.retestTube_tells (s : State) (p : Pos) (cause : RetestCause) (reset : Bool)
    (id : Nat) (x : Session) (e : TubeEntry) (hx : s.session = some x) (he : s.tube? p = some e) :
    let t := s.retestTube p cause reset (some id)
    let set := fun tr : Traverse => tr.state = .complete ∧ tr.target.kind = .inspection
    ∃ before, s.raised t (before ++ [.tubeRetest p cause (if reset then 0 else e.attempts)])
      ∧ ((∀ tr, s.trav? id = some tr → ¬set tr) → before = [])
      ∧ ∀ tr, s.trav? id = some tr → set tr → before = s.releaseNews t id tr tr.freedBySettling := by
  intro t set
  obtain ⟨_, live, stays⟩ := s.retestTube_does p cause reset (some id) x e hx he
  by_cases h : ∃ tr, s.trav? id = some tr ∧ set tr
  · obtain ⟨tr, htr, hset⟩ := h
    refine ⟨_, (live id tr rfl htr hset.1 hset.2).2, fun no => absurd hset (no tr htr), fun tr' htr' _ => ?_⟩
    rw [htr, Option.some_inj] at htr'
    rw [htr']
  · have no : ∀ tr, s.trav? id = some tr → ¬set tr := fun tr htr hset => h ⟨tr, htr, hset⟩
    refine ⟨[], (stays fun id' tr hid htr => ?_).2, fun _ => rfl, fun tr htr hset => absurd hset (no tr htr)⟩
    cases hid
    exact no tr htr

/-! A final call (R33, R158, R162). -/

/-- The plug rule (R158): with a limit of at least 1, some entry reaches it. -/
theorem decidedState_eq (plug : Nat) (kind : CallKind) (entries : List CallEntry) (h : 1 ≤ plug) :
    decidedState plug kind entries =
      if kind = .indications ∧ (∃ v ∈ entries, plug ≤ v.depth) then .plugRecommended else .final := by
  have reaches : ∀ (l : List CallEntry) (d : Nat), plug ≤ l.foldl (fun d e => max d e.depth) d ↔
      plug ≤ d ∨ ∃ v ∈ l, plug ≤ v.depth := by
    intro l
    induction l with
    | nil => simp
    | cons v rest ih =>
      intro d
      simp only [List.foldl_cons, ih, le_max_iff, List.mem_cons, exists_eq_or_imp, or_assoc]
  have zero : ¬ plug ≤ 0 := by omega
  unfold decidedState greatestDepth
  simp only [reaches, zero, false_or]

/-- A final call stored, said once (R33, R158, R162): the tube moves, TUBE_FINAL is raised, and the traverse
of the call is settled. -/
theorem State.decideTube_does (s : State) (p : Pos) (call : Call) (x : Session) (e : TubeEntry)
    (hx : s.session = some x) (he : s.tube? p = some e) :
    let t := s.decideTube p call
    let new := decidedState x.plan.limits.plug call.kind call.entries
    let told := Event.tubeFinal p call.traverse new call.kind
      (if call.kind = .indications then some (greatestDepth call.entries) else none)
    t.session = some (x.updTube p (fun u => { u with finalCall := some call, state := new, changed := x.seconds })
        (x.counts.move e.state new))
      ∧ (s.trav? call.traverse = none → t.store = s.store ∧ s.raised t [told])
      ∧ ∀ tr, s.trav? call.traverse = some tr →
          s.goesOrStays t call.traverse tr tr.freedBySettling (fun v =>
            ∃ q, v = { tr with settled := true, releasePending := q } ∧ tr.settledTo v)
          ∧ s.raised t (told :: s.releaseNews t call.traverse tr tr.freedBySettling) := by
  intro t new told
  let s1 := s.moveTube p new fun t => { t with finalCall := some call }
  let s2 := s1.raise told
  have done : t = s2.settle call.traverse := by
    simp only [t, State.decideTube, s2, s1, told, new, State.limits, hx]
  have store2 : s2.store = s.store := by simp [s2, s1]
  have raised2 : s.raised s2 [told] := State.raised_after _ _ _ _ (s.raised_moveTube _ _ _) (s1.raised_raise told)
  refine ⟨?_, fun none => ?_, fun tr htr => ?_⟩
  · rw [done, State.session_settle, State.session_raise]
    exact congrArg State.session (s.moveTube_eq p new _ x e hx he)
  · rw [done, s2.settle_of_none _ ((State.trav?_of_store s s2 store2 _).trans none)]
    exact ⟨store2, raised2⟩
  · have htr2 : s2.trav? call.traverse = some tr := (State.trav?_of_store s s2 store2 _).trans htr
    obtain ⟨gone, _⟩ := s2.settle_goesOrStays call.traverse tr htr2
    have news := State.releaseNews_congr s s2 t _ call.traverse tr tr.freedBySettling store2
      (congrArg State.store done.symm)
    refine ⟨State.goesOrStays_congr s s2 t _ _ tr _ _ store2 (congrArg State.store done.symm) gone, ?_⟩
    rw [← news, done]
    exact State.raised_trans _ _ _ _ _ raised2 (s2.raised_settle call.traverse tr htr2)

/-- What a final call tells: TUBE_FINAL, and the news of the release where there is one. -/
theorem State.decideTube_tells (s : State) (p : Pos) (call : Call) (x : Session) (e : TubeEntry)
    (hx : s.session = some x) (he : s.tube? p = some e) :
    ∃ after, s.raised (s.decideTube p call) (.tubeFinal p call.traverse
        (decidedState x.plan.limits.plug call.kind call.entries) call.kind
        (if call.kind = .indications then some (greatestDepth call.entries) else none) :: after)
      ∧ (s.trav? call.traverse = none → after = [])
      ∧ ∀ tr, s.trav? call.traverse = some tr →
          after = s.releaseNews (s.decideTube p call) call.traverse tr tr.freedBySettling := by
  obtain ⟨_, gone, live⟩ := s.decideTube_does p call x e hx he
  cases ht : s.trav? call.traverse with
  | none => exact ⟨[], (gone ht).2, fun _ => rfl, by simp⟩
  | some tr =>
    refine ⟨_, (live tr ht).2, by simp, fun tr' htr' => ?_⟩
    rw [Option.some_inj] at htr'
    rw [htr']

end Sys2Proof.Machine
end

section
namespace Sys2Proof.Machine

/-! The end of a comparison (R33, R156 to R160). -/

/-- The comparison found at a position is of that position. -/
theorem State.comparison_pos (s : State) (p : Pos) (c : Comparison) (h : s.comparison? p = some c) :
    c.pos = p := by
  simpa using List.find?_some h

theorem execComparisonEnd_awake (p : Pos) (s : State) (c : Comparison) (awake : s.awake)
    (h : s.comparison? p = some c) :
    execComparisonEnd p.row p.col s = .next ((s.dropComparison p).applyOutcome c) := by
  refine (s.act_awake _ awake).trans ?_
  have found : s.comparison? ⟨p.row, p.col⟩ = some c := h
  simp only [found, s.comparison_pos p c h]

/-- The outcome is discarded where the tube is no longer ACQUIRED on the compared traverse (R160). -/
theorem State.applyOutcome_discarded (s : State) (c : Comparison) (e : TubeEntry)
    (he : s.tube? c.pos = some e) (h : ¬(e.state = .acquired ∧ e.traverse = some c.traverse)) :
    s.applyOutcome c = s := by
  simp only [State.applyOutcome, he, if_neg h]

/-- The outcome applied, by its kind (R157 to R159). -/
theorem State.applyOutcome_taken (s : State) (c : Comparison) (e : TubeEntry) (x : Session)
    (hx : s.session = some x) (he : s.tube? c.pos = some e)
    (h : e.state = .acquired ∧ e.traverse = some c.traverse) :
    s.applyOutcome c = match c.outcome with
      | .agreement kind es => s.decideTube c.pos ⟨kind, es, .agreement, x.seconds, c.traverse⟩
      | .disagreement d => (s.moveTube c.pos .resolution id).raise (.tubeResolution c.pos c.traverse d)
      | .bothRetest => s.retestTube c.pos .bothRetest false (some c.traverse) := by
  have time : s.time = x.seconds := by simp [State.time, State.time?, hx]
  simp only [State.applyOutcome, he, if_pos h, time] <;> rfl

/-- The greatest depth of a list of entries, as a fold over the depths. -/
theorem greatestDepth_eq (es : List CallEntry) : greatestDepth es = (es.map (·.depth)).foldl max 0 := by
  rw [List.foldl_map]
  rfl

/-- Settles O46: the comparison leaves the list, and then the outcome is discarded or applied by its kind. -/
theorem comparisonEndAppliesTheOutcome : Obligations.ComparisonEndAppliesTheOutcome := by
  intro p s x c e awake hx hc he left
  have pos := s.comparison_pos p c hc
  let u := s.dropComparison p
  have taken : exec (.comparisonEnd p.row p.col) s = .next (u.applyOutcome c) :=
    execComparisonEnd_awake p s c awake hc
  have quiet : s.raised u [] := s.raised_of_eq u rfl rfl rfl
  refine ⟨fun no => ?_, fun acquired same => ⟨_, taken, ?_⟩⟩
  · rw [taken, u.applyOutcome_discarded c e (pos ▸ he) no]
    rfl
  have applied := u.applyOutcome_taken c e x hx (pos ▸ he) ⟨acquired, same⟩
  rw [pos] at applied
  refine ⟨?_, ?_, ?_, ?_, fun kind es agreed => ?_, fun d differ => ?_, fun both => ?_⟩
  · rw [applied]
    split <;> simp [u, State.dropComparison, left]
  · rw [applied]
    split <;> simp [u, State.dropComparison]
  · rw [applied]
    split <;> simp [u, State.dropComparison]
  · rw [applied]
    split <;> simp [u, State.dropComparison]
  · intro new
    rw [agreed] at applied
    simp only at applied
    rw [applied]
    let call : Call := ⟨kind, es, .agreement, x.seconds, c.traverse⟩
    obtain ⟨session, gone, live⟩ := u.decideTube_does p call x e hx he
    obtain ⟨after, news, silent, tells⟩ := u.decideTube_tells p call x e hx he
    refine ⟨fun plug => ?_, fun none => (gone none).1, fun tr htr => ?_⟩
    · have state : decidedState x.plan.limits.plug kind es = new := decidedState_eq _ _ _ plug
      rw [state, greatestDepth_eq] at news
      rw [state, acquired] at session
      exact ⟨session, after, (State.raised_after _ _ _ _ quiet news).1, silent, tells⟩
    · refine State.goesOrStays_imp _ _ _ _ _ _ _ ?_ (live tr htr).1
      rintro v ⟨q, rfl, settled⟩
      exact ⟨rfl, settled⟩
  · rw [differ] at applied
    simp only at applied
    rw [applied]
    have moved := u.moveTube_eq p .resolution id x e hx he
    refine ⟨?_, by simp [u, State.dropComparison], ?_⟩
    · rw [State.session_raise, moved, acquired]
      rfl
    · exact (State.raised_after _ _ _ _ quiet (State.raised_after _ _ _ _
        (u.raised_moveTube p .resolution id) (State.raised_raise _ _))).1
  · rw [both] at applied
    simp only at applied
    rw [applied]
    obtain ⟨session, live, stays⟩ := u.retestTube_does p .bothRetest false (some c.traverse) x e hx he
    rw [acquired] at session
    refine ⟨session, fun tr htr hset => ?_, fun no => ?_, ?_⟩
    · obtain ⟨goes, _⟩ := live c.traverse tr rfl htr hset.1 hset.2
      refine State.goesOrStays_imp _ _ _ _ _ _ _ ?_ goes
      rintro v ⟨q, rfl, settled⟩
      exact ⟨rfl, settled⟩
    · refine (stays fun id tr hid htr => ?_).1
      cases hid
      exact no tr htr
    · obtain ⟨before, news, silent, tells⟩ := u.retestTube_tells p .bothRetest false c.traverse x e hx he
      exact ⟨before, (State.raised_after _ _ _ _ quiet news).1.trans
        (congrArg State.stations (s.raiseAll_append _ _)), silent, fun tr htr hset => tells tr htr hset⟩

end Sys2Proof.Machine
end

section
namespace Sys2Proof.Machine

/-! Brackets (R132 to R141). -/

/-- A bracket that is changed, and not renumbered, is found changed. -/
theorem State.bracket?_modBracket (s : State) (n m : Nat) (f : Bracket → Bracket)
    (keep : ∀ b, (f b).number = b.number) :
    (s.modBracket n f).bracket? m = (s.bracket? m).map fun b => if b.number = n then f b else b := by
  have same : ((fun b : Bracket => b.number == m) ∘ fun b => if b.number = n then f b else b)
      = fun b => b.number == m := by
    funext b
    by_cases h : b.number = n <;> simp [h, keep]
  simp only [State.bracket?, State.modBracket, State.modCal, List.find?_map, same]

theorem State.bracket_number (s : State) (n : Nat) (b : Bracket) (h : s.bracket? n = some b) :
    b.number = n := by
  simpa using List.find?_some h

/-- The bracket that is changed. -/
theorem State.bracket?_modBracket_self (s : State) (n : Nat) (f : Bracket → Bracket) (b : Bracket)
    (keep : ∀ b, (f b).number = b.number) (hb : s.bracket? n = some b) :
    (s.modBracket n f).bracket? n = some (f b) := by
  rw [s.bracket?_modBracket n n f keep, hb, Option.map_some, if_pos (s.bracket_number n b hb)]

/-- The open bracket of a channel, where a change leaves numbers, channels and states. -/
theorem State.openBracket_modBracket (s : State) (n : Nat) (ch : Chan) (f : Bracket → Bracket)
    (channel : ∀ b, (f b).channel = b.channel) (state : ∀ b, (f b).state = b.state) :
    (s.modBracket n f).openBracket ch =
      (s.openBracket ch).map fun b => if b.number = n then f b else b := by
  have same : ((fun b : Bracket => decide (b.channel = ch ∧ b.state = .opened)) ∘
      fun b => if b.number = n then f b else b) = fun b => decide (b.channel = ch ∧ b.state = .opened) := by
    funext b
    by_cases h : b.number = n <;> simp [h, channel, state]
  simp only [State.openBracket, State.modBracket, State.modCal, List.find?_map, same]

theorem State.openBracket_spec (s : State) (ch : Chan) (b : Bracket) (h : s.openBracket ch = some b) :
    b ∈ s.cal.brackets ∧ b.channel = ch ∧ b.state = .opened :=
  ⟨List.mem_of_find?_eq_some h, by simpa using List.find?_some h⟩

/-- Brackets bear different numbers (R132). -/
theorem State.bracket_unique (s : State) (law : s.calLaw) (b c : Bracket) (hb : b ∈ s.cal.brackets)
    (hc : c ∈ s.cal.brackets) (h : b.number = c.number) : b = c := by
  obtain ⟨numbers, same, _⟩ := law
  have nodup : (s.cal.brackets.map (·.number)).Nodup := by
    rw [same, numbers]
    exact List.nodup_range'
  exact List.inj_on_of_nodup_map nodup hb hc h

/-- A change of one channel's open bracket leaves those of the others. -/
theorem State.openBracket_modBracket_other (s : State) (ch k : Chan) (b : Bracket) (f : Bracket → Bracket)
    (law : s.calLaw) (hb : s.openBracket ch = some b) (hk : k ≠ ch)
    (channel : ∀ b, (f b).channel = b.channel) (state : ∀ b, (f b).state = b.state) :
    (s.modBracket b.number f).openBracket k = s.openBracket k := by
  obtain ⟨mem, chan, _⟩ := s.openBracket_spec ch b hb
  rw [s.openBracket_modBracket _ _ f channel state]
  cases hc : s.openBracket k with
  | none => rfl
  | some c =>
    obtain ⟨memc, chanc, _⟩ := s.openBracket_spec k c hc
    have differ : c.number ≠ b.number := fun h =>
      hk (chanc.symm.trans ((congrArg _ (s.bracket_unique law c b memc mem h)).trans chan))
    rw [Option.map_some, if_neg differ]

theorem State.raised_modBracket (s : State) (n : Nat) (f : Bracket → Bracket) :
    s.raised (s.modBracket n f) [] := s.raised_of_eq _ rfl rfl rfl

/-! The cal_due flag (R49, R135). -/

/-- A flag that is not set is set, and a READY channel enters DUE. -/
theorem State.setCalDue_does (s : State) (ch : Chan) (cause : CalDue) (b : Bracket) (law : s.calLaw)
    (hb : s.openBracket ch = some b) (clear : b.calDue = none) :
    let t := s.setCalDue ch cause
    t.openBracket ch = some { b with calDue := some cause }
      ∧ (t.chan ch).state = (if (s.chan ch).state = .ready then .due else (s.chan ch).state)
      ∧ ((s.chan ch).state ≠ .ready → t.chan ch = s.chan ch)
      ∧ (∀ k, k ≠ ch → t.chan k = s.chan k ∧ t.openBracket k = s.openBracket k) := by
  intro t
  let s1 := s.modBracket b.number fun b => { b with calDue := some cause }
  have same : ∀ k, s1.chan k = s.chan k := fun _ => rfl
  have opened : s1.openBracket ch = some { b with calDue := some cause } := by
    refine (s.openBracket_modBracket b.number ch (fun b => { b with calDue := some cause })
      (fun _ => rfl) (fun _ => rfl)).trans ?_
    rw [hb, Option.map_some, if_pos rfl]
  have others : ∀ k, k ≠ ch → s1.openBracket k = s.openBracket k := fun k hk =>
    s.openBracket_modBracket_other ch k b _ law hb hk (fun _ => rfl) (fun _ => rfl)
  have done : t = if (s.chan ch).state = .ready then s1.moveChan ch .due else s1 := by
    simp only [t, State.setCalDue, hb, clear]
    rfl
  rw [done]
  split
  · next ready =>
    have kept : ∀ k, (s1.moveChan ch .due).openBracket k = s1.openBracket k := fun k =>
      State.openBracket_congr _ _ k (by simp)
    refine ⟨(kept ch).trans opened, ?_, fun no => absurd ready no, fun k hk =>
      ⟨State.chan_moveChan_other _ _ _ _ hk, (kept k).trans (others k hk)⟩⟩
    exact congrArg Channel.state (s1.moveChan_chan ch .due).1
  · exact ⟨opened, rfl, fun _ => rfl, fun k hk => ⟨same k, others k hk⟩⟩

theorem execBracketAgeLimit_due (ch : Chan) (s : State) (x : Session) (b : Bracket) (awake : s.awake)
    (hx : s.session = some x) (hb : s.openBracket ch = some b) (clear : b.calDue = none)
    (due : b.openedAt + x.plan.limits.interval * 3600 ≤ x.seconds) :
    execBracketAgeLimit ch s = .next (s.setCalDue ch .age) := by
  have time : s.ageDue ch = some (b.openedAt + x.plan.limits.interval * 3600) := by
    simp [State.ageDue, hb, clear, Bracket.ageDue, State.limits, hx]
  refine (s.act_awake _ awake).trans ?_
  rw [time, if_pos (s.reached_of_le x _ hx due)]

/-! Sweeps (R139 to R141). -/

/-- The bracket of a running sweep when its dead traverses have left the list: DONE with none left, and
BRACKET_CLOSED is raised. -/
theorem State.settleSweep_does (s : State) (n : Nat) (b : Bracket) (hb : s.bracket? n = some b)
    (running : b.sweep = .running) :
    let t := s.settleSweep n
    ∃ b', t.bracket? n = some b' ∧ b'.state = b.state ∧ b'.retests = b.retests
      ∧ ((∀ r ∈ b.toPresent, s.trav? r = none) → b'.sweep = .done)
      ∧ ((∃ r ∈ b.toPresent, s.trav? r ≠ none) → b'.sweep = .running ∧ b'.toPresent <:+ b.toPresent)
      ∧ s.raised t (if b.toPresent.all fun r => (s.trav? r).isNone then
          [.bracketClosed b.channel n (b.state == .closedGood) (b.retests.getD 0)] else []) := by
  intro t
  have unfolded : t = match s.sweepLeft b with
      | [] => (s.modBracket n fun b => { b with sweep := .done, toPresent := [] }).raise
          (.bracketClosed b.channel n (b.state == .closedGood) (b.retests.getD 0))
      | left => s.modBracket n fun b => { b with toPresent := left } := by
    simp only [t, State.settleSweep, hb, if_pos running] <;> rfl
  by_cases dead : ∀ r ∈ b.toPresent, s.trav? r = none
  · have none_left : s.sweepLeft b = [] := List.dropWhile_eq_nil_iff.2 fun r hr => by simp [dead r hr]
    have all : (b.toPresent.all fun r => (s.trav? r).isNone) = true := by simpa using dead
    rw [none_left] at unfolded
    rw [if_pos all, unfolded]
    refine ⟨{ b with sweep := .done, toPresent := [] }, ?_, rfl, rfl, fun _ => rfl, ?_, ?_⟩
    · exact s.bracket?_modBracket_self n _ b (fun _ => rfl) hb
    · rintro ⟨r, hr, live⟩
      exact absurd (dead r hr) live
    · exact State.raised_after _ _ _ _ (s.raised_modBracket _ _) (State.raised_raise _ _)
  · have all : ¬(b.toPresent.all fun r => (s.trav? r).isNone) = true := by simpa using dead
    have some_left : s.sweepLeft b ≠ [] := fun h => all <| by
      simpa using List.dropWhile_eq_nil_iff.1 h
    obtain ⟨r, left, hleft⟩ := List.exists_cons_of_ne_nil some_left
    have suffix : r :: left <:+ b.toPresent := hleft ▸ List.dropWhile_suffix _
    rw [hleft] at unfolded
    rw [if_neg all, unfolded]
    refine ⟨{ b with toPresent := r :: left }, ?_, rfl, rfl, fun h => absurd h dead,
      fun _ => ⟨running, suffix⟩, s.raised_modBracket _ _⟩
    exact s.bracket?_modBracket_self n _ b (fun _ => rfl) hb

/-- A step of a running sweep whose next traverse is live presents that traverse. -/
theorem State.sweepStep_presents (s : State) (n id : Nat) (rest : List Nat) (present : State → Nat → State)
    (b : Bracket) (tr : Traverse) (hb : s.bracket? n = some b) (running : b.sweep = .running)
    (left : b.toPresent = id :: rest) (htr : s.trav? id = some tr) :
    s.sweepStep n b.state present =
      (present (s.modBracket n fun b => { b with toPresent := rest }) id).settleSweep n := by
  have next : s.sweepLeft b = id :: rest := by simp [State.sweepLeft, left, htr]
  simp only [State.sweepStep, hb, next]
  exact if_pos ⟨running, trivial⟩

/-- What is presented of the traverse of a tube (R139). -/
theorem State.presented_eq (s : State) (id : Nat) (tr : Traverse) (p : Pos) (e : TubeEntry)
    (htr : s.trav? id = some tr) (target : tr.target = .tube p) (he : s.tube? p = some e) :
    s.presented id = if e.state = .acquired ∧ e.traverse = some id then some tr else none := by
  simp only [State.presented, htr, target, he]

end Sys2Proof.Machine
end

section
namespace Sys2Proof.Machine

/-! The presentations of a sweep (R140, R141). -/

/-- A change that leaves numbers and states leaves what may be compared. -/
theorem State.comparable_modBracket (s : State) (n : Nat) (f : Bracket → Bracket) (e : TubeEntry)
    (number : ∀ b, (f b).number = b.number) (state : ∀ b, (f b).state = b.state) :
    (s.modBracket n f).comparable e = s.comparable e := by
  have same : (s.modBracket n f).bracketState? e = s.bracketState? e := by
    have one : ∀ m, ((s.modBracket n f).bracket? m).map (·.state) = (s.bracket? m).map (·.state) := by
      intro m
      rw [s.bracket?_modBracket n m f number]
      cases s.bracket? m with
      | none => rfl
      | some b => by_cases h : b.number = n <;> simp [h, state]
    unfold State.bracketState?
    cases e.bracket with
    | none => rfl
    | some m => exact one m
  have second : (s.modBracket n f).secondCall e = s.secondCall e := rfl
  unfold State.comparable
  rw [same, second]
  rfl

/-- A hand-over of a CLOSED_GOOD sweep adds to the comparisons, and to nothing else (R140). -/
theorem State.presentGood_eq (s : State) (id : Nat) (tr : Traverse) (p : Pos) (e : TubeEntry)
    (htr : s.trav? id = some tr) (target : tr.target = .tube p) (he : s.tube? p = some e) :
    s.presentGood id = { s with comparisons := s.comparisons ++
      if e.state = .acquired ∧ e.traverse = some id ∧ tr.state = .complete ∧ s.comparison? p = none
        then (s.comparable e).toList else [] } := by
  unfold State.presentGood
  rw [s.presented_eq id tr p e htr target he]
  by_cases waiting : e.state = .acquired ∧ e.traverse = some id
  · obtain ⟨acquired, same⟩ := waiting
    rw [if_pos ⟨acquired, same⟩]
    simp only [target, acquired, same, true_and]
    by_cases complete : tr.state = .complete
    · simp only [complete, if_true, true_and, State.testComparison, he]
      cases hc : s.comparison? p <;> cases hn : s.comparable e <;> simp [State.beginComparison]
    · simp [complete]
  · have no : ¬(e.state = .acquired ∧ e.traverse = some id ∧ tr.state = .complete ∧ s.comparison? p = none) :=
      fun h => waiting ⟨h.1, h.2.1⟩
    rw [if_neg waiting, if_neg no]
    simp

/-- A presentation of a CLOSED_FAIL sweep (R141): the retest, counted, or nothing. -/
theorem State.presentFail_eq (s : State) (n id : Nat) (tr : Traverse) (p : Pos) (e : TubeEntry)
    (htr : s.trav? id = some tr) (target : tr.target = .tube p) (he : s.tube? p = some e) :
    s.presentFail n id = if e.state = .acquired ∧ e.traverse = some id then
      (s.retestTube p .bracketFail false (some id)).modBracket n fun b =>
        { b with retests := some (b.retests.getD 0 + 1) } else s := by
  unfold State.presentFail
  rw [s.presented_eq id tr p e htr target he]
  by_cases waiting : e.state = .acquired ∧ e.traverse = some id
  · rw [if_pos waiting, if_pos waiting]
    simp only [target]
  · rw [if_neg waiting, if_neg waiting]

/-- What a presentation of a CLOSED_FAIL sweep does to the bracket, the tube, the store and the events. -/
theorem State.presentFail_does (s : State) (n id : Nat) (x : Session) (b : Bracket) (tr : Traverse) (p : Pos)
    (e : TubeEntry) (hx : s.session = some x) (hb : s.bracket? n = some b) (htr : s.trav? id = some tr)
    (target : tr.target = .tube p) (he : s.tube? p = some e) :
    let t := s.presentFail n id
    let moved := e.state = .acquired ∧ e.traverse = some id
    let freed := decide (tr.state = .complete) && tr.freedBySettling
    t.bracket? n = some { b with retests := if moved then some (b.retests.getD 0 + 1) else b.retests }
      ∧ (moved →
          t.session = some (x.updTube p (·.sentBack .bracketFail false x.seconds)
            (x.counts.move .acquired .retest))
          ∧ (tr.state = .complete → s.goesOrStays t id tr freed (fun u =>
              u.state = .invalidated ∧ u.endTime = tr.endTime ∧ u.pages = tr.pages ∧ tr.settledTo u))
          ∧ (tr.state ≠ .complete → t.store = s.store))
      ∧ (¬moved → t.session = s.session ∧ t.store = s.store)
      ∧ s.raised t (if moved then
          s.releaseNews t id tr freed ++ [.tubeRetest p .bracketFail e.attempts] else []) := by
  intro t moved freed
  have presented : t = if moved then (s.retestTube p .bracketFail false (some id)).modBracket n fun b =>
      { b with retests := some (b.retests.getD 0 + 1) } else s := s.presentFail_eq n id tr p e htr target he
  by_cases waiting : moved
  · rw [if_pos waiting] at presented
    let r := s.retestTube p .bracketFail false (some id)
    obtain ⟨session, live, stays⟩ := s.retestTube_does p .bracketFail false (some id) x e hx he
    rw [waiting.1] at session
    have kind : tr.target.kind = .inspection := by rw [target]; rfl
    have found : r.bracket? n = some b := by
      rw [← hb]
      simp only [State.bracket?, r, State.cal_retestTube]
    have quiet : r.raised t [] := presented ▸ r.raised_modBracket _ _
    have store : t.store = r.store := presented ▸ r.store_modBracket _ _
    have other : tr.state ≠ .complete → ∀ id' tr', some id = some id' → s.trav? id' = some tr' →
        ¬(tr'.state = .complete ∧ tr'.target.kind = .inspection) := by
      rintro no id' tr' ⟨⟩ htr' ⟨complete, _⟩
      rw [htr, Option.some_inj] at htr'
      exact no (htr' ▸ complete)
    refine ⟨?_, fun _ => ⟨?_, fun complete => ?_, fun no => ?_⟩, fun no => absurd waiting no, ?_⟩
    · rw [if_pos waiting, presented]
      exact r.bracket?_modBracket_self n (fun b => { b with retests := some (b.retests.getD 0 + 1) }) b
        (fun _ => rfl) found
    · rw [presented]
      exact session
    · obtain ⟨goes, _⟩ := live id tr rfl htr complete kind
      have freed_eq : freed = tr.freedBySettling := by simp [freed, complete]
      rw [freed_eq]
      refine State.goesOrStays_congr s s t r id tr _ _ rfl store.symm
        (State.goesOrStays_imp _ _ _ _ _ _ _ ?_ goes)
      rintro v ⟨q, rfl, settled⟩
      exact ⟨rfl, rfl, rfl, settled⟩
    · exact store.trans (stays (other no)).1
    · rw [if_pos waiting]
      refine State.raised_before _ _ _ _ ?_ quiet
      by_cases complete : tr.state = .complete
      · have freed_eq : freed = tr.freedBySettling := by simp [freed, complete]
        rw [freed_eq, State.releaseNews_congr s s t r id tr _ rfl store.symm |>.symm]
        exact (live id tr rfl htr complete kind).2
      · have freed_eq : freed = false := by simp [freed, complete]
        rw [freed_eq, State.releaseNews_false]
        exact (stays (other complete)).2
  · rw [if_neg waiting] at presented
    rw [if_neg waiting, if_neg waiting, presented]
    exact ⟨hb, fun h => absurd h waiting, fun _ => ⟨rfl, rfl⟩, s.raised_refl⟩

theorem State.trav?_settleSweep (s : State) (n id : Nat) : (s.settleSweep n).trav? id = s.trav? id :=
  State.trav?_of_store _ _ (by simp) id

/-- A presentation of a running CLOSED_FAIL sweep. -/
theorem execClosedFailPresentation_running (n id : Nat) (rest : List Nat) (s : State) (b : Bracket)
    (tr : Traverse) (awake : s.awake) (hb : s.bracket? n = some b) (running : b.sweep = .running)
    (fail : b.state = .closedFail) (left : b.toPresent = id :: rest) (htr : s.trav? id = some tr) :
    execClosedFailPresentation n s = .next
      (((s.modBracket n fun b => { b with toPresent := rest }).presentFail n id).settleSweep n) := by
  refine (s.act_awake _ awake).trans (congrArg _ ?_)
  rw [← fail]
  exact s.sweepStep_presents n id rest (fun s id => s.presentFail n id) b tr hb running left htr

/-- A hand-over of a running CLOSED_GOOD sweep. -/
theorem execClosedGoodHandover_running (n id : Nat) (rest : List Nat) (s : State) (b : Bracket)
    (tr : Traverse) (awake : s.awake) (hb : s.bracket? n = some b) (running : b.sweep = .running)
    (good : b.state = .closedGood) (left : b.toPresent = id :: rest) (htr : s.trav? id = some tr) :
    execClosedGoodHandover n s = .next
      (((s.modBracket n fun b => { b with toPresent := rest }).presentGood id).settleSweep n) := by
  refine (s.act_awake _ awake).trans (congrArg _ ?_)
  rw [← good]
  exact s.sweepStep_presents n id rest State.presentGood b tr hb running left htr

/-- Settles O45: the flag of the age limit, a presentation that retests, and a presentation that hands over. -/
theorem sweepsPresentInTurn : Obligations.SweepsPresentInTurn := by
  refine ⟨fun ch s x b awake hx law hb clear due => ?_,
    fun n id rest s x b tr p e awake hx hb running fail left htr target he => ?_,
    fun n id rest s b tr p e awake hb running good left htr target he => ?_⟩
  · obtain ⟨opened, state, _, others⟩ := s.setCalDue_does ch .age b law hb clear
    exact ⟨_, execBracketAgeLimit_due ch s x b awake hx hb clear due, opened, state, others,
      by simp, by simp, by simp⟩
  · intro moved freed
    let s1 := s.modBracket n fun b => { b with toPresent := rest }
    let s2 := s1.presentFail n id
    have found : s1.bracket? n = some { b with toPresent := rest } :=
      s.bracket?_modBracket_self n (fun b => { b with toPresent := rest }) b (fun _ => rfl) hb
    obtain ⟨found2, moves, stays, told⟩ := s1.presentFail_does n id x _ tr p e hx found htr target he
    obtain ⟨b', hb', state, retests, done, more, closed⟩ := s2.settleSweep_does n _ found2 running
    have trav : ∀ r, (s2.settleSweep n).trav? r = s2.trav? r := s2.trav?_settleSweep n
    have store : (s2.settleSweep n).store = s2.store := s2.store_settleSweep n
    refine ⟨_, b', execClosedFailPresentation_running n id rest s b tr awake hb running fail left htr, hb',
      state.trans fail, ?_, ?_, fun hm => ?_, fun hm => ?_, ?_, ?_, ?_, ?_⟩
    · exact fun dead => done fun r hr => (trav r).symm.trans (dead r hr)
    · exact fun ⟨r, hr, live⟩ => more ⟨r, hr, fun dead => live ((trav r).trans dead)⟩
    · obtain ⟨session, goes, same⟩ := moves hm
      refine ⟨(s2.session_settleSweep n).trans session, ?_, fun complete => ?_, fun no => store.trans (same no)⟩
      · rw [retests, if_pos hm]
      · exact State.goesOrStays_congr s s1 _ s2 id tr _ _ rfl store.symm (goes complete)
    · obtain ⟨session, same⟩ := stays hm
      refine ⟨(s2.session_settleSweep n).trans session, store.trans same, ?_⟩
      rw [retests, if_neg hm]
    · have news : s.releaseNews (s2.settleSweep n) id tr freed = s1.releaseNews s2 id tr freed :=
        (State.releaseNews_congr s s1 _ s2 id tr freed rfl store.symm).symm
      have all : (fun r => ((s2.settleSweep n).trav? r).isNone) = fun r => (s2.trav? r).isNone :=
        funext fun r => by rw [trav]
      rw [fail] at closed
      rw [news, all, retests]
      exact (State.raised_after _ _ _ _ (s.raised_modBracket n _) (State.raised_trans _ _ _ _ _ told closed)).1
    all_goals simp
  · let s1 := s.modBracket n fun b => { b with toPresent := rest }
    let s2 := s1.presentGood id
    have found : s1.bracket? n = some { b with toPresent := rest } :=
      s.bracket?_modBracket_self n (fun b => { b with toPresent := rest }) b (fun _ => rfl) hb
    have handed := s1.presentGood_eq id tr p e htr target he
    have found2 : s2.bracket? n = some { b with toPresent := rest } := by
      rw [← found]
      exact (congrArg (State.bracket? · n) handed :)
    obtain ⟨b', hb', state, retests, done, more, closed⟩ := s2.settleSweep_does n _ found2 running
    have trav : ∀ r, s2.trav? r = s.trav? r := fun r =>
      State.trav?_of_store s s2 (congrArg State.store handed :) r
    have same : s1.comparable e = s.comparable e :=
      s.comparable_modBracket n _ e (fun _ => rfl) (fun _ => rfl)
    refine ⟨_, b', execClosedGoodHandover_running n id rest s b tr awake hb running good left htr, hb',
      state.trans good, fun dead => done fun r hr => (trav r).trans (dead r hr),
      fun ⟨r, hr, live⟩ => more ⟨r, hr, fun dead => live ((trav r).symm.trans dead)⟩, ?_, retests, ?_, ?_, ?_, ?_, ?_⟩
    · rw [State.comparisons_settleSweep, ← same]
      exact congrArg State.comparisons handed
    · have all : (fun r => (s2.trav? r).isNone) = fun r => (s.trav? r).isNone := funext fun r => by rw [trav]
      rw [good, all] at closed
      have quiet : s.raised s2 [] := by
        rw [show s2 = _ from handed]
        exact s.raised_of_eq _ rfl rfl rfl
      exact (State.raised_after _ _ _ _ quiet closed).1
    · exact (s2.session_settleSweep n).trans (congrArg State.session handed :)
    · exact (s2.store_settleSweep n).trans (congrArg State.store handed :)
    · exact (s2.channels_settleSweep n).trans (congrArg State.channels handed :)
    · exact (s2.log_settleSweep n).trans (congrArg (fun u : State => u.cal.log) handed :)

end Sys2Proof.Machine
end

section
namespace Sys2Proof.Machine

/-! Decisions of the lead (R34 to R36, R161, R162). -/

/-- Events are heard alike while a request is in hand. -/
theorem State.raise_begun (s : State) (st : Stn) (e : Event) : (s.begun st).raise e = (s.raise e).begun st := by
  have hear : ∀ (x : StationLink) ready mode r,
      StationLink.hear { x with inHand := true } ready mode r = { x.hear ready mode r with inHand := true } := by
    intro x ready mode r
    unfold StationLink.hear StationLink.offer
    (repeat' split) <;> simp_all
  match st with
  | 0 => simp only [State.raise, State.begun, Three.get, Three.set, hear]; rfl
  | 1 => simp only [State.raise, State.begun, Three.get, Three.set, hear]; rfl
  | 2 => simp only [State.raise, State.begun, Three.get, Three.set, hear]; rfl

theorem State.raiseAll_begun (s : State) (st : Stn) (es : List Event) :
    (s.begun st).raiseAll es = (s.raiseAll es).begun st := by
  unfold State.raiseAll
  induction es generalizing s with
  | nil => rfl
  | cons e es ih => rw [List.foldl_cons, List.foldl_cons, s.raise_begun, ih]

/-- What the stations hold after an act on a begun state and its answer. -/
theorem State.stations_of_raised_begun (s t : State) (st : Stn) (es : List Event) (tag name : Nat)
    (r : Status) (c : Content) (h : (s.begun st).raised t es) :
    (t.answered st tag name r c).stations =
      (((s.raiseAll es).begun st).answered st tag name r c).stations := by
  refine State.stations_answered_congr _ _ st tag name r c ?_
  rw [← s.raiseAll_begun]
  exact h.1

/-- The check of a request of the lead on a tube: a session, then the tube (R34, R35). -/
theorem State.withSession_withTube (s : State) (p : Pos) (body : TubeEntry → State × Reply) :
    (s.session = none → (s.withSession fun _ => s.withTube p body) = (s, .refuse .noSession))
      ∧ (s.session ≠ none → s.tube? p = none →
          (s.withSession fun _ => s.withTube p body) = (s, .refuse .noSuchTube))
      ∧ ∀ x e, s.session = some x → s.tube? p = some e →
          (s.withSession fun _ => s.withTube p body) = body e := by
  refine ⟨s.withSession_none _, fun opened none => ?_, fun x e hx he => ?_⟩
  · obtain ⟨x, hx⟩ := Option.ne_none_iff_exists'.1 opened
    rw [s.withSession_some _ x hx, s.withTube_none p body none]
  · rw [s.withSession_some _ x hx, s.withTube_some p body e he]

/-- The entry of a tube sent to RETEST, as REQUEST_RETEST answers it (R35). -/
theorem State.retestReply_retestTube (s : State) (p : Pos) (cause : RetestCause) (reset : Bool)
    (traverse : Option Nat) (x : Session) (e : TubeEntry) (hx : s.session = some x) (he : s.tube? p = some e) :
    (s.retestTube p cause reset traverse).retestReply p =
      .ok (.retest .retest (some cause) (if reset then 0 else e.attempts)) := by
  have entry := s.tube?_moveTube p .retest (fun t =>
    { t.dropCalls with cause := some cause, attempts := if reset then 0 else t.attempts }) x e hx he
  have same : (s.retestTube p cause reset traverse).session = (s.moveTube p .retest fun t =>
      { t.dropCalls with cause := some cause, attempts := if reset then 0 else t.attempts }).session := by
    cases traverse with
    | none => exact State.session_raiseRetest _ p
    | some id => exact (State.session_raiseRetest _ p).trans (State.session_invalidate _ id)
  unfold State.retestReply
  rw [(State.tube?_of_session _ _ same p).trans entry]

/-- What a tube sent to RETEST tells, whatever its traverse: at most the two events of a release, and
TUBE_RETEST last. -/
theorem State.retestTube_news (s : State) (p : Pos) (cause : RetestCause) (reset : Bool)
    (traverse : Option Nat) (x : Session) (e : TubeEntry) (hx : s.session = some x) (he : s.tube? p = some e) :
    let t := s.retestTube p cause reset traverse
    let told := Event.tubeRetest p cause (if reset then 0 else e.attempts)
    ∃ es, s.raised t es ∧ es.length ≤ 3 ∧ es.getLast? = some told
      ∧ (traverse = none → es.length = 1)
      ∧ ∀ id tr, traverse = some id → s.trav? id = some tr → tr.state = .complete →
          tr.target.kind = .inspection → es = s.releaseNews t id tr tr.freedBySettling ++ [told] := by
  intro t told
  obtain ⟨_, live, stays⟩ := s.retestTube_does p cause reset traverse x e hx he
  by_cases h : ∃ id tr, traverse = some id ∧ s.trav? id = some tr ∧ tr.state = .complete
      ∧ tr.target.kind = .inspection
  · obtain ⟨id, tr, hid, htr, complete, kind⟩ := h
    have short := s.length_releaseNews t id tr tr.freedBySettling
    refine ⟨_, (live id tr hid htr complete kind).2, ?_, ?_, fun none => ?_, fun id' tr' hid' htr' _ _ => ?_⟩
    · rw [List.length_append, List.length_singleton]
      exact Nat.succ_le_succ short
    · exact List.getLast?_concat
    · simp [hid] at none
    · rw [hid, Option.some_inj] at hid'
      subst hid'
      rw [htr, Option.some_inj] at htr'
      rw [htr']
  · have no : ∀ id tr, traverse = some id → s.trav? id = some tr →
        ¬(tr.state = .complete ∧ tr.target.kind = .inspection) :=
      fun id tr hid htr ⟨complete, kind⟩ => h ⟨id, tr, hid, htr, complete, kind⟩
    exact ⟨[told], (stays no).2, by simp, rfl, fun _ => rfl,
      fun id tr hid htr complete kind => absurd ⟨complete, kind⟩ (no id tr hid htr)⟩

/-- The states in which a tube has a call or a traverse to lose (R36). -/
theorem State.leadRetest_decided (s : State) (e : TubeEntry) (reset : Bool)
    (h : e.state = .acquired ∨ e.state = .resolution ∨ e.state = .final ∨ e.state = .plugRecommended) :
    s.leadRetest e reset =
      (s.retestTube e.pos .lead reset e.traverse, (s.retestTube e.pos .lead reset e.traverse).retestReply e.pos) := by
  unfold State.leadRetest
  rcases h with h | h | h | h <;> rw [h]

/-- The states in which it has none (R35). -/
theorem State.leadRetest_waiting (s : State) (e : TubeEntry) (reset : Bool)
    (h : e.state = .pending ∨ e.state = .retest ∨ e.state = .restricted) :
    s.leadRetest e reset =
      let t := if reset then s.retestTube e.pos .lead true none else s
      (t, t.retestReply e.pos) := by
  unfold State.leadRetest
  rcases h with h | h | h <;> rw [h]

/-- The greatest depth of entries, where there are any. -/
theorem max_depth_eq (es : List CallEntry) (h : es ≠ []) :
    (es.map (·.depth)).max? = some (greatestDepth es) := by
  rw [greatestDepth_eq]
  cases es with
  | nil => exact absurd rfl h
  | cons e rest => rw [List.map_cons, List.max?_cons', List.foldl_cons, Nat.zero_max]

/-- A well formed call of INDICATIONS has entries (R148). -/
theorem entries_of_goodCall (c : SubmittedCall) (good : goodCall c = true) (h : c.kind = .indications) :
    c.entries ≠ [] := by
  intro none
  simp [goodCall, h, none] at good

end Sys2Proof.Machine
end

section
namespace Sys2Proof.Machine

/-- A request of the lead on a tube: refused without a session or a tube, and answered by its body on the
tube's entry (R34). -/
theorem State.leadTubeRequest (s : State) (st : Stn) (tag : Nat) (req : Request) (p : Pos)
    (body : State → TubeEntry → State × Reply) (lb : s.leadBegins st tag req) :
    let c := s.leadRequest st tag req fun u => u.withSession fun _ => u.withTube p (body u)
    let no := fun r => Host.Outcome.next ((s.begun st).answered st tag (requestCode req) r .none)
    (s.session = none → c = no .noSession)
      ∧ (s.session ≠ none → s.tube? p = none → c = no .noSuchTube)
      ∧ ∀ x e, s.session = some x → s.tube? p = some e →
          ∀ t r a, body (s.begun st) e = (t, ⟨r, a⟩) → c = .next (t.answered st tag (requestCode req) r a) := by
  intro c no
  obtain ⟨shut, missing, found⟩ := (s.begun st).withSession_withTube p (body (s.begun st))
  exact ⟨fun h => s.leadRequest_answer st tag _ _ _ _ _ lb (shut h),
    fun h k => s.leadRequest_answer st tag _ _ _ _ _ lb (missing h k),
    fun x e hx he t r a done => s.leadRequest_answer st tag _ _ _ _ _ lb ((found x e hx he).trans done)⟩

/-! REQUEST_RETEST. -/

/-- REQUEST_RETEST that acts (R36): the retest, of the traverse where the tube was decided. -/
theorem State.leadRetest_acts (s : State) (p : Pos) (reset : Bool) (x : Session) (e : TubeEntry)
    (hx : s.session = some x) (he : s.tube? p = some e)
    (acts : e.state = .acquired ∨ e.state = .resolution ∨ e.state = .final ∨ e.state = .plugRecommended
      ∨ reset = true ∧ (e.state = .pending ∨ e.state = .retest ∨ e.state = .restricted)) :
    ∃ o, s.leadRetest e reset = (s.retestTube p .lead reset o,
        .ok (.retest .retest (some .lead) (if reset then 0 else e.attempts)))
      ∧ (e.state = .pending ∨ e.state = .retest ∨ e.state = .restricted → o = none)
      ∧ (e.state ≠ .pending → e.state ≠ .retest → e.state ≠ .restricted → o = e.traverse) := by
  have pos := s.tube_pos p e he
  have reply := fun o => s.retestReply_retestTube p .lead reset o x e hx he
  by_cases waiting : e.state = .pending ∨ e.state = .retest ∨ e.state = .restricted
  · have set : reset = true := by
      rcases acts with h | h | h | h | ⟨h, _⟩
      case inr.inr.inr.inr => exact h
      all_goals simp [h] at waiting
    subst set
    refine ⟨none, ?_, fun _ => rfl, fun a b c => absurd waiting (by simp [a, b, c])⟩
    rw [s.leadRetest_waiting e true waiting, pos]
    simp only [if_true, reply]
  · have decided : e.state = .acquired ∨ e.state = .resolution ∨ e.state = .final ∨ e.state = .plugRecommended := by
      rcases acts with h | h | h | h | ⟨_, h⟩
      case inr.inr.inr.inr => exact absurd h waiting
      all_goals simp [h]
    refine ⟨e.traverse, ?_, fun h => absurd h waiting, fun _ _ _ => rfl⟩
    rw [s.leadRetest_decided e reset decided, pos, reply]

/-! CONFIRM_PLUG. -/

/-- CONFIRM_PLUG on a tube (R161). -/
def State.confirmPlug (s : State) (p : Pos) (traverse : Option Nat) : State :=
  match traverse with
  | none => s.moveTube p .plugged id
  | some id' => (s.moveTube p .plugged id).settle id'

/-- What CONFIRM_PLUG does: the tube is PLUGGED and its live traverse is settled. -/
theorem State.confirmPlug_does (s : State) (p : Pos) (traverse : Option Nat) (x : Session) (e : TubeEntry)
    (hx : s.session = some x) (he : s.tube? p = some e) :
    let t := s.confirmPlug p traverse
    t.session = some (x.updTube p (fun u => { u with state := .plugged, changed := x.seconds })
        (x.counts.move e.state .plugged))
      ∧ (∀ id tr, traverse = some id → s.trav? id = some tr →
          s.goesOrStays t id tr tr.freedBySettling fun u => u.state = tr.state ∧ tr.settledTo u)
      ∧ ∃ es, s.raised t es ∧ (traverse.bind s.trav? = none → es = [])
        ∧ ∀ id tr, traverse = some id → s.trav? id = some tr →
            es = s.releaseNews t id tr tr.freedBySettling := by
  intro t
  let s1 := s.moveTube p .plugged id
  have store1 : s1.store = s.store := by simp [s1]
  have session1 : s1.session = some (x.updTube p (fun u => { u with state := .plugged, changed := x.seconds })
      (x.counts.move e.state .plugged)) := congrArg State.session (s.moveTube_eq p .plugged id x e hx he)
  have quiet : s.raised s1 [] := s.raised_moveTube _ _ _
  cases traverse with
  | none => exact ⟨session1, fun _ _ h => by simp at h, [], quiet, fun _ => rfl, fun _ _ h => by simp at h⟩
  | some id =>
    refine ⟨(State.session_settle s1 id).trans session1, ?_, ?_⟩
    · rintro id' tr ⟨⟩ htr
      have htr1 := (State.trav?_of_store s s1 store1 id).trans htr
      refine State.goesOrStays_imp _ _ _ _ _ _ _ ?_
        (State.goesOrStays_congr s s1 t t id tr _ _ store1 rfl (s1.settle_goesOrStays id tr htr1).1)
      rintro v ⟨q, rfl, settled⟩
      exact ⟨rfl, settled⟩
    · cases htr : s.trav? id with
      | none =>
        have same : t = s1 := s1.settle_of_none id ((State.trav?_of_store s s1 store1 id).trans htr)
        exact ⟨[], same ▸ quiet, fun _ => rfl, fun _ _ hid h => by cases hid; simp [htr] at h⟩
      | some tr =>
        have htr1 := (State.trav?_of_store s s1 store1 id).trans htr
        refine ⟨_, State.raised_after _ _ _ _ quiet (s1.raised_settle id tr htr1), ?_, ?_⟩
        · simp [htr]
        · rintro id' tr' ⟨⟩ htr'
          rw [htr, Option.some_inj] at htr'
          subst htr'
          exact State.releaseNews_congr s s1 t t id tr _ store1 rfl

/-- CONFIRM_PLUG leaves the channels, the calibration, the comparisons and the configuration. -/
theorem State.confirmPlug_leaves (s : State) (p : Pos) (traverse : Option Nat) :
    let t := s.confirmPlug p traverse
    t.channels = s.channels ∧ t.cal = s.cal ∧ t.comparisons = s.comparisons ∧ t.config = s.config := by
  unfold State.confirmPlug
  split <;> simp

/-! SUBMIT_FINAL. -/

/-- SUBMIT_FINAL as it is checked (R162): the session, the call, the tube, its state and its traverse. -/
theorem submitFinal_decides (st : Stn) (tag : Nat) (p : Pos) (traverse : Nat) (call : SubmittedCall) (s : State)
    (lb : s.leadBegins st tag (.submitFinal p.row p.col traverse call)) :
    let c := execSubmitFinal st tag p.row p.col traverse call s
    let no := fun r => Host.Outcome.next ((s.begun st).answered st tag 15 r .none)
    (s.session = none → c = no .noSession)
      ∧ (s.session ≠ none → goodCall call = false ∨ call.kind = .retestRequired → c = no .badArgument)
      ∧ (goodCall call = true → call.kind ≠ .retestRequired →
          (s.session ≠ none → s.tube? p = none → c = no .noSuchTube)
          ∧ ∀ x e, s.session = some x → s.tube? p = some e →
            (e.state ≠ .resolution → c = no .wrongState)
            ∧ (e.state = .resolution → e.traverse ≠ some traverse → c = no .staleTraverse)
            ∧ (e.state = .resolution → e.traverse = some traverse →
                let final : Call := ⟨call.kind, call.entries, .lead, x.seconds, traverse⟩
                c = .next (((s.begun st).decideTube p final).answered st tag 15 .ok
                  (.tubeState p (decidedState x.plan.limits.plug call.kind call.entries))))) := by
  intro c no
  let u := s.begun st
  have answers := fun body t r a => s.leadRequest_answer st tag (.submitFinal p.row p.col traverse call) body t r a lb
  refine ⟨fun h => answers _ _ _ _ (u.withSession_none _ h), fun opened bad => ?_,
    fun good kind => ⟨fun opened none => ?_, fun x e hx he => ?_⟩⟩
  · obtain ⟨x, hx⟩ := Option.ne_none_iff_exists'.1 opened
    exact answers _ _ _ _ ((u.withSession_some _ x hx).trans (if_pos bad))
  · obtain ⟨x, hx⟩ := Option.ne_none_iff_exists'.1 opened
    have fine : ¬(goodCall call = false ∨ call.kind = .retestRequired) := by simp [good, kind]
    exact answers _ _ _ _ ((u.withSession_some _ x hx).trans ((if_neg fine).trans (u.withTube_none p _ none)))
  · have fine : ¬(goodCall call = false ∨ call.kind = .retestRequired) := by simp [good, kind]
    have plug : u.limits.plug = x.plan.limits.plug := by simp [u, State.limits, hx]
    refine ⟨fun state => ?_, fun state stale => ?_, fun state same => ?_⟩
    all_goals refine answers _ _ _ _ ((u.withSession_some _ x hx).trans ((if_neg fine).trans
      ((u.withTube_some p _ e he).trans ?_)))
    · exact if_pos state
    · exact (if_neg (not_not.2 state)).trans (if_pos stale)
    · refine (if_neg (not_not.2 state)).trans ((if_neg (not_not.2 same)).trans ?_)
      rw [s.tube_pos p e he, plug]
      rfl

/-! The requests answered. -/

/-- REQUEST_RETEST by the state of the tube. -/
theorem requestRetest_decides (st : Stn) (tag : Nat) (p : Pos) (s : State) (reset : Bool)
    (lb : s.leadBegins st tag (.requestRetest p.row p.col reset)) :
    let c := execRequestRetest st tag p.row p.col reset s
    let no := fun r => Host.Outcome.next ((s.begun st).answered st tag 13 r .none)
    let n := fun e : TubeEntry => if reset then 0 else e.attempts
    (s.session = none → c = no .noSession)
      ∧ (s.session ≠ none → s.tube? p = none → c = no .noSuchTube)
      ∧ ∀ x e, s.session = some x → s.tube? p = some e →
        (e.state = .claimed → c = no .tubeBusy)
        ∧ (e.state = .plugged → c = no .wrongState)
        ∧ (e.state = .pending ∨ e.state = .retest ∨ e.state = .restricted → reset = false →
            c = .next ((s.begun st).answered st tag 13 .ok (.retest e.state e.cause e.attempts)))
        ∧ (e.state = .acquired ∨ e.state = .resolution ∨ e.state = .final
              ∨ e.state = .plugRecommended ∨ reset = true ∧
                (e.state = .pending ∨ e.state = .retest ∨ e.state = .restricted) →
            ∃ o, c = .next (((s.begun st).retestTube p .lead reset o).answered st tag 13 .ok
                (.retest .retest (some .lead) (n e)))
              ∧ (e.state = .pending ∨ e.state = .retest ∨ e.state = .restricted → o = none)
              ∧ (e.state ≠ .pending → e.state ≠ .retest → e.state ≠ .restricted → o = e.traverse)) := by
  intro c no n
  obtain ⟨shut, missing, found⟩ := s.leadTubeRequest st tag (.requestRetest p.row p.col reset) p
    (fun u e => u.leadRetest e reset) lb
  refine ⟨shut, missing, fun x e hx he => ⟨fun h => ?_, fun h => ?_, fun waiting unset => ?_, fun acts => ?_⟩⟩
  · refine found x e hx he _ _ _ ?_
    simp only [State.leadRetest, h]
    rfl
  · refine found x e hx he _ _ _ ?_
    simp only [State.leadRetest, h]
    rfl
  · refine found x e hx he _ _ _ ?_
    have reply : (s.begun st).retestReply p = .ok (.retest e.state e.cause e.attempts) := by
      simp only [State.retestReply, State.tube_begun, he]
    rw [State.leadRetest_waiting _ e reset waiting, unset, s.tube_pos p e he]
    simp only [Bool.false_eq_true, if_false, reply]
    rfl
  · obtain ⟨o, done, rest⟩ := (s.begun st).leadRetest_acts p reset x e hx he acts
    exact ⟨o, found x e hx he _ _ _ done, rest⟩

/-- Settles O57: each request by the check of its tube, and then by what its decision does. -/
theorem tubeDecisionsOfTheLead : Obligations.TubeDecisionsOfTheLead := by
  intro st tag p s lead no said
  refine ⟨fun reset begins => ?_, fun begins => ?_, fun traverse call begins => ?_⟩
  · obtain ⟨shut, missing, found⟩ := requestRetest_decides st tag p s reset ⟨begins, lead⟩
    refine ⟨shut, missing, fun x e hx he => ?_⟩
    obtain ⟨busy, plugged, same, acts⟩ := found x e hx he
    refine ⟨busy, plugged, same, fun h => ?_⟩
    obtain ⟨o, done, waiting, decided⟩ := acts h
    let u := (s.begun st).retestTube p .lead reset o
    obtain ⟨session, live, stays⟩ := (s.begun st).retestTube_does p .lead reset o x e hx he
    obtain ⟨es, news, short, last, alone, all⟩ := (s.begun st).retestTube_news p .lead reset o x e hx he
    refine ⟨_, done, session, fun a b c id tr hid htr complete target => ?_, ⟨es, short, last, fun w => ?_,
      fun a b c id tr hid htr complete target => ?_, ?_⟩, ?_, ?_, ?_, ?_⟩
    · obtain ⟨goes, _⟩ := live id tr ((decided a b c).trans hid) htr complete (by rw [target]; rfl)
      refine State.goesOrStays_imp _ _ _ _ _ _ _ ?_
        (State.goesOrStays_congr s (s.begun st) _ u id tr _ _ rfl rfl goes)
      rintro v ⟨q, rfl, settled⟩
      exact ⟨rfl, settled⟩
    · exact ⟨alone (waiting w), (stays fun id tr hid => by simp [waiting w] at hid).1⟩
    · exact all id tr ((decided a b c).trans hid) htr complete (by rw [target]; rfl)
    · exact s.stations_of_raised_begun u st es tag 13 _ _ news
    all_goals simp [State.answered]
  · obtain ⟨shut, missing, found⟩ := s.leadTubeRequest st tag (.confirmPlug p.row p.col) p _ ⟨begins, lead⟩
    refine ⟨shut, missing, fun x e hx he => ⟨fun a b => ?_, fun h => ?_⟩⟩
    · refine found x e hx he _ _ _ (if_neg ?_)
      simp [a, b]
    · let u := (s.begun st).confirmPlug p e.traverse
      obtain ⟨session, live, es, news, none, all⟩ := (s.begun st).confirmPlug_does p e.traverse x e hx he
      refine ⟨u.answered st tag 14 .ok (.tubeState p .plugged), found x e hx he _ _ _ ?_, session, live,
        ⟨es, none, all, s.stations_of_raised_begun u st es tag 14 _ _ news⟩, ?_⟩
      · refine (if_pos h).trans ?_
        rw [s.tube_pos p e he]
        rfl
      · exact (s.begun st).confirmPlug_leaves p e.traverse
  · obtain ⟨shut, bad, good⟩ := submitFinal_decides st tag p traverse call s ⟨begins, lead⟩
    refine ⟨shut, bad, fun well kind => ?_⟩
    obtain ⟨missing, found⟩ := good well kind
    refine ⟨missing, fun x e hx he => ?_⟩
    obtain ⟨wrong, stale, acts⟩ := found x e hx he
    refine ⟨wrong, stale, fun state same plug => ?_⟩
    intro new
    let final : Call := ⟨call.kind, call.entries, .lead, x.seconds, traverse⟩
    let u := (s.begun st).decideTube p final
    have done := acts state same
    obtain ⟨session, _, live⟩ := (s.begun st).decideTube_does p final x e hx he
    obtain ⟨after, news, silent, tells⟩ := (s.begun st).decideTube_tells p final x e hx he
    have decided : decidedState x.plan.limits.plug call.kind call.entries = new := decidedState_eq _ _ _ plug
    have depth : (if call.kind = .indications then some (greatestDepth call.entries) else none)
        = if call.kind = .indications then (call.entries.map (·.depth)).max? else none := by
      split
      · next indications => rw [max_depth_eq _ (entries_of_goodCall call well indications)]
      · rfl
    rw [decided, depth] at news
    rw [decided, state] at session
    rw [decided] at done
    refine ⟨_, done, session, fun tr htr => ?_, ⟨_ :: after, rfl, fun none => ?_, fun tr htr => tells tr htr,
      s.stations_of_raised_begun u st _ tag 15 _ _ news⟩, ?_⟩
    · refine State.goesOrStays_imp _ _ _ _ _ _ _ ?_
        (State.goesOrStays_congr s (s.begun st) _ u traverse tr _ _ rfl rfl (live tr htr).1)
      rintro v ⟨q, rfl, settled⟩
      exact ⟨rfl, settled⟩
    · rw [silent none]
      rfl
    · simp [State.answered]

end Sys2Proof.Machine
end

section
namespace Sys2Proof.Machine

/-! The begin of a pull (R29, R51, R69, R93, R134). -/

/-- The open bracket of a channel is the bracket of its number. -/
theorem State.bracket?_of_open (s : State) (ch : Chan) (b : Bracket) (law : s.calLaw)
    (hb : s.openBracket ch = some b) : s.bracket? b.number = some b := by
  obtain ⟨mem, _, _⟩ := s.openBracket_spec ch b hb
  cases hc : s.bracket? b.number with
  | none => simpa using List.find?_eq_none.1 hc b mem
  | some c =>
    exact congrArg some (s.bracket_unique law c b (List.mem_of_find?_eq_some hc) mem (s.bracket_number _ c hc))

/-- A pull begun joins its bracket's list, and a full list sets cal_due FULL (R49, R134). -/
theorem State.joinBracket_does (s : State) (ch : Chan) (id : Nat) (b : Bracket) (law : s.calLaw)
    (hb : s.openBracket ch = some b) (state : (s.chan ch).state ≠ .ready) :
    let t := s.joinBracket ch id
    t.channels = s.channels ∧ t.bracket? b.number = some
      { b with traverses := b.traverses ++ [id]
               calDue := if b.traverses.length + 1 = b.capacity ∧ b.calDue = none then some .full
                 else b.calDue } := by
  intro t
  let add : Bracket → Bracket := fun b => { b with traverses := b.traverses ++ [id] }
  let due : Bracket → Bracket := fun b => { b with calDue := some .full }
  let s1 := s.modBracket b.number add
  have found1 : s1.bracket? b.number = some (add b) :=
    s.bracket?_modBracket_self b.number add b (fun _ => rfl) (s.bracket?_of_open ch b law hb)
  have open1 : s1.openBracket ch = some (add b) := by
    refine (s.openBracket_modBracket b.number ch add (fun _ => rfl) (fun _ => rfl)).trans ?_
    rw [hb, Option.map_some, if_pos rfl]
  have joined : t = if b.traverses.length + 1 = b.capacity then s1.setCalDue ch .full else s1 := by
    simp only [t, State.joinBracket, hb]
    rfl
  by_cases full : b.traverses.length + 1 = b.capacity
  · rw [if_pos full] at joined
    cases flag : b.calDue with
    | none =>
      have clear : (add b).calDue.isSome = false := by simp [add, flag]
      have set : t = s1.modBracket b.number due := by
        rw [joined]
        simp only [State.setCalDue, open1, clear]
        exact if_neg state
      rw [set]
      refine ⟨rfl, (s1.bracket?_modBracket_self b.number due _ (fun _ => rfl) found1).trans ?_⟩
      simp [full, add, due]
    | some cause =>
      have already : (add b).calDue.isSome = true := by simp [add, flag]
      have left : t = s1 := by
        rw [joined]
        simp only [State.setCalDue, open1, already]
        rfl
      rw [left]
      refine ⟨rfl, found1.trans ?_⟩
      simp [add, flag]
  · rw [if_neg full] at joined
    rw [joined]
    refine ⟨rfl, found1.trans ?_⟩
    simp [full, add]

/-! What a pull is screened by (R91, R93). -/

theorem insertFlaw_perm (f : Flaw) (fs : List Flaw) : (insertFlaw f fs).Perm (f :: fs) := by
  induction fs with
  | nil => exact .refl _
  | cons g rest ih =>
    unfold insertFlaw
    split
    · exact .refl _
    · exact (ih.cons g).trans (.swap f g rest)

/-- A flaw inserted in a list by depth leaves it by depth. -/
theorem insertFlaw_sorted (f : Flaw) (fs : List Flaw) (h : fs.Pairwise fun y z => y.depth ≤ z.depth) :
    (insertFlaw f fs).Pairwise fun y z => y.depth ≤ z.depth := by
  induction fs with
  | nil => simp [insertFlaw]
  | cons g rest ih =>
    obtain ⟨least, tail⟩ := List.pairwise_cons.1 h
    unfold insertFlaw
    split
    · next less =>
      refine List.pairwise_cons.2 ⟨fun z hz => ?_, h⟩
      rcases List.mem_cons.1 hz with rfl | hz
      · omega
      · have := least z hz
        omega
    · next no =>
      refine List.pairwise_cons.2 ⟨fun z hz => ?_, ih tail⟩
      rcases List.mem_cons.1 ((insertFlaw_perm f rest).mem_iff.1 hz) with rfl | hz
      · omega
      · exact least z hz

theorem byDepth_perm (fs : List Flaw) : (byDepth fs).Perm fs := by
  suffices general : ∀ acc, (fs.foldl (fun acc f => insertFlaw f acc) acc).Perm (fs ++ acc) by
    exact (general []).trans (.of_eq (List.append_nil fs))
  induction fs with
  | nil => exact fun acc => .refl _
  | cons f rest ih =>
    intro acc
    exact (ih _).trans (((insertFlaw_perm f acc).append_left rest).trans List.perm_middle)

theorem byDepth_sorted (fs : List Flaw) : (byDepth fs).Pairwise fun y z => y.depth ≤ z.depth := by
  suffices general : ∀ acc : List Flaw, acc.Pairwise (fun y z => y.depth ≤ z.depth) →
      (fs.foldl (fun acc f => insertFlaw f acc) acc).Pairwise fun y z => y.depth ≤ z.depth from
    general [] .nil
  induction fs with
  | nil => exact fun acc h => h
  | cons f rest ih => exact fun acc h => ih _ (insertFlaw_sorted f acc h)

/-- T_raw is the least threshold that does not fall short (R93). -/
theorem rawThreshold_spec (detection aRef : Nat) :
    detection * aRef ≤ 500 * rawThreshold detection aRef
      ∧ 500 * rawThreshold detection aRef < detection * aRef + 500 := by
  unfold rawThreshold ceilDiv
  generalize detection * aRef = q
  omega

/-- The parameters of an inspection pull under an open bracket (R91, R93). -/
theorem State.inspectionParams_does (s : State) (b : Bracket) (p : Pos) (x : Session)
    (hx : s.session = some x) :
    let params := s.inspectionParams (some b) p
    params.landmark = some x.plan.limits.landmark ∧ params.gap = x.plan.limits.gap
      ∧ params.reporting = some x.plan.limits.reporting
      ∧ (∀ e, s.tube? p = some e → params.expected = (x.plan.classes[e.cls]?).join.map (·.count))
      ∧ ∀ o, s.logEntry? b.openingLog = some o →
          (∀ d, s.standard? o.standard = some d → params.freq = d.freq)
          ∧ (let q := x.plan.limits.detection * o.aRef
             q ≤ 500 * params.tRaw ∧ 500 * params.tRaw < q + 500)
          ∧ ∃ c, params.cal = some c ∧ c.aRef = o.aRef ∧ c.rho = o.rho
              ∧ c.points.Perm (o.flaws.map fun y => (y.depth, y.theta))
              ∧ c.points.Pairwise (fun y z => y.1 ≤ z.1) := by
  have limits : s.limits = x.plan.limits := by simp [State.limits, hx]
  refine ⟨?_, ?_, ?_, fun e he => ?_, fun o ho => ⟨fun d hd => ?_, ?_, o.calRef, ?_, rfl, rfl, ?_, ?_⟩⟩
  · simp [State.inspectionParams, limits]
  · simp [State.inspectionParams, limits]
  · simp [State.inspectionParams, limits]
  · simp [State.inspectionParams, he, State.geometry?, hx]
  · simp [State.inspectionParams, ho, hd]
  · simp only [State.inspectionParams, limits, Option.bind_some, ho, Option.map_some, Option.getD_some]
    exact rawThreshold_spec _ _
  · simp [State.inspectionParams, ho]
  · exact (byDepth_perm o.flaws).map _
  · exact List.pairwise_map.2 (byDepth_sorted o.flaws)

/-! PULL_START (R29, R51). -/

/-- The entry of an inspection pull that begins. -/
def State.newPull (s : State) (ch : Chan) (p : Pos) (b : Bracket) (x : Session) : Traverse :=
  newTraverse x.nextTraverse (.tube p) ch (some b.number) x.seconds (s.chan ch).identityOr

/-- The channel of a pull that begins, but for the frames that it sends. -/
def Channel.pulling (c : Channel) (id : Nat) (params : ScreenParams) : Channel :=
  { c with traverse := some id, expect := none, pendingLost := false
           screen := .active (ScreenState.start id params), claimDue := none, state := .recording }

/-- A pull that begins, said once. -/
theorem State.beginPull_does (s : State) (ch : Chan) (p : Pos) (x : Session) (b : Bracket)
    (hx : s.session = some x) (hb : s.openBracket ch = some b) (law : s.calLaw) :
    let t := s.beginPull ch p
    let id := x.nextTraverse
    let c := (s.chan ch).pulling id (s.inspectionParams (some b) p)
    t.session = some (Session.updTube { x with nextTraverse := id + 1 } p (fun u =>
        { u with attempts := u.attempts + 1, traverse := some id, bracket := some b.number }) x.counts)
      ∧ t.store = { s.store with directory := s.store.directory ++ [s.newPull ch p b x]
                                 reservedSlots := s.store.reservedSlots - 1 }
      ∧ (∃ permit quiet more, t.chan ch = { c with permit := permit, quietMs := quiet
                                                   sent := c.sent ++ [.pullReply false none id] ++ more })
      ∧ (∀ k, k ≠ ch → t.chan k = s.chan k)
      ∧ t.bracket? b.number = some
        { b with traverses := b.traverses ++ [id]
                 calDue := if b.traverses.length + 1 = b.capacity ∧ b.calDue = none then some .full
                   else b.calDue } := by
  intro t id c
  have next : s.nextTraverse = id := by simp [State.nextTraverse, hx, id]
  have time : s.time = x.seconds := by simp [State.time, State.time?, hx]
  let s1 := (s.createTraverse (s.newPull ch p b x)).modStore fun y => { y with reservedSlots := y.reservedSlots - 1 }
  let s2 := s1.modTube p fun e =>
    { e with attempts := e.attempts + 1, traverse := some id, bracket := some b.number }
  let s3 := (s2.setUpPull ch id (s.inspectionParams (some b) p)).modChan ch fun c => { c with claimDue := none }
  let s4 := (s3.setChan ch .recording).sendProbe ch (.pullReply false none id)
  have done : t = (s4.joinBracket ch id).refreshPermit ch := by
    simp only [t, State.beginPull, hb, next, time]
    rfl
  have chan3 : s3.chan ch = { c with state := (s.chan ch).state } := by
    rw [State.chan_modChan_self, State.setUpPull, State.chan_modChan_self]
    rfl
  have other3 : ∀ k, k ≠ ch → s3.chan k = s.chan k := fun k hk =>
    (State.chan_modChan_other _ _ _ _ hk).trans (State.chan_modChan_other _ _ _ _ hk)
  have chan_set : (s3.setChan ch .recording).chan ch = c := by
    rw [State.chan, State.channels_setChan, Four.get_set_self, chan3]
    rfl
  have chan4 : s4.chan ch = { c with sent := c.sent ++ [.pullReply false none id], quietMs := 0 } := by
    have up : ((s3.setChan ch .recording).chan ch).state ≠ .offline := by simp [chan_set, c, Channel.pulling]
    rw [State.chan, State.channels_sendProbe_up _ _ _ up, Four.get_set_self, chan_set]
  have other4 : ∀ k, k ≠ ch → s4.chan k = s.chan k := fun k hk =>
    (State.chan_sendProbe_other _ ch k _ hk).trans ((State.chan_setChan_other _ ch k _ hk).trans (other3 k hk))
  have cal4 : s4.cal = s.cal := by simp [s4, s3, s2, s1]
  have recording : (s4.chan ch).state = .recording := by rw [chan4]; rfl
  have law4 : s4.calLaw := by unfold State.calLaw; rwa [cal4]
  obtain ⟨channels, joined⟩ := s4.joinBracket_does ch id b law4
    ((State.openBracket_congr s s4 ch cal4).trans hb) (by simp [recording])
  have chan5 : ∀ k, (s4.joinBracket ch id).chan k = s4.chan k := fun k => congrArg (Four.get · k) channels
  rw [done]
  refine ⟨?_, ?_, ?_, fun k hk => ?_, ?_⟩
  · rw [State.session_refreshPermit, State.session_joinBracket]
    simp only [s4, s3, State.session_sendProbe, State.session_setChan, State.session_modChan,
      State.session_setUpPull]
    simp only [s2, s1, State.modTube, State.modSession, State.createTraverse, State.modStore, hx]
    rfl
  · simp only [State.store_refreshPermit, State.store_joinBracket, s4, s3, State.store_sendProbe,
      State.store_setChan, State.store_modChan, State.store_setUpPull, s2, State.store_modTube]
    rfl
  · obtain ⟨v, hv⟩ : ∃ v, (s4.joinBracket ch id).permitNow ch = some v := by
      simp only [State.permitNow, chan5, recording]
      exact ⟨_, rfl⟩
    rw [State.chan, State.channels_refreshPermit_up _ ch v hv, Four.get_set_self, chan5, chan4]
    exact ⟨_, _, _, rfl⟩
  · rw [State.chan_refreshPermit_other _ ch k hk, chan5, other4 k hk]
  · rw [← joined, State.bracket?, State.cal_refreshPermit]
    rfl

end Sys2Proof.Machine
end

section
namespace Sys2Proof.Machine

theorem execPullStart_claimed (ch : Chan) (s : State) (p : Pos) (up : s.probeUp ch)
    (claimed : (s.chan ch).state = .claimed) (hp : (s.chan ch).claim = some p) :
    execPullStart ch s = .next ((s.hearProbe ch).beginPull ch p) := by
  refine (s.probeFrame_up ch _ up).trans ?_
  unfold State.takePullStart
  rw [State.chan_hearProbe_self]
  simp only [claimed, hp]

/-- PULL_START refused (R29): by the state of the channel. -/
theorem execPullStart_refused (ch : Chan) (s : State) (reason : ProbeReason) (up : s.probeUp ch)
    (h : ((s.chan ch).state = .recording ∨ (s.chan ch).state = .paused) ∧ reason = .channelBusy
      ∨ ((s.chan ch).state = .needsCal ∨ (s.chan ch).state = .ready ∨ (s.chan ch).state = .due
        ∨ (s.chan ch).state = .calibrating ∨ (s.chan ch).state = .evaluating) ∧ reason = .noClaim) :
    execPullStart ch s = .next ((s.hearProbe ch).sentOn ch (.pullReply false (some reason) 0)) := by
  have heard : ((s.hearProbe ch).chan ch).state ≠ .offline := by
    rw [State.chan_hearProbe_self]
    exact up.2
  refine (s.probeFrame_up ch _ up).trans ?_
  rw [← State.sendProbe_up _ ch _ heard]
  unfold State.takePullStart
  rw [State.chan_hearProbe_self]
  rcases h with ⟨h | h, rfl⟩ | ⟨h | h | h | h | h, rfl⟩ <;> simp only [h]

/-- Settles O32: in CLAIMED the pull begins, and elsewhere it is refused. -/
theorem pullStartBeginsThePull : Obligations.PullStartBeginsThePull := by
  intro ch s up
  refine ⟨fun p x b claimed hp hx hb law => ?_, fun reason h => execPullStart_refused ch s reason up h⟩
  let u := s.hearProbe ch
  obtain ⟨session, store, ⟨permit, quiet, more, chan⟩, others, bracket⟩ := u.beginPull_does ch p x b hx hb law
  have heard : u.chan ch = { s.chan ch with silenceMs := 0 } := s.chan_hearProbe_self ch
  obtain ⟨landmark, gap, reporting, expected, opening⟩ := u.inspectionParams_does b p x hx
  refine ⟨_, u.newPull ch p b x, execPullStart_claimed ch s p up claimed hp, session, store, rfl, rfl, rfl, rfl,
    rfl, rfl, rfl, rfl, rfl, rfl, rfl, rfl, rfl, rfl, fun id hid => ?_, ?_, ?_, ?_, ?_, ?_, ?_,
    ⟨u.inspectionParams (some b) p, ?_, landmark, gap, reporting, expected, opening⟩, ?_,
    fun k hk => (others k hk).trans (s.chan_hearProbe_other ch k hk), ⟨_, bracket, rfl, rfl⟩, ?_, ?_, ?_⟩
  · simp [State.newPull, newTraverse, Channel.identityOr, heard, hid]
  · rw [chan]; rfl
  · rw [chan]; rfl
  · rw [chan, heard]; exact hp
  · rw [chan]; rfl
  · rw [chan]; rfl
  · rw [chan]; rfl
  · rw [chan]; rfl
  · rw [chan, heard]
    exact ⟨more, rfl⟩
  · exact u.log_beginPull ch p
  · exact u.comparisons_beginPull ch p
  · exact u.config_beginPull ch p

end Sys2Proof.Machine
end

section
namespace Sys2Proof.Machine

/-! The last page of a pull (R70 to R72). -/

/-- A traverse's entry but for its pages. -/
def Traverse.unpaged (t : Traverse) : Traverse := { t with pages := [], reservation := 0 }

/-- An entry of the directory, whatever entry is changed. -/
theorem State.trav?_modTrav (s : State) (id n : Nat) (f : Traverse → Traverse) (hf : ∀ u, (f u).id = u.id) :
    (s.modTrav id f).trav? n = (s.trav? n).map fun t => if n = id then f t else t := by
  by_cases h : n = id
  · subst h
    cases ht : s.trav? n with
    | none =>
      have dead := List.find?_eq_none.1 ht
      refine List.find?_eq_none.2 fun u hu => ?_
      obtain ⟨t, mem, rfl⟩ := List.mem_map.1 hu
      have := dead t mem
      split
      · rwa [hf]
      · exact this
    | some t => rw [s.trav_modTrav_self n f t hf ht, Option.map_some, if_pos rfl]
  · rw [s.trav_modTrav_other id n f hf h]
    cases s.trav? n with
    | none => rfl
    | some t => rw [Option.map_some, if_neg h]

/-- A granted write takes a page for a traverse, and leaves the rest of its entry. -/
theorem State.unpaged_grantWrite (s : State) (ch : Chan) (n : Nat) :
    ((s.grantWrite ch).trav? n).map Traverse.unpaged = (s.trav? n).map Traverse.unpaged := by
  unfold State.grantWrite
  split
  · rfl
  · next e _ _ =>
    split
    · next page _ _ _ _ =>
      refine (congrArg (Option.map Traverse.unpaged) (s.trav?_modTrav e.traverse n (fun t =>
        { t with pages := t.pages ++ [page], reservation := t.reservation - 1 }) fun _ => rfl)).trans ?_
      cases s.trav? n with
      | none => rfl
      | some t =>
        rw [Option.map_some, Option.map_some, Option.map_some]
        split <;> rfl
    · rfl

/-- With a lane waiting the arbiter grants a write, or the port is taken. -/
theorem State.arbitrate_writes (s : State) (ch : Chan) (h : s.store.lanes.get ch ≠ []) :
    s.arbitrate = s ∨ ∃ k, s.arbitrate = s.grantWrite k := by
  by_cases free : s.store.port = .free
  · rcases s.arbitrate_cases free with ⟨k, e, rest, _, granted⟩ | ⟨empty, _⟩
    · exact .inr ⟨k, granted⟩
    · exact absurd (empty ch) h
  · exact .inl (s.arbitrate_busy free)

/-- A buffer handed over (R70): one more page of its traverse is in write, and nothing else of a directory
entry but its pages, of a link, or of a channel but its buffers, has changed. -/
theorem State.handOver_does (s : State) (ch : Chan) (i : BufId) (last aborted : Bool) :
    let t := s.handOver ch i last aborted
    (∀ n, (t.trav? n).map Traverse.unpaged = (s.trav? n).map fun u =>
        { u.unpaged with inWrite := u.inWrite + if n = ((s.chan ch).buf i).traverse then 1 else 0 })
      ∧ t.stations = s.stations
      ∧ t.channels = s.channels.set ch ((s.chan ch).modBuf i fun b => { b with state := .inWrite }) := by
  intro t
  let b := (s.chan ch).buf i
  let s1 := s.modChan ch fun c => c.modBuf i fun b => { b with state := .inWrite }
  let s2 := s1.modTrav b.traverse fun t => { t with inWrite := t.inWrite + 1 }
  let s3 := s2.modStore fun x =>
    { x with lanes := x.lanes.set ch (x.lanes.get ch ++ [laneEntryOf i b last aborted]) }
  have waits : s3.store.lanes.get ch ≠ [] := by simp [s3, State.modStore]
  have trav3 : ∀ n, (s3.trav? n).map Traverse.unpaged = (s.trav? n).map fun u =>
      { u.unpaged with inWrite := u.inWrite + if n = b.traverse then 1 else 0 } := by
    intro n
    refine (congrArg (Option.map Traverse.unpaged) (s1.trav?_modTrav b.traverse n (fun t =>
      { t with inWrite := t.inWrite + 1 }) fun _ => rfl)).trans ?_
    change Option.map _ (Option.map _ (s.trav? n)) = _
    cases s.trav? n with
    | none => rfl
    | some u =>
      rw [Option.map_some, Option.map_some, Option.map_some]
      split <;> rfl
  have handed : t = s3.arbitrate := rfl
  rw [handed]
  rcases s3.arbitrate_writes ch waits with taken | ⟨k, granted⟩
  · rw [taken]
    exact ⟨trav3, rfl, rfl⟩
  · rw [granted]
    exact ⟨fun n => (s3.unpaged_grantWrite k n).trans (trav3 n), s3.stations_grantWrite k, s3.channels_grantWrite k⟩

/-- Whether a channel still holds samples of a traverse in a buffer. -/
def Channel.pendingFor (c : Channel) (id : Nat) : Bool := c.bufA.pendingFor id || c.bufB.pendingFor id

/-- The end of a pull's pages (R70 to R72): what samples are left are handed over, and nothing else of a
directory entry but its pages, of a link, or of a channel but its buffers, has changed. -/
theorem State.finalPage_does (s : State) (ch : Chan) (id : Nat) (aborted : Bool) :
    let t := s.finalPage ch id aborted
    (∀ n, (t.trav? n).map Traverse.unpaged = (s.trav? n).map fun u =>
        { u.unpaged with inWrite := u.inWrite + if n = id ∧ (s.chan ch).pendingFor id = true then 1 else 0 })
      ∧ t.stations = s.stations
      ∧ (∃ a b, t.channels = s.channels.set ch { s.chan ch with bufA := a, bufB := b }) := by
  intro t
  have named : ∀ b : PageBuffer, b.pendingFor id = true → b.traverse = id := by
    intro b h
    simpa using (Bool.and_eq_true_iff.1 h).2
  by_cases a : (s.chan ch).bufA.pendingFor id = true
  · have handed : t = s.handOver ch .a true aborted := if_pos a
    obtain ⟨trav, stations, channels⟩ := s.handOver_does ch .a true aborted
    have holds : (s.chan ch).pendingFor id = true := by simp [Channel.pendingFor, a]
    rw [handed]
    refine ⟨fun n => ?_, stations, _, _, channels⟩
    rw [trav n, show ((s.chan ch).buf .a).traverse = id from named _ a]
    simp only [holds, and_true]
  · by_cases b : (s.chan ch).bufB.pendingFor id = true
    · have handed : t = s.handOver ch .b true aborted := (if_neg a).trans (if_pos b)
      obtain ⟨trav, stations, channels⟩ := s.handOver_does ch .b true aborted
      have holds : (s.chan ch).pendingFor id = true := by simp [Channel.pendingFor, b]
      rw [handed]
      refine ⟨fun n => ?_, stations, _, _, channels⟩
      rw [trav n, show ((s.chan ch).buf .b).traverse = id from named _ b]
      simp only [holds, and_true]
    · have marked : t = s.modStore fun x =>
          { x with lanes := x.lanes.set ch (markLast id aborted (x.lanes.get ch)) } := (if_neg a).trans (if_neg b)
      have holds : ¬(s.chan ch).pendingFor id = true := by simp [Channel.pendingFor, a, b]
      rw [marked]
      refine ⟨fun n => ?_, rfl, (s.chan ch).bufA, (s.chan ch).bufB, (Four.set_get _ _).symm⟩
      simp only [holds, Bool.false_eq_true, and_false, if_false, Nat.add_zero]
      rfl

/-- What the end of a pull's pages makes of a live traverse. -/
theorem State.finalPage_trav (s : State) (ch : Chan) (id : Nat) (aborted : Bool) (tr : Traverse)
    (h : s.trav? id = some tr) :
    ∃ u, (s.finalPage ch id aborted).trav? id = some u
      ∧ u.unpaged = { tr.unpaged with
          inWrite := tr.inWrite + if (s.chan ch).pendingFor id = true then 1 else 0 } := by
  obtain ⟨trav, _, _⟩ := s.finalPage_does ch id aborted
  have here := trav id
  rw [h, Option.map_some, Option.map_eq_some_iff] at here
  obtain ⟨u, hu, same⟩ := here
  exact ⟨u, hu, by simpa using same⟩

end Sys2Proof.Machine
end

section
namespace Sys2Proof.Machine

/-! A traverse aborted (R72). -/

/-- The store watch leaves the directory. -/
theorem State.trav?_watchStore (s : State) (n : Nat) : s.watchStore.trav? n = s.trav? n := by
  unfold State.trav?
  rw [s.store_watchStore]

/-- A reservation returned (R75): the entry's reservation changes, and no other entry. -/
theorem State.returnReservation_does (s : State) (id keep : Nat) (tr : Traverse) (h : s.trav? id = some tr) :
    let t := s.returnReservation id keep
    t.trav? id = some { tr with reservation := min tr.reservation keep }
      ∧ (∀ n, n ≠ id → t.trav? n = s.trav? n)
      ∧ ∃ es, s.raised t es ∧ ∀ e ∈ es, e.isStoreNews = true := by
  intro t
  let s1 := (s.modTrav id fun t => { t with reservation := min t.reservation keep }).modStore fun x =>
    { x with reservedPages := x.reservedPages - (tr.reservation - keep) }
  have done : t = s1.watchStore := by
    simp only [t, State.returnReservation, h]
    rfl
  obtain ⟨es, news, _, all⟩ := s1.raised_watchStore
  rw [done]
  refine ⟨(s1.trav?_watchStore id).trans (s.trav_modTrav_self id _ tr (fun _ => rfl) h),
    fun n hn => (s1.trav?_watchStore n).trans (s.trav_modTrav_other id n _ (fun _ => rfl) hn), es, ?_, all⟩
  exact State.raised_after _ _ _ _ (s.raised_of_eq s1 rfl rfl rfl) news

/-- A traverse that is not archived stays live when it is settled (R82, R83). -/
theorem State.settle_keeps (s : State) (id : Nat) (tr : Traverse) (h : s.trav? id = some tr)
    (kept : tr.archived = false) :
    let t := s.settle id
    t.trav? id = some { tr with settled := true } ∧ (∀ n, n ≠ id → t.trav? n = s.trav? n) ∧ s.raised t [] := by
  intro t
  by_cases settled : tr.settled = true
  · have same : t = s := by simp only [t, State.settle, h, settled, if_true]
    rw [same, h]
    refine ⟨?_, fun _ _ => rfl, s.raised_refl⟩
    rw [← settled]
  · let s1 := s.modTrav id fun t => { t with settled := true }
    have live : s1.trav? id = some { tr with settled := true } := s.trav_modTrav_self id _ tr (fun _ => rfl) h
    have same : t = s1 := by
      have tested : t = s1.testRelease id := by
        simp only [t, State.settle, h]
        exact if_neg settled
      rw [tested]
      simp only [State.testRelease, live, kept, Bool.false_and]
      rfl
    rw [same]
    exact ⟨live, fun n hn => s.trav_modTrav_other id n _ (fun _ => rfl) hn, s.raised_of_eq _ rfl rfl rfl⟩

/-- A traverse aborted in its pull (R72): it is ABORTED and settled, no other entry changes, and at most the
store is in the news. -/
theorem State.abortTraverse_does (s : State) (id : Nat) (tr : Traverse) (h : s.trav? id = some tr)
    (pull : tr.state = .recording ∨ tr.state = .paused ∨ tr.state = .finishing) (kept : tr.archived = false) :
    let t := s.abortTraverse id
    (∃ r, t.trav? id = some
        { tr with state := .aborted, endTime := some s.time, reservation := r, settled := true })
      ∧ (∀ n, n ≠ id → t.trav? n = s.trav? n)
      ∧ ∃ es, s.raised t es ∧ ∀ e ∈ es, e.isStoreNews = true := by
  intro t
  let waiting := ((s.store.lanes.get tr.channel).filter fun e => e.traverse == id).length
  let s1 := s.modTrav id fun t => { t with state := .aborted, endTime := some s.time }
  let s2 := s1.returnReservation id waiting
  have done : t = s2.settle id := by
    simp only [t, State.abortTraverse, h]
    rcases pull with h | h | h <;> rw [h]
  have live1 : s1.trav? id = some { tr with state := .aborted, endTime := some s.time } :=
    s.trav_modTrav_self id _ tr (fun _ => rfl) h
  obtain ⟨live2, others2, es, news, all⟩ := s1.returnReservation_does id waiting _ live1
  obtain ⟨live3, others3, quiet⟩ := s2.settle_keeps id _ live2 kept
  rw [done]
  refine ⟨⟨_, live3⟩, fun n hn => (others3 n hn).trans ((others2 n hn).trans
    (s.trav_modTrav_other id n _ (fun _ => rfl) hn)), es, ?_, all⟩
  exact State.raised_after _ _ _ _ (s.raised_of_eq s1 rfl rfl rfl) (State.raised_before _ _ _ _ news quiet)

/-! The tube of an aborted pull (R30). -/

/-- The tube enters RESTRICTED, or RETEST with cause ABORT and TUBE_RETEST is raised. -/
theorem State.abortTube_does (s : State) (p : Pos) (restriction : Bool) (x : Session) (e : TubeEntry)
    (hx : s.session = some x) (he : s.tube? p = some e) :
    let t := s.abortTube p restriction
    let back := if restriction then TubeState.restricted else .retest
    t.session = some (x.updTube p (fun v =>
        { v with preClaim := none, holder := none, state := back, changed := x.seconds
                 cause := if restriction then none else some .abort }) (x.counts.move e.state back))
      ∧ s.raised t (if restriction then [] else [.tubeRetest p .abort e.attempts]) := by
  intro t back
  cases restriction with
  | true =>
    exact ⟨congrArg State.session (s.moveTube_eq p .restricted (fun t =>
      { t with preClaim := none, holder := none, cause := none }) x e hx he), s.raised_moveTube _ _ _⟩
  | false =>
    let f : TubeEntry → TubeEntry := fun t =>
      { t with preClaim := none, holder := none, cause := some RetestCause.abort }
    have entry := s.tube?_moveTube p .retest f x e hx he
    refine ⟨(State.session_raiseRetest _ p).trans (congrArg State.session (s.moveTube_eq p .retest f x e hx he)), ?_⟩
    have news := State.raised_raiseRetest (s.moveTube p .retest f) p _ .abort entry rfl
    exact State.raised_after _ _ _ _ (s.raised_moveTube p .retest f) news

/-! A channel moved to another state. -/

/-- A channel that leaves its state raises CHANNEL_CHANGE with its permit of now (R47). -/
theorem State.raised_moveChan (s : State) (ch : Chan) (new : ChanState) (h : (s.chan ch).state ≠ new) :
    s.raised (s.moveChan ch new) [.channelChange ch new ((s.moveChan ch new).permitNow ch)] := by
  let s1 := s.modChan ch fun c => { c with state := new }
  have changed := s.setChan_of_ne ch new h
  have permit : (s.moveChan ch new).permitNow ch = s1.permitNow ch := by
    unfold State.moveChan
    rw [State.permitNow_refreshPermit, changed]
    exact State.permitNow_congr _ _ ch (State.session_raise s1 _)
      (congrArg Channel.state (congrArg (Four.get · ch) (State.channels_raise s1 _)))
  rw [permit]
  refine State.raised_before _ _ _ _ ?_ (State.raised_refreshPermit _ ch)
  rw [changed]
  exact State.raised_after _ _ _ _ (s.raised_modChan ch _) (State.raised_raise s1 _)

/-- A channel that moves to an up state sends at most its PERMIT. -/
theorem State.sent_moveChan (s : State) (ch : Chan) (new : ChanState) (up : new ≠ .offline) :
    (s.chan ch).sent <+: ((s.moveChan ch new).chan ch).sent := by
  have moved : (s.setChan ch new).chan ch = { s.chan ch with state := new } := by
    rw [State.chan, State.channels_setChan, Four.get_set_self]
  obtain ⟨v, hv⟩ : ∃ v, (s.setChan ch new).permitNow ch = some v := by
    unfold State.permitNow
    rw [moved]
    cases new with
    | offline => exact absurd rfl up
    | _ => exact ⟨_, rfl⟩
  change (s.chan ch).sent <+: (((s.setChan ch new).refreshPermit ch).channels.get ch).sent
  rw [State.channels_refreshPermit_up _ ch v hv, Four.get_set_self, moved]
  exact List.prefix_append _ _

end Sys2Proof.Machine
end

section
namespace Sys2Proof.Machine

/-! Aborts reported (R65). -/

/-- A channel but for what reporting changes. -/
def Channel.unreported (c : Channel) : Channel := { c with reports := [], sent := [], quietMs := 0 }

/-- The frame that reports an aborted traverse. -/
def Traverse.abortFrame (t : Traverse) : ProbeOut := .traverseDone t.id t.stored t.lost t.flags true

/-- The report of an abort of an up channel (R65): sent, once no page is in write. -/
theorem State.reportAbort_eq (s : State) (ch : Chan) (id : Nat) (tr : Traverse) (h : s.trav? id = some tr)
    (own : tr.channel = ch) (up : (s.chan ch).state ≠ .offline) :
    s.reportAbort id =
      if tr.state = .aborted ∧ tr.inWrite = 0 ∧ id ∈ (s.chan ch).reports then
        s.modChan ch fun c => { c with reports := c.reports.filter (· != id)
                                       sent := c.sent ++ [tr.abortFrame], quietMs := 0 }
      else s := by
  subst own
  simp only [State.reportAbort, h]
  split
  · let s1 := s.modChan tr.channel fun c => { c with reports := c.reports.filter (· != id) }
    have up1 : (s1.chan tr.channel).state ≠ .offline := by
      rw [State.chan_modChan_self]
      exact up
    have sent := s1.sendProbe_up tr.channel tr.abortFrame up1
    refine sent.trans ?_
    unfold State.sentOn
    simp [s1, State.modChan, Four.set_set]
  · rfl

/-- What the reports of the aborts `ids` may do, all of it to their channel `ch`. -/
structure State.reportsOn (s t : State) (ch : Chan) (ids : List Nat) : Prop where
  store : t.store = s.store
  others : ∀ k, k ≠ ch → t.chan k = s.chan k
  rest : (t.chan ch).unreported = (s.chan ch).unreported
  sent : ∀ f ∈ (s.chan ch).sent, f ∈ (t.chan ch).sent
  waits : ∀ id tr, id ∈ (s.chan ch).reports → s.trav? id = some tr → tr.inWrite ≠ 0 → id ∈ (t.chan ch).reports
  left : ∀ id, id ∈ (s.chan ch).reports → id ∉ ids → id ∈ (t.chan ch).reports
  told : ∀ id tr, id ∈ ids → id ∈ (s.chan ch).reports → s.trav? id = some tr → tr.state = .aborted →
    tr.inWrite = 0 → tr.abortFrame ∈ (t.chan ch).sent

theorem State.reportAbort_reports (s : State) (ch : Chan) (id : Nat)
    (own : ∀ tr, s.trav? id = some tr → tr.channel = ch) (up : (s.chan ch).state ≠ .offline) :
    s.reportsOn (s.reportAbort id) ch [id] := by
  have nothing : s.reportAbort id = s →
      (∀ tr, s.trav? id = some tr → ¬(tr.state = .aborted ∧ tr.inWrite = 0 ∧ id ∈ (s.chan ch).reports)) →
      s.reportsOn (s.reportAbort id) ch [id] := by
    intro same no
    rw [same]
    refine ⟨rfl, fun _ _ => rfl, rfl, fun _ h => h, fun _ _ h _ _ => h, fun _ h _ => h, ?_⟩
    intro j tr hj mem live aborted clear
    rw [List.mem_singleton] at hj
    subst hj
    exact absurd ⟨aborted, clear, mem⟩ (no tr live)
  cases h : s.trav? id with
  | none => exact nothing (by simp only [State.reportAbort, h]) fun tr live => by simp [h] at live
  | some tr =>
    have done := s.reportAbort_eq ch id tr h (own tr h) up
    by_cases due : tr.state = .aborted ∧ tr.inWrite = 0 ∧ id ∈ (s.chan ch).reports
    · rw [if_pos due] at done
      rw [done]
      refine ⟨rfl, fun k hk => s.chan_modChan_other ch k _ hk, ?_, ?_, ?_, ?_, ?_⟩
      all_goals rw [State.chan_modChan_self]
      · rfl
      · exact fun f hf => List.mem_append_left _ hf
      · intro j u mem live busy
        refine List.mem_filter.2 ⟨mem, ?_⟩
        simp only [bne_iff_ne, ne_eq]
        rintro rfl
        rw [h, Option.some_inj] at live
        exact busy (live ▸ due.2.1)
      · intro j mem other
        exact List.mem_filter.2 ⟨mem, by simpa using other⟩
      · intro j u hj _ live _ _
        rw [List.mem_singleton] at hj
        subst hj
        rw [h, Option.some_inj] at live
        subst live
        exact List.mem_append_right _ (List.mem_singleton_self _)
    · rw [if_neg due] at done
      refine nothing done fun u live => ?_
      rw [h, Option.some_inj] at live
      exact live ▸ due

/-- Aborts reported one after the other. -/
theorem State.reportsOn_foldl (ids : List Nat) (s : State) (ch : Chan)
    (own : ∀ id ∈ ids, ∀ tr, s.trav? id = some tr → tr.channel = ch) (up : (s.chan ch).state ≠ .offline) :
    s.reportsOn (ids.foldl (fun s id => s.reportAbort id) s) ch ids := by
  induction ids generalizing s with
  | nil => exact ⟨rfl, fun _ _ => rfl, rfl, fun _ h => h, fun _ _ h _ _ => h, fun _ h _ => h, by simp⟩
  | cons id rest ih =>
    have first := s.reportAbort_reports ch id (own id (List.mem_cons_self ..)) up
    let u := s.reportAbort id
    have trav : ∀ n, u.trav? n = s.trav? n := State.trav?_of_store s u first.store
    have up1 : (u.chan ch).state ≠ .offline := by
      have state : (u.chan ch).state = (s.chan ch).state := (congrArg Channel.state first.rest :)
      rwa [state]
    have later := ih u (fun j hj tr live => own j (List.mem_cons_of_mem _ hj) tr ((trav j).symm.trans live)) up1
    refine ⟨later.store.trans first.store, fun k hk => (later.others k hk).trans (first.others k hk),
      later.rest.trans first.rest, fun f hf => later.sent f (first.sent f hf),
      fun j tr mem live busy => later.waits j tr (first.waits j tr mem live busy) ((trav j).trans live) busy,
      fun j mem no => ?_, fun j tr hj mem live aborted clear => ?_⟩
    · obtain ⟨other, notRest⟩ : j ≠ id ∧ j ∉ rest := by simpa using no
      exact later.left j (first.left j mem (by simpa using other)) notRest
    · by_cases same : j = id
      · subst same
        exact later.sent _ (first.told j tr (List.mem_singleton_self _) mem live aborted clear)
      · have inRest : j ∈ rest := (List.mem_cons.1 hj).resolve_left same
        exact later.told j tr inRest (first.left j mem (by simpa using same)) ((trav j).trans live) aborted clear

/-- Every abort that a channel has to report, reported where it can be. -/
theorem State.reportAborts_does (s : State) (ch : Chan)
    (own : ∀ id ∈ (s.chan ch).reports, ∀ tr, s.trav? id = some tr → tr.channel = ch)
    (up : (s.chan ch).state ≠ .offline) : s.reportsOn (s.reportAborts ch) ch (s.chan ch).reports :=
  State.reportsOn_foldl _ s ch own up

end Sys2Proof.Machine
end

section
namespace Sys2Proof.Machine

/-! An inspection pull aborted (R30, R53, R55, R72). -/

/-- The entry of an aborted traverse but for its pages, `more` of them now in write. -/
def Traverse.abortedAt (tr : Traverse) (time more : Nat) : Traverse :=
  { tr.unpaged with state := .aborted, endTime := some time, settled := true, inWrite := tr.inWrite + more }

/-- The pages of a pull ended and its traverse aborted: the entry is ABORTED and settled, no other entry
changes but for its pages, and of the channel only the buffers. -/
theorem State.abortPages_does (s : State) (ch : Chan) (id : Nat) (tr : Traverse) (live : s.trav? id = some tr)
    (pull : tr.state = .recording ∨ tr.state = .paused ∨ tr.state = .finishing) (kept : tr.archived = false) :
    let t := (s.finalPage ch id true).abortTraverse id
    (∃ v, t.trav? id = some v ∧
        v.unpaged = tr.abortedAt s.time (if (s.chan ch).pendingFor id = true then 1 else 0))
      ∧ (∀ n, n ≠ id → (t.trav? n).map Traverse.unpaged = (s.trav? n).map Traverse.unpaged)
      ∧ (∃ a b, t.channels = s.channels.set ch { s.chan ch with bufA := a, bufB := b })
      ∧ ∃ es, s.raised t es ∧ ∀ e ∈ es, e.isStoreNews = true := by
  intro t
  let u := s.finalPage ch id true
  obtain ⟨pages, stations, a, b, channels⟩ := s.finalPage_does ch id true
  obtain ⟨w, live1, entry⟩ := s.finalPage_trav ch id true tr live
  have state : w.state = tr.state := (congrArg Traverse.state entry :)
  have archived : w.archived = tr.archived := (congrArg Traverse.archived entry :)
  obtain ⟨⟨r, live2⟩, others, es, news, all⟩ :=
    u.abortTraverse_does id w live1 (state ▸ pull) (archived.trans kept)
  have time : u.time = s.time := by simp [State.time, State.time?, u]
  refine ⟨⟨_, live2, ?_⟩, fun n hn => ?_, ⟨a, b, (State.channels_abortTraverse u id).trans channels⟩, es, ?_, all⟩
  · rw [← time]
    exact congrArg (fun y : Traverse => { y with state := .aborted, endTime := some u.time, settled := true }) entry
  · rw [others n hn, pages n]
    simp only [hn, false_and, if_false, Nat.add_zero]
    rfl
  · exact State.raised_after _ _ _ _ (s.raised_of_eq u stations (by simp [u]) (by simp [u])) news

/-- The channel of an aborted pull, before it comes to rest. -/
def Channel.dropPull (c : Channel) (id : Nat) (a b : PageBuffer) : Channel :=
  { c with bufA := a, bufB := b, claim := none, claimDue := none, pauseDue := none, traverse := none
           expect := none, pendingLost := false, screen := c.screen.discard id, reports := c.reports ++ [id] }

/-- An aborted pull, before its channel comes to rest. -/
theorem State.abortPull_does (s : State) (ch : Chan) (restriction : Bool) (tr : Traverse) (p : Pos)
    (x : Session) (e : TubeEntry) (has : (s.chan ch).traverse = some tr.id) (live : s.trav? tr.id = some tr)
    (hp : (s.chan ch).claim = some p)
    (pull : tr.state = .recording ∨ tr.state = .paused ∨ tr.state = .finishing) (kept : tr.archived = false)
    (hx : s.session = some x) (he : s.tube? p = some e) :
    let t := s.abortPull ch restriction true
    let back := if restriction then TubeState.restricted else .retest
    (∃ v, t.trav? tr.id = some v ∧
        v.unpaged = tr.abortedAt x.seconds (if (s.chan ch).pendingFor tr.id = true then 1 else 0))
      ∧ (∀ n, n ≠ tr.id → (t.trav? n).map Traverse.unpaged = (s.trav? n).map Traverse.unpaged)
      ∧ t.session = some (x.updTube p (fun v =>
          { v with preClaim := none, holder := none, state := back, changed := x.seconds
                   cause := if restriction then none else some .abort }) (x.counts.move e.state back))
      ∧ (∃ a b, t.channels = s.channels.set ch ((s.chan ch).dropPull tr.id a b))
      ∧ ∃ es, s.raised t (es ++ if restriction then [] else [.tubeRetest p .abort e.attempts])
          ∧ ∀ e ∈ es, e.isStoreNews = true := by
  intro t back
  obtain ⟨⟨v, live1, entry⟩, others, ⟨a, b, channels⟩, es, news, all⟩ := s.abortPages_does ch tr.id tr live pull kept
  let u := (s.finalPage ch tr.id true).abortTraverse tr.id
  let u1 := u.modChan ch fun c =>
    { c with claim := none, claimDue := none, pauseDue := none, traverse := none, expect := none
             pendingLost := false, screen := c.screen.discard tr.id, reports := c.reports ++ [tr.id] }
  have done : t = u1.abortTube p restriction := by
    simp only [t, State.abortPull, has, hp]
    rfl
  have session : u1.session = s.session := by simp [u1, u]
  obtain ⟨moved, told⟩ := u1.abortTube_does p restriction x e (session.trans hx)
    ((State.tube?_of_session s u1 session p).trans he)
  have time : s.time = x.seconds := by simp [State.time, State.time?, hx]
  have trav : ∀ n, t.trav? n = u.trav? n := fun n =>
    State.trav?_of_store u t (by rw [done]; exact State.store_abortTube u1 p restriction) n
  have chan : u.chan ch = { s.chan ch with bufA := a, bufB := b } := by
    rw [State.chan, channels, Four.get_set_self]
  rw [time] at entry
  refine ⟨⟨v, (trav _).trans live1, entry⟩, fun n hn => by rw [trav n, others n hn], by rw [done]; exact moved,
    ⟨a, b, ?_⟩, es, ?_, all⟩
  · rw [done, State.channels_abortTube, State.channels_modChan, chan, channels, Four.set_set]
    rfl
  · rw [done]
    exact State.raised_trans _ _ _ _ _ news (State.raised_after _ _ _ _ (u.raised_modChan ch _) told)

end Sys2Proof.Machine
end

section
namespace Sys2Proof.Machine

/-- Work that a channel owns: the traverse in hand, and those it has still to report (R65). -/
theorem State.ownsWork_channel (s : State) (ch : Chan) (owns : s.ownsWork ch = true) (id : Nat) (tr : Traverse)
    (h : (s.chan ch).traverse = some id ∨ id ∈ (s.chan ch).reports) (live : s.trav? id = some tr) :
    tr.channel = ch := by
  have mem : id ∈ (s.chan ch).traverse.toList ++ (s.chan ch).reports := by simpa using h
  have own := List.all_eq_true.1 owns id mem
  rw [live] at own
  simpa using own

/-- An inspection pull aborted, its channel at rest and its aborts reported. -/
theorem State.abortAndRest_does (s : State) (ch : Chan) (restriction : Bool) (tr : Traverse) (p : Pos)
    (x : Session) (e : TubeEntry) (b : Bracket) (has : (s.chan ch).traverse = some tr.id)
    (live : s.trav? tr.id = some tr) (hp : (s.chan ch).claim = some p) (owns : s.ownsWork ch = true)
    (pull : tr.state = .recording ∨ tr.state = .paused ∨ tr.state = .finishing) (kept : tr.archived = false)
    (hx : s.session = some x) (he : s.tube? p = some e) (hb : s.openBracket ch = some b)
    (working : (s.chan ch).state = .recording ∨ (s.chan ch).state = .paused) :
    let t := s.abortAndRest ch restriction
    let back := if restriction then TubeState.restricted else .retest
    let rest := if b.calDue.isSome then ChanState.due else .ready
    let c := t.chan ch
    ∃ v, t.trav? tr.id = some v
      ∧ v.unpaged = tr.abortedAt x.seconds (if (s.chan ch).pendingFor tr.id = true then 1 else 0)
      ∧ (∀ n, n ≠ tr.id → (t.trav? n).map Traverse.unpaged = (s.trav? n).map Traverse.unpaged)
      ∧ t.session = some (x.updTube p (fun v =>
          { v with preClaim := none, holder := none, state := back, changed := x.seconds
                   cause := if restriction then none else some .abort }) (x.counts.move e.state back))
      ∧ c.state = rest ∧ c.claim = none ∧ c.traverse = none ∧ c.pauseDue = none ∧ c.expect = none
      ∧ c.permit = t.permitNow ch
      ∧ (v.inWrite = 0 → v.abortFrame ∈ c.sent) ∧ (v.inWrite ≠ 0 → tr.id ∈ c.reports)
      ∧ (∃ es, s.raised t (es ++ (if restriction then [] else [.tubeRetest p .abort e.attempts])
            ++ [.channelChange ch rest (t.permitNow ch)]) ∧ ∀ e ∈ es, e.isStoreNews = true)
      ∧ ∀ k, k ≠ ch → t.chan k = s.chan k := by
  intro t back rest c
  obtain ⟨⟨v, live3, entry⟩, others, session, ⟨a, b', channels⟩, es, news, all⟩ :=
    s.abortPull_does ch restriction tr p x e has live hp pull kept hx he
  let u := s.abortPull ch restriction true
  let u1 := u.moveChan ch rest
  have resting : u.restState ch = rest :=
    u.restState_of_bracket ch b ((State.openBracket_congr s u ch (by simp [u])).trans hb)
  have done : t = u1.reportAborts ch := by
    simp only [t, State.abortAndRest, u1, u, ← resting]
  have dropped : u.chan ch = (s.chan ch).dropPull tr.id a b' := by rw [State.chan, channels, Four.get_set_self]
  obtain ⟨silent, permit⟩ := u.moveChan_chan ch rest
  rw [dropped] at silent
  have trav1 : ∀ n, u1.trav? n = u.trav? n := fun n => State.trav?_of_store u u1 (by simp [u1]) n
  have state1 : (u1.chan ch).state = rest := (congrArg Channel.state silent :)
  have reports1 : (u1.chan ch).reports = (s.chan ch).reports ++ [tr.id] := (congrArg Channel.reports silent :)
  have own : ∀ id ∈ (u1.chan ch).reports, ∀ w, u1.trav? id = some w → w.channel = ch := by
    intro id mem w hw
    rw [trav1] at hw
    by_cases same : id = tr.id
    · subst same
      rw [live3, Option.some_inj] at hw
      subst hw
      exact (congrArg Traverse.channel entry :).trans (s.ownsWork_channel ch owns _ tr (.inl has) live)
    · have before : (s.trav? id).map Traverse.unpaged = some w.unpaged := by
        rw [← others id same]
        exact congrArg (Option.map Traverse.unpaged) hw
      obtain ⟨w0, hw0, same0⟩ := Option.map_eq_some_iff.1 before
      have inReports : id ∈ (s.chan ch).reports := by
        rw [reports1] at mem
        simpa [same] using mem
      exact (congrArg Traverse.channel same0 :).symm.trans (s.ownsWork_channel ch owns id w0 (.inr inReports) hw0)
  have up1 : (u1.chan ch).state ≠ .offline := by
    rw [state1]
    simp only [rest]
    split <;> simp
  have reported := u1.reportAborts_does ch own up1
  rw [← done] at reported
  have kept1 : c.unreported = (u1.chan ch).unreported := reported.rest
  have travt : ∀ n, t.trav? n = u.trav? n := fun n =>
    (State.trav?_of_store u1 t reported.store n).trans (trav1 n)
  have session1 : t.session = u1.session := by rw [done]; exact State.session_reportAborts u1 ch
  have statet : c.state = (u1.chan ch).state := (congrArg Channel.state kept1 :)
  have permitt : t.permitNow ch = u1.permitNow ch := State.permitNow_congr _ _ ch session1 statet
  have mine : tr.id ∈ (u1.chan ch).reports := by rw [reports1]; simp
  have live1 : u1.trav? tr.id = some v := (trav1 _).trans live3
  have aborted : v.state = .aborted := (congrArg Traverse.state entry :)
  refine ⟨v, (travt _).trans live3, entry, fun n hn => by rw [travt n]; exact others n hn,
    session1.trans ((u.session_moveChan ch rest).trans session), statet.trans state1, ?_, ?_, ?_, ?_, ?_,
    fun clear => reported.told tr.id v mine mine live1 aborted clear,
    fun busy => reported.waits tr.id v mine live1 busy, ⟨es, ?_, all⟩, fun k hk => ?_⟩
  · exact (congrArg Channel.claim kept1 :).trans (congrArg Channel.claim silent :)
  · exact (congrArg Channel.traverse kept1 :).trans (congrArg Channel.traverse silent :)
  · exact (congrArg Channel.pauseDue kept1 :).trans (congrArg Channel.pauseDue silent :)
  · exact (congrArg Channel.expect kept1 :).trans (congrArg Channel.expect silent :)
  · exact (congrArg Channel.permit kept1 :).trans (permit.trans permitt.symm)
  · have leaves : (u.chan ch).state ≠ rest := by
      rw [dropped]
      change (s.chan ch).state ≠ rest
      simp only [rest]
      rcases working with w | w <;> rw [w] <;> split <;> simp
    rw [permitt]
    refine State.raised_before _ _ _ _ (State.raised_trans _ _ _ _ _ news (u.raised_moveChan ch rest leaves)) ?_
    rw [done]
    exact u1.raised_of_eq _ (by simp) (by simp) (by simp)
  · rw [reported.others k hk, State.chan_moveChan_other _ _ _ _ hk, State.chan, channels]
    exact Four.get_set_other _ _ _ _ hk

end Sys2Proof.Machine
end

section
namespace Sys2Proof.Machine

/-! ABANDON and the expiry of a pause (R53, R55). -/

theorem execAbandon_pulling (ch : Chan) (r : AbandonReason) (s : State) (up : s.probeUp ch)
    (pulling : (s.chan ch).state = .recording ∨ (s.chan ch).state = .paused) :
    execAbandon ch r s = .next ((s.hearProbe ch).abortAndRest ch (r == .restriction)) := by
  refine (s.probeFrame_up ch _ up).trans ?_
  unfold State.takeAbandon
  rw [State.chan_hearProbe_self]
  rcases pulling with h | h <;> rw [h]

theorem execPauseExpiry_due (ch : Chan) (s : State) (awake : s.awake)
    (paused : (s.chan ch).state = .paused) (due : s.reached (s.chan ch).pauseDue = true) :
    execPauseExpiry ch s = .next (s.abortAndRest ch false) := by
  refine (s.act_awake _ awake).trans ?_
  rw [if_pos ⟨paused, due⟩]

theorem execAbandon_calibrating (ch : Chan) (r : AbandonReason) (s : State) (up : s.probeUp ch)
    (calibrating : (s.chan ch).state = .calibrating) :
    execAbandon ch r s = .next (((s.hearProbe ch).abortCalibration ch).moveChan ch
      (((s.hearProbe ch).abortCalibration ch).restState ch)) := by
  refine (s.probeFrame_up ch _ up).trans ?_
  unfold State.takeAbandon
  rw [State.chan_hearProbe_self, calibrating]

/-- The commands that abort a pull, with what they make of the tube. -/
theorem exec_abortsPull (ch : Chan) (s : State) (x : Session) (c : Instr) (up : s.probeUp ch)
    (hx : s.session = some x)
    (how : ((s.chan ch).state = .recording ∨ (s.chan ch).state = .paused) ∧ (∃ r, c = .abandon ch r)
      ∨ (s.chan ch).state = .paused ∧ c = .pauseExpiry ch
        ∧ (∃ d, (s.chan ch).pauseDue = some d ∧ d ≤ x.seconds)) :
    ∃ ms restriction, exec c s = .next ((s.silentFor ch ms).abortAndRest ch restriction)
      ∧ (c = .abandon ch .restriction ↔ restriction = true) := by
  rcases how with ⟨pulling, r, rfl⟩ | ⟨paused, rfl, d, due, past⟩
  · refine ⟨0, r == .restriction, execAbandon_pulling ch r s up pulling, ?_⟩
    cases r <;> simp
  · refine ⟨(s.chan ch).silenceMs, false, ?_, by simp⟩
    rw [s.silentFor_self]
    exact execPauseExpiry_due ch s up.1 paused (due ▸ s.reached_of_le x d hx past)

/-- What is news of the store is no TUBE_RETEST. -/
theorem filter_isRetest_storeNews (es : List Event) (h : ∀ e ∈ es, e.isStoreNews = true) :
    es.filter Event.isRetest = [] := by
  refine List.filter_eq_nil_iff.2 fun e he => ?_
  have news := h e he
  cases e <;> simp_all [Event.isStoreNews, Event.isRetest]

/-! A calibration pull aborted (R129). -/

/-- An attempt ended as ABORTED, before its channel comes to rest. -/
theorem State.abortCalibration_does (s : State) (ch : Chan) (a : Attempt) (tr : Traverse)
    (up : (s.chan ch).state = .calibrating) (ha : s.attempt? ch = some a) (live : s.trav? a.traverse = some tr)
    (pull : tr.state = .recording) (kept : tr.archived = false) :
    let t := s.abortCalibration ch
    (∃ v more, t.trav? a.traverse = some v ∧ v.unpaged = tr.abortedAt s.time more)
      ∧ (∃ bufA bufB, t.channels = s.channels.set ch
          { s.chan ch with bufA := bufA, bufB := bufB, screen := (s.chan ch).screen.discard a.traverse
                           traverse := none, expect := none, pendingLost := false, linkLossMark := false
                           sent := (s.chan ch).sent ++ [.calResult a.traverse (.rejected .aborted)]
                           quietMs := 0 })
      ∧ t.cal = { s.cal with attempts := s.cal.attempts.set ch none }
      ∧ ∃ es, s.raised t (es ++ [.calRejected ch a.traverse .aborted]) ∧ ∀ e ∈ es, e.isStoreNews = true := by
  intro t
  obtain ⟨⟨v, live1, entry⟩, _, ⟨bufA, bufB, channels⟩, es, news, all⟩ :=
    s.abortPages_does ch a.traverse tr live (.inl pull) kept
  let u := (s.finalPage ch a.traverse true).abortTraverse a.traverse
  let f : Channel → Channel := fun c =>
    { c with screen := c.screen.discard a.traverse, traverse := none, expect := none
             pendingLost := false, linkLossMark := false }
  let u1 := (u.modChan ch f).setAttempt ch none
  let u2 := u1.sendProbe ch (.calResult a.traverse (.rejected .aborted))
  have done : t = u2.raise (.calRejected ch a.traverse .aborted) := by
    simp only [t, State.abortCalibration, ha]
    rfl
  have chan : u.chan ch = { s.chan ch with bufA := bufA, bufB := bufB } := by
    rw [State.chan, channels, Four.get_set_self]
  have chan1 : u1.chan ch = { s.chan ch with
      bufA := bufA, bufB := bufB, screen := (s.chan ch).screen.discard a.traverse
      traverse := none, expect := none, pendingLost := false, linkLossMark := false } := by
    refine (u.chan_modChan_self ch f).trans ?_
    rw [chan]
  have channels1 : u1.channels = s.channels.set ch (u1.chan ch) := by
    refine (u.channels_modChan ch f).trans ?_
    rw [channels, Four.set_set, chan1, chan]
  have up1 : (u1.chan ch).state ≠ .offline := by
    rw [chan1]
    simp [up]
  have cal : u.cal = s.cal := by simp [u]
  rw [done]
  refine ⟨⟨v, _, ?_, entry⟩, ⟨bufA, bufB, ?_⟩, ?_, es, ?_, all⟩
  · rw [← live1]
    exact State.trav?_of_store u _ (by simp [u2, u1]) _
  · rw [State.channels_raise, State.channels_sendProbe_up _ _ _ up1, channels1, Four.set_set, chan1]
  · rw [State.cal_raise, State.cal_sendProbe]
    exact congrArg (fun c : Calibration => { c with attempts := c.attempts.set ch none }) cal
  · refine State.raised_trans _ _ _ _ _ news (State.raised_after _ _ _ _ ?_ (u2.raised_raise _))
    exact State.raised_after _ _ _ _ (u.raised_of_eq u1 rfl rfl rfl) (u1.raised_sendProbe ch _)

end Sys2Proof.Machine
end

section
namespace Sys2Proof.Machine

/-- The state that a channel comes to rest in leaves its calibration, and is up. -/
theorem State.restState_ne (s : State) (ch : Chan) :
    s.restState ch ≠ .calibrating ∧ s.restState ch ≠ .offline := by
  unfold State.restState
  split
  · simp
  · split <;> simp

/-- ABANDON in CALIBRATING (R129): the attempt ends, and the channel comes to rest. -/
theorem abandonEndsCalibration (ch : Chan) (r : AbandonReason) (s : State) (a : Attempt) (tr : Traverse)
    (x : Session) (up : s.probeUp ch) (calibrating : (s.chan ch).state = .calibrating)
    (ha : s.attempt? ch = some a) (live : s.trav? a.traverse = some tr) (kept : tr.archived = false)
    (pull : tr.state = .recording) (hx : s.session = some x) :
    ∃ t tr', exec (.abandon ch r) s = .next t
      ∧ t.trav? a.traverse = some tr' ∧ tr'.state = .aborted ∧ tr'.settled = true
      ∧ tr'.endTime = some x.seconds ∧ tr'.stored = tr.stored ∧ tr'.lost = tr.lost
      ∧ tr'.landmarks = tr.landmarks ∧ tr'.indications = tr.indications
      ∧ (s.chan ch).sent ++ [.calResult a.traverse (.rejected .aborted)] <+: (t.chan ch).sent
      ∧ (t.chan ch).state = s.restState ch
      ∧ (t.chan ch).traverse = none ∧ (t.chan ch).linkLossMark = false
      ∧ (t.chan ch).expect = none ∧ (t.chan ch).pendingLost = false
      ∧ (∃ es, t.stations = (s.raiseAll es).stations
          ∧ es.count (.calRejected ch a.traverse .aborted) = 1
          ∧ es.getLast? = some (.channelChange ch (t.chan ch).state (t.permitNow ch)))
      ∧ t.cal = { s.cal with attempts := s.cal.attempts.set ch none }
      ∧ t.session = s.session
      ∧ (∀ k, k ≠ ch → t.chan k = s.chan k ∧ t.attempt? k = s.attempt? k)
      ∧ t.comparisons = s.comparisons ∧ t.config = s.config := by
  let u := s.hearProbe ch
  have heard : u.chan ch = { s.chan ch with silenceMs := 0 } := s.chan_hearProbe_self ch
  obtain ⟨⟨v, more, live1, entry⟩, ⟨bufA, bufB, channels⟩, cal, es, news, all⟩ :=
    u.abortCalibration_does ch a tr (by rw [heard]; exact calibrating) ha live pull kept
  let u1 := u.abortCalibration ch
  let t := u1.moveChan ch (u1.restState ch)
  have time : u.time = x.seconds := by simp [State.time, State.time?, u, hx]
  have rest : u1.restState ch = s.restState ch := by
    unfold State.restState State.openBracket
    rw [cal]
    rfl
  have chan1 : u1.chan ch = _ := (congrArg (Four.get · ch) channels).trans (Four.get_set_self _ _ _)
  obtain ⟨silent, -⟩ := u1.moveChan_chan ch (u1.restState ch)
  rw [chan1, heard] at silent
  have state : (t.chan ch).state = u1.restState ch := (congrArg Channel.state silent :)
  have leaves : (u1.chan ch).state ≠ u1.restState ch := by
    rw [chan1, heard]
    exact fun same => (u1.restState_ne ch).1 (same.symm.trans calibrating)
  have cal_t : t.cal = { s.cal with attempts := s.cal.attempts.set ch none } := (u1.cal_moveChan ch _).trans cal
  let raised := es ++ [Event.calRejected ch a.traverse .aborted]
    ++ [.channelChange ch (u1.restState ch) (t.permitNow ch)]
  have told : u.raised t raised := State.raised_trans _ _ _ _ _ news (u1.raised_moveChan ch _ leaves)
  have absent : es.count (.calRejected ch a.traverse .aborted) = 0 := by
    refine List.count_eq_zero.2 fun mem => ?_
    simpa [Event.isStoreNews] using all _ mem
  refine ⟨t, v, execAbandon_calibrating ch r s up calibrating, ?_, (congrArg Traverse.state entry :),
    (congrArg Traverse.settled entry :), ?_, (congrArg Traverse.stored entry :), (congrArg Traverse.lost entry :),
    (congrArg Traverse.landmarks entry :), (congrArg Traverse.indications entry :), ?_, state.trans rest,
    (congrArg Channel.traverse silent :), (congrArg Channel.linkLossMark silent :),
    (congrArg Channel.expect silent :), (congrArg Channel.pendingLost silent :), ⟨raised, ?_, ?_, ?_⟩, cal_t, ?_,
    fun k hk => ⟨?_, ?_⟩, ?_, ?_⟩
  · rw [← live1]
    exact State.trav?_of_store u1 t (u1.store_moveChan ch _) _
  · rw [← time]
    exact (congrArg Traverse.endTime entry :)
  · refine List.IsPrefix.trans ?_ (u1.sent_moveChan ch _ (u1.restState_ne ch).2)
    rw [chan1, heard]
  · exact (State.raised_after _ _ _ _ (s.raised_silentFor ch 0) told).1
  · simp [raised, List.count_append, absent]
  · rw [List.getLast?_concat, state]
  · exact (u1.session_moveChan ch _).trans (u.session_abortCalibration ch)
  · refine (State.chan_moveChan_other _ _ _ _ hk).trans ?_
    exact (congrArg (Four.get · k) channels).trans ((Four.get_set_other _ _ _ _ hk).trans
      (s.chan_hearProbe_other ch k hk))
  · unfold State.attempt?
    rw [cal_t]
    exact Four.get_set_other _ _ _ _ hk
  · exact (u1.comparisons_moveChan ch _).trans (u.comparisons_abortCalibration ch)
  · exact (u1.config_moveChan ch _).trans (u.config_abortCalibration ch)

/-- Settles O38: an inspection pull aborted, and a calibration pull aborted. -/
theorem abortedPullSendsTheTubeBack : Obligations.AbortedPullSendsTheTubeBack := by
  refine ⟨fun ch s tr p x e b c up inHand hp owns kept pull hx he claimed hb how => ?_,
    fun ch r s a tr x up calibrating ha live kept pull hx => ?_⟩
  · intro restricted back
    have working : (s.chan ch).state = .recording ∨ (s.chan ch).state = .paused := by
      rcases how with ⟨h, _⟩ | ⟨h, _⟩
      · exact h
      · exact .inr h
    obtain ⟨id, has, live⟩ := Option.bind_eq_some_iff.1 inHand
    have named := s.trav_id id tr live
    subst named
    obtain ⟨ms, restriction, done, which⟩ := exec_abortsPull ch s x c up hx how
    let u := s.silentFor ch ms
    have heard : u.chan ch = { s.chan ch with silenceMs := ms } := s.chan_silentFor_self ch ms
    have owns_u : u.ownsWork ch = true := by
      rw [← owns]
      unfold State.ownsWork
      rw [heard]
      rfl
    obtain ⟨v, live1, entry, others, session, state, claim, traverse, pause, expect, permit, sends, waits,
        ⟨es, news, all⟩, kept_chans⟩ := u.abortAndRest_does ch restriction tr p x e b (by rw [heard]; exact has) live
      (by rw [heard]; exact hp) owns_u pull kept hx he hb (by rw [heard]; exact working)
    have inWrite : v.inWrite = tr.inWrite + if (s.chan ch).pendingFor tr.id = true then 1 else 0 := by
      have := (congrArg Traverse.inWrite entry :)
      rw [heard] at this
      exact this
    have back_eq : back = if restriction then TubeState.restricted else .retest := by
      simp only [back, restricted, which]
    rw [← back_eq, claimed] at session
    let t := u.abortAndRest ch restriction
    let raised := es ++ (if restriction then [] else [Event.tubeRetest p .abort e.attempts])
      ++ [.channelChange ch (if b.calDue.isSome then .due else .ready) (t.permitNow ch)]
    have told : u.raised t raised := news
    refine ⟨_, v, done, live1, (congrArg Traverse.state entry :), (congrArg Traverse.endTime entry :),
      (congrArg Traverse.settled entry :), (congrArg Traverse.stored entry :), (congrArg Traverse.lost entry :),
      ?_, state, claim, traverse, pause, expect, permit, fun clear noA noB => ?_, fun busy => ?_,
      ⟨raised, ?_, ?_, ?_⟩,
      fun n hn => ?_, fun k hk => (kept_chans k hk).trans (s.chan_silentFor_other ch k ms hk), ?_, ?_, ?_⟩
    · rw [session]
      simp only [restricted, which]
    · have none : v.inWrite = 0 := by rw [inWrite, clear]; simp [Channel.pendingFor, noA, noB]
      have frame : v.abortFrame = .traverseDone tr.id tr.stored tr.lost tr.flags true :=
        (congrArg Traverse.abortFrame entry :)
      rw [← frame]
      exact sends none
    · refine waits ?_
      rw [inWrite]
      rcases busy with busy | busy | busy
      · omega
      · simp [Channel.pendingFor, busy]
      · simp [Channel.pendingFor, busy]
    · exact (State.raised_after _ _ _ _ (s.raised_silentFor ch ms) told).1
    · rw [List.filter_append, List.filter_append, filter_isRetest_storeNews es all]
      simp only [restricted, which]
      cases restriction <;> simp [Event.isRetest]
    · rw [List.getLast?_concat, state]
    · have same := congrArg (Option.map Traverse.state) (others n hn)
      rw [Option.map_map, Option.map_map] at same
      exact same
    · exact u.cal_abortAndRest ch restriction
    · exact u.comparisons_abortAndRest ch restriction
    · exact u.config_abortAndRest ch restriction
  · obtain ⟨t, tr', done, live1, aborted, settled, ends, stored, lost, landmarks, indications, sent, state, rest⟩ :=
      abandonEndsCalibration ch r s a tr x up calibrating ha live kept pull hx
    refine ⟨t, tr', done, live1, aborted, settled, ends, stored, lost, landmarks, indications, sent, ?_, rest⟩
    rw [state]
    unfold State.restState
    cases s.openBracket ch <;> rfl

end Sys2Proof.Machine
end

section
namespace Sys2Proof.Machine

/-! Acts in good order: what every act but those that begin a traverse, open or close a session, edit the
plan or reset the part may do to the permits and to the work in hand (R48, R67, R89). -/

/-- What a channel's permit is judged by. -/
def Channel.granted (c : Channel) : ChanState × Option Permit := (c.state, c.permit)

/-- What the work law asks of a live traverse. -/
def Traverse.owner (t : Traverse) : Nat × Chan := (t.id, t.channel)

/-- What permits and traverse ids ask of a session: whether its plan is locked, and its next traverse id. -/
def charter (a : Option Session) : Option (Bool × Nat) := a.map fun x => (x.plan.locked, x.nextTraverse)

/-- An act from `s` to `t` in good order: the lock of the plan and the next traverse id stay, traverses may end
but none begins, no channel takes up work, and each channel keeps its state and its permit or has the permit of
now. The permit of a channel in `skip` is still to be recomputed. -/
structure State.Orderly (skip : Option Chan) (s t : State) : Prop where
  chartered : charter t.session = charter s.session
  owners : (t.store.directory.map Traverse.owner).Sublist (s.store.directory.map Traverse.owner)
  work : ∀ k, t.workIds k ⊆ s.workIds k
  permits : ∀ k, skip ≠ some k →
    (t.chan k).granted = (s.chan k).granted ∨ (t.chan k).permit = t.permitNow k

/-- Sessions with the same charter give the same permit (R48). -/
theorem permitOf_congr (a b : Option Session) (x : ChanState) (h : charter a = charter b) :
    permitOf a x = permitOf b x := by
  cases a <;> cases b <;> simp_all [charter, permitOf]

theorem nextTraverse_congr (s t : State) (h : charter t.session = charter s.session) :
    t.nextTraverse = s.nextTraverse := by
  unfold State.nextTraverse
  cases hs : s.session <;> cases ht : t.session <;> simp_all [charter]

/-- The permit of now follows the charter of the session and the state of the channel. -/
theorem State.permitNow_of_charter (s t : State) (k : Chan) (h : charter t.session = charter s.session)
    (hc : (t.chan k).state = (s.chan k).state) : t.permitNow k = s.permitNow k := by
  unfold State.permitNow
  rw [hc]
  split
  · rfl
  · rw [permitOf_congr _ _ _ h]

theorem State.Orderly.refl (s : State) : State.Orderly none s s :=
  ⟨rfl, List.Sublist.refl _, fun _ => List.Subset.refl _, fun _ _ => .inl rfl⟩

/-- Acts in good order follow one another. -/
theorem State.Orderly.trans {skip : Option Chan} {s t u : State} (h : State.Orderly skip s t)
    (k : State.Orderly none t u) : State.Orderly skip s u := by
  refine ⟨k.chartered.trans h.chartered, k.owners.trans h.owners,
    fun c _ hid => h.work c (k.work c hid), fun c hc => ?_⟩
  rcases k.permits c nofun with same | now
  · rcases h.permits c hc with same' | now'
    · exact .inl (same.trans same')
    · refine .inr ?_
      have state : (u.chan c).state = (t.chan c).state := congrArg Prod.fst same
      have permit : (u.chan c).permit = (t.chan c).permit := congrArg Prod.snd same
      rw [permit, now', State.permitNow_of_charter t u c k.chartered state]
  · exact .inr now

/-- An act in good order keeps the permit law. -/
theorem State.Orderly.permitLaw {s t : State} (h : State.Orderly none s t) (law : s.permitLaw) :
    t.permitLaw := by
  intro k
  rcases h.permits k nofun with same | now
  · have state : (t.chan k).state = (s.chan k).state := congrArg Prod.fst same
    have permit : (t.chan k).permit = (s.chan k).permit := congrArg Prod.snd same
    rw [permit, law k, State.permitNow_of_charter s t k h.chartered state]
  · exact now

/-- The part of the work law that asks for no session: traverse ids are given once, and the work of a
channel is its own (R67). -/
def State.worked (s : State) : Prop :=
  (s.store.directory.map (·.id)).Nodup
    ∧ (∀ t ∈ s.store.directory, t.id < s.nextTraverse)
    ∧ ∀ ch, ∀ id ∈ s.workIds ch,
        id < s.nextTraverse ∧ ∀ t ∈ s.store.directory, t.id = id → t.channel = ch

/-- An act in good order keeps the work its own. -/
theorem State.Orderly.worked {skip : Option Chan} {s t : State} (h : State.Orderly skip s t)
    (law : s.worked) : t.worked := by
  obtain ⟨once, below, own⟩ := law
  have ids : ∀ x : State, x.store.directory.map (·.id) = (x.store.directory.map Traverse.owner).map Prod.fst :=
    fun x => by simp [Function.comp_def, Traverse.owner]
  have found : ∀ u ∈ t.store.directory, ∃ v ∈ s.store.directory, v.id = u.id ∧ v.channel = u.channel := by
    intro u hu
    obtain ⟨v, hv, e⟩ := List.mem_map.1 (h.owners.subset (List.mem_map_of_mem hu))
    exact ⟨v, hv, congrArg Prod.fst e, congrArg Prod.snd e⟩
  refine ⟨?_, fun u hu => ?_, fun ch id hid => ?_⟩
  · rw [ids] at once ⊢
    exact (h.owners.map Prod.fst).nodup once
  · obtain ⟨v, hv, same, _⟩ := found u hu
    rw [nextTraverse_congr _ _ h.chartered, ← same]
    exact below v hv
  · obtain ⟨lower, mine⟩ := own ch id (h.work ch hid)
    refine ⟨by rw [nextTraverse_congr _ _ h.chartered]; exact lower, fun u hu e => ?_⟩
    obtain ⟨v, hv, same, chan⟩ := found u hu
    rw [← chan]
    exact mine v hv (same.trans e)

/-! The elementary acts. -/

section Orderly
variable {skip : Option Chan} {s u : State}

/-- An act that leaves the channels and the attempts, and of the session and the directory what `Orderly`
asks for. -/
theorem State.Orderly.aside (h : State.Orderly skip s u) (t : State)
    (chartered : charter t.session = charter u.session)
    (owners : (t.store.directory.map Traverse.owner).Sublist (u.store.directory.map Traverse.owner))
    (channels : t.channels = u.channels) (attempts : t.cal.attempts = u.cal.attempts) :
    State.Orderly skip s t := by
  have chan : ∀ k, t.chan k = u.chan k := fun k => by rw [State.chan, channels, State.chan]
  refine h.trans ⟨chartered, owners, fun k => ?_, fun k _ => .inl (by rw [chan])⟩
  rw [State.workIds, State.attempt?, attempts, chan]
  exact List.Subset.refl _

/-- An act that leaves the session, the channels, the store and the attempts. -/
theorem State.Orderly.apart (h : State.Orderly skip s u) (t : State) (session : t.session = u.session)
    (channels : t.channels = u.channels) (store : t.store = u.store)
    (attempts : t.cal.attempts = u.cal.attempts) : State.Orderly skip s t :=
  h.aside t (by rw [session]) (by rw [store]) channels attempts

/-- An act on one channel that takes up no work. -/
theorem State.Orderly.channel (h : State.Orderly skip s u) (ch : Chan) (f : Channel → Channel)
    (work : (f (u.chan ch)).traverse.toList ++ (f (u.chan ch)).reports ⊆ u.workIds ch)
    (permits : skip ≠ some ch → (f (u.chan ch)).granted = (u.chan ch).granted
      ∨ (f (u.chan ch)).permit = (u.modChan ch f).permitNow ch) :
    State.Orderly skip s (u.modChan ch f) := by
  refine ⟨h.chartered, h.owners, fun k => ?_, fun k hk => ?_⟩
  · refine List.Subset.trans ?_ (h.work k)
    by_cases e : k = ch
    · subst e
      unfold State.workIds at work ⊢
      rw [State.chan_modChan_self]
      exact List.append_subset.2 ⟨work, List.subset_append_right _ _⟩
    · unfold State.workIds
      rw [State.chan_modChan_other _ _ _ _ e]
      exact List.Subset.refl _
  · by_cases e : k = ch
    · subst e
      rw [State.chan_modChan_self]
      rcases permits hk with same | now
      · rw [same]
        refine (h.permits k hk).imp id fun now => ?_
        have state : (f (u.chan k)).state = (u.chan k).state := congrArg Prod.fst same
        have permit : (f (u.chan k)).permit = (u.chan k).permit := congrArg Prod.snd same
        rw [permit, now]
        exact (State.permitNow_congr u (u.modChan k f) k rfl (by rwa [State.chan_modChan_self])).symm
      · exact .inr now
    · have chan := State.chan_modChan_other u ch k f e
      rw [chan]
      exact (h.permits k hk).imp id fun now =>
        now.trans (State.permitNow_congr u (u.modChan ch f) k rfl (by rw [chan])).symm

/-- An act on one channel that leaves its state, its permit and its work. -/
theorem State.Orderly.modChan (h : State.Orderly skip s u) {ch : Chan} {f : Channel → Channel}
    (state : ∀ c, (f c).state = c.state := by intro c; rfl)
    (permit : ∀ c, (f c).permit = c.permit := by intro c; rfl)
    (traverse : ∀ c, (f c).traverse = c.traverse := by intro c; rfl)
    (reports : ∀ c, (f c).reports = c.reports := by intro c; rfl) :
    State.Orderly skip s (u.modChan ch f) :=
  h.channel ch f (by rw [traverse, reports]; exact List.subset_append_left _ _)
    fun _ => .inl (congrArg₂ Prod.mk (state _) (permit _))

/-- An act on one channel that leaves its state and its permit and has no traverse in hand. -/
theorem State.Orderly.dropTraverse (h : State.Orderly skip s u) {ch : Chan} {f : Channel → Channel}
    (state : ∀ c, (f c).state = c.state := by intro c; rfl)
    (permit : ∀ c, (f c).permit = c.permit := by intro c; rfl)
    (traverse : ∀ c, (f c).traverse = none := by intro c; rfl)
    (reports : ∀ c, (f c).reports = c.reports := by intro c; rfl) :
    State.Orderly skip s (u.modChan ch f) :=
  h.channel ch f (by
    rw [traverse, reports]
    exact List.Subset.trans (List.subset_append_right _ _) (List.subset_append_left _ _))
    fun _ => .inl (congrArg₂ Prod.mk (state _) (permit _))

theorem State.Orderly.modBuf (h : State.Orderly skip s u) {ch : Chan} {i : BufId}
    {f : PageBuffer → PageBuffer} : State.Orderly skip s (u.modChan ch fun c => c.modBuf i f) :=
  h.modChan (fun _ => by cases i <;> rfl) (fun _ => by cases i <;> rfl) (fun _ => by cases i <;> rfl)
    fun _ => by cases i <;> rfl

theorem State.Orderly.modStn (h : State.Orderly skip s u) {st : Stn} {f : StationLink → StationLink} :
    State.Orderly skip s (u.modStn st f) := h.apart _ rfl rfl rfl rfl

theorem State.Orderly.raise (h : State.Orderly skip s u) {e : Event} :
    State.Orderly skip s (u.raise e) := h.apart _ rfl rfl rfl rfl

theorem State.Orderly.modBracket (h : State.Orderly skip s u) {n : Nat} {f : Bracket → Bracket} :
    State.Orderly skip s (u.modBracket n f) := h.apart _ rfl rfl rfl rfl

theorem State.Orderly.endAttempt (h : State.Orderly skip s u) {ch : Chan} :
    State.Orderly skip s (u.setAttempt ch none) := by
  refine h.trans ⟨rfl, List.Sublist.refl _, fun k => ?_, fun k _ => .inl rfl⟩
  unfold State.workIds State.attempt? State.setAttempt
  by_cases e : k = ch
  · subst e
    simp
  · simp [Four.get_set_other _ _ _ _ e]

theorem State.Orderly.modStore (h : State.Orderly skip s u) {f : Store → Store}
    (directory : ∀ x, (f x).directory = x.directory := by intro x; rfl) :
    State.Orderly skip s (u.modStore f) :=
  h.aside _ rfl (by rw [State.store_modStore, directory]) rfl rfl

theorem State.Orderly.modTrav (h : State.Orderly skip s u) {id : Nat} {f : Traverse → Traverse}
    (owner : ∀ t, (f t).owner = t.owner := by intro t; rfl) : State.Orderly skip s (u.modTrav id f) := by
  refine h.aside _ rfl ?_ rfl rfl
  simp only [State.modTrav, State.store_modStore, List.map_map]
  rw [List.map_congr_left fun t _ => ?_]
  simp only [Function.comp_apply]
  split
  · exact owner t
  · rfl

/-- An act on the session that leaves the lock of the plan and the next traverse id. -/
theorem State.Orderly.modSession (h : State.Orderly skip s u) {f : Session → Session}
    (locked : ∀ x, (f x).plan.locked = x.plan.locked := by intro x; rfl)
    (next : ∀ x, (f x).nextTraverse = x.nextTraverse := by intro x; rfl) :
    State.Orderly skip s (u.modSession f) :=
  h.aside _ (by simp [charter, Function.comp_def, locked, next]) (List.Sublist.refl _) rfl rfl

theorem State.Orderly.modTube (h : State.Orderly skip s u) {p : Pos} {f : TubeEntry → TubeEntry} :
    State.Orderly skip s (u.modTube p f) := h.modSession

theorem State.Orderly.moveTube (h : State.Orderly skip s u) {p : Pos} {new : TubeState}
    {f : TubeEntry → TubeEntry} : State.Orderly skip s (u.moveTube p new f) := by
  unfold State.moveTube
  split
  · exact h
  · exact h.modTube.modSession

/-! Channels (R43, R47 to R49). -/

theorem State.Orderly.sendProbe (h : State.Orderly skip s u) {ch : Chan} {f : ProbeOut} :
    State.Orderly skip s (u.sendProbe ch f) := by
  unfold State.sendProbe
  refine h.modChan (fun c => ?_) (fun c => ?_) (fun c => ?_) fun c => ?_ <;> split <;> rfl

theorem State.Orderly.weaken (h : State.Orderly none s u) {ch : Chan} : State.Orderly (some ch) s u :=
  ⟨h.chartered, h.owners, h.work, fun k _ => h.permits k nofun⟩

/-- A channel set to another state has its permit still to be recomputed. -/
theorem State.Orderly.setChan (h : State.Orderly none s u) {ch : Chan} {new : ChanState} :
    State.Orderly (some ch) s (u.setChan ch new) := by
  unfold State.setChan
  split
  · exact h.weaken
  · exact (h.weaken.channel ch _ (List.subset_append_left _ _) fun e => absurd rfl e).raise

/-- Channels that agree but for the permit and the sent frames have the same work. -/
theorem Channel.holds_of_silent (c d : Channel) (h : c.silent = d.silent) :
    c.traverse = d.traverse ∧ c.reports = d.reports :=
  ⟨(congrArg Channel.traverse h : c.silent.traverse = d.silent.traverse),
    (congrArg Channel.reports h : c.silent.reports = d.silent.reports)⟩

/-- The recomputed permit of a channel (R48). -/
theorem State.Orderly.refreshed (h : State.Orderly (some ch) s u) :
    State.Orderly none s (u.refreshPermit ch) := by
  have kept := fun k => u.refreshPermit_chan ch k
  have holds : ∀ k, ((u.refreshPermit ch).workIds k) = u.workIds k := by
    intro k
    have rest := (kept k).1
    unfold State.workIds State.attempt?
    obtain ⟨traverse, reports⟩ := Channel.holds_of_silent _ _ rest
    rw [traverse, reports, State.cal_refreshPermit]
  refine ⟨by simpa using h.chartered, by simpa using h.owners,
    fun k => by rw [holds]; exact h.work k, fun k _ => ?_⟩
  obtain ⟨rest, permit⟩ := kept k
  rw [State.permitNow_refreshPermit]
  by_cases e : k = ch
  · subst e
    exact .inr (by rw [permit, if_pos rfl])
  · rw [if_neg e] at permit
    rcases h.permits k (by simpa using fun e' => e e'.symm) with same | now
    · refine .inl ?_
      rw [← same]
      exact congrArg₂ Prod.mk (Channel.state_eq_of_silent _ _ rest) permit
    · exact .inr (permit.trans now)

theorem State.Orderly.refreshPermit (h : State.Orderly none s u) {ch : Chan} :
    State.Orderly none s (u.refreshPermit ch) := h.weaken.refreshed

/-- A channel moved to another state, with its permit (R47, R48). -/
theorem State.Orderly.moveChan (h : State.Orderly skip s u) {ch : Chan} {new : ChanState} :
    State.Orderly skip s (u.moveChan ch new) :=
  h.trans (State.Orderly.refl u).setChan.refreshed

theorem State.Orderly.setCalDue (h : State.Orderly skip s u) {ch : Chan} {cause : CalDue} :
    State.Orderly skip s (u.setCalDue ch cause) := by
  unfold State.setCalDue
  cases u.openBracket ch with
  | none => exact h
  | some b =>
    dsimp only
    (repeat' split)
    · exact h
    · exact h.modBracket.moveChan
    · exact h.modBracket

end Orderly

end Sys2Proof.Machine
end

section
namespace Sys2Proof.Machine

section Orderly
variable {skip : Option Chan} {s u : State}

/-! The store and its arbiter in good order (R74 to R86). -/

theorem State.Orderly.watchStore (h : State.Orderly skip s u) : State.Orderly skip s u.watchStore := by
  unfold State.watchStore
  extract_lets v
  (repeat' split)
  · exact h.modStore.raise
  · exact h.modStore.raise
  · exact h

theorem State.Orderly.reserve (h : State.Orderly skip s u) : State.Orderly skip s u.reserve :=
  h.modStore.watchStore

theorem State.Orderly.unreserve (h : State.Orderly skip s u) : State.Orderly skip s u.unreserve :=
  h.modStore.watchStore

theorem State.Orderly.returnReservation (h : State.Orderly skip s u) {id keep : Nat} :
    State.Orderly skip s (u.returnReservation id keep) := by
  unfold State.returnReservation
  split
  · exact h
  · exact h.modTrav.modStore.watchStore

/-- A release takes its entry out of the directory (R84). -/
theorem State.Orderly.release (h : State.Orderly skip s u) {t : Traverse} :
    State.Orderly skip s (u.release t) :=
  (h.aside (u.modStore fun x =>
    { x with pool := poolAppend x.pool t.pages, directory := x.directory.filter fun v => v.id != t.id })
    rfl (List.filter_sublist.map _) rfl rfl).raise.watchStore

theorem State.Orderly.testRelease (h : State.Orderly skip s u) {id : Nat} :
    State.Orderly skip s (u.testRelease id) := by
  unfold State.testRelease
  (repeat' split)
  · exact h
  · exact h.release
  · exact h.modTrav
  · exact h

theorem State.Orderly.settle (h : State.Orderly skip s u) {id : Nat} :
    State.Orderly skip s (u.settle id) := by
  unfold State.settle
  (repeat' split)
  · exact h
  · exact h
  · exact h.modTrav.testRelease

theorem State.Orderly.invalidate (h : State.Orderly skip s u) {id : Nat} :
    State.Orderly skip s (u.invalidate id) := by
  unfold State.invalidate
  (repeat' split)
  · exact h
  · exact h.modTrav.settle
  · exact h

theorem State.Orderly.grantWrite (h : State.Orderly skip s u) {ch : Chan} :
    State.Orderly skip s (u.grantWrite ch) := by
  unfold State.grantWrite
  (repeat' split)
  · exact h
  · exact h.modTrav.modStore
  · exact h

theorem State.Orderly.modStream (h : State.Orderly skip s u) {st : Stn} {f : Stream → Stream} :
    State.Orderly skip s (u.modStream st f) := h.modStn

theorem State.Orderly.grantFetch (h : State.Orderly skip s u) {st : Stn} :
    State.Orderly skip s (u.grantFetch st) := by
  unfold State.grantFetch
  split
  · exact h
  · exact h.modStream.modStore

theorem State.Orderly.arbitrate (h : State.Orderly skip s u) : State.Orderly skip s u.arbitrate := by
  unfold State.arbitrate
  (repeat' split)
  · exact h.grantWrite
  · exact h.grantFetch
  · exact h
  · exact h

theorem State.Orderly.handOver (h : State.Orderly skip s u) {ch : Chan} {i : BufId} {last aborted : Bool} :
    State.Orderly skip s (u.handOver ch i last aborted) := h.modBuf.modTrav.modStore.arbitrate

theorem State.Orderly.finalPage (h : State.Orderly skip s u) {ch : Chan} {id : Nat} {aborted : Bool} :
    State.Orderly skip s (u.finalPage ch id aborted) := by
  unfold State.finalPage
  extract_lets c
  (repeat' split)
  · exact h.handOver
  · exact h.handOver
  · exact h.modStore

theorem State.Orderly.abortTraverse (h : State.Orderly skip s u) {id : Nat} :
    State.Orderly skip s (u.abortTraverse id) := by
  unfold State.abortTraverse
  (repeat' split)
  · exact h
  · exact h.modTrav.returnReservation.settle
  · exact h.modTrav.returnReservation.settle
  · exact h.modTrav.returnReservation.settle
  · exact h.modTrav.settle
  · exact h
  · exact h

theorem State.Orderly.reportAbort (h : State.Orderly skip s u) {id : Nat} :
    State.Orderly skip s (u.reportAbort id) := by
  unfold State.reportAbort
  (repeat' split)
  · exact h
  · refine (h.channel _ _ ?_ fun _ => .inl rfl).sendProbe
    refine List.Subset.trans ?_ (List.subset_append_left _ _)
    exact List.append_subset.2 ⟨List.subset_append_left _ _,
      List.Subset.trans (List.filter_subset_self _) (List.subset_append_right _ _)⟩
  · exact h

theorem State.Orderly.reportAborts (h : State.Orderly skip s u) {ch : Chan} :
    State.Orderly skip s (u.reportAborts ch) := by
  unfold State.reportAborts
  exact List.foldlRecOn _ _ h fun _ kept _ _ => kept.reportAbort

theorem State.Orderly.register (h : State.Orderly skip s u) {id : Nat} :
    State.Orderly skip s (u.register id) := h.modTrav

theorem State.Orderly.deregister (h : State.Orderly skip s u) {id : Nat} :
    State.Orderly skip s (u.deregister id) := h.modTrav.testRelease

/-! Tubes and claims in good order (R22 to R38). -/

theorem State.Orderly.endClaim (h : State.Orderly skip s u) {ch : Chan} {restriction : Bool} :
    State.Orderly skip s (u.endClaim ch restriction) := by
  unfold State.endClaim
  split
  · exact h
  · exact h.moveTube.unreserve.modChan

theorem State.Orderly.grantClaim (h : State.Orderly none s u) {ch : Chan} {p : Pos} :
    State.Orderly none s (u.grantClaim ch p) :=
  h.moveTube.reserve.modChan.setChan.sendProbe.refreshed

theorem State.Orderly.raiseRetest (h : State.Orderly skip s u) {p : Pos} :
    State.Orderly skip s (u.raiseRetest p) := by
  unfold State.raiseRetest
  split
  · exact h
  · exact h.raise

theorem State.Orderly.abortTube (h : State.Orderly skip s u) {p : Pos} {restriction : Bool} :
    State.Orderly skip s (u.abortTube p restriction) := by
  unfold State.abortTube
  split
  · exact h.moveTube
  · exact h.moveTube.raiseRetest

theorem State.Orderly.retestTube (h : State.Orderly skip s u) {p : Pos} {cause : RetestCause}
    {reset : Bool} {traverse : Option Nat} : State.Orderly skip s (u.retestTube p cause reset traverse) := by
  unfold State.retestTube
  cases traverse with
  | none => exact h.moveTube.raiseRetest
  | some id => exact h.moveTube.invalidate.raiseRetest

theorem State.Orderly.decideTube (h : State.Orderly skip s u) {p : Pos} {call : Call} :
    State.Orderly skip s (u.decideTube p call) := h.moveTube.raise.settle

/-! Calibrations and brackets in good order (R124 to R141). -/

theorem State.Orderly.closeBracket (h : State.Orderly skip s u) {n : Nat} {good : Bool}
    {cause : ClosingCause} : State.Orderly skip s (u.closeBracket n good cause) := h.modBracket

theorem State.Orderly.settleSweep (h : State.Orderly skip s u) {n : Nat} :
    State.Orderly skip s (u.settleSweep n) := by
  unfold State.settleSweep
  (repeat' split)
  · exact h
  · exact h.modBracket.raise
  · exact h.modBracket
  · exact h

theorem State.Orderly.failBracket (h : State.Orderly skip s u) {ch : Chan} {cause : ClosingCause} :
    State.Orderly skip s (u.failBracket ch cause) := by
  unfold State.failBracket
  split
  · exact h
  · exact h.closeBracket.settleSweep

theorem State.Orderly.abortCalibration (h : State.Orderly skip s u) {ch : Chan} :
    State.Orderly skip s (u.abortCalibration ch) := by
  unfold State.abortCalibration
  split
  · exact h
  · exact h.finalPage.abortTraverse.dropTraverse.endAttempt.sendProbe.raise

theorem State.Orderly.endEvaluation (h : State.Orderly skip s u) {ch : Chan} {id : Nat}
    {v : CalVerdict} : State.Orderly skip s (u.endEvaluation ch id v) := by
  unfold State.endEvaluation
  extract_lets s1 s2 s3
  have marked : State.Orderly skip s s2 := by
    simp only [s2]
    split
    · exact h.endAttempt.setCalDue
    · exact h.endAttempt
  split
  · exact marked.modChan.sendProbe.dropTraverse.moveChan
  · exact marked.modChan

theorem State.Orderly.rejectCalibration (h : State.Orderly skip s u) {ch : Chan} {a : Attempt}
    {reason : CalReject} : State.Orderly skip s (u.rejectCalibration ch a reason) :=
  h.settle.endEvaluation.raise

theorem State.Orderly.acceptCalibration (h : State.Orderly skip s u) {ch : Chan} {a : Attempt}
    {f : Figures} : State.Orderly skip s (u.acceptCalibration ch a f) := by
  unfold State.acceptCalibration
  extract_lets e s1 s2 s3 s4 outcome s5 s6
  have logged : State.Orderly skip s s1 := h.apart _ rfl rfl rfl rfl
  have closed : State.Orderly skip s s2 := by
    simp only [s2]
    split
    · exact logged
    · exact logged.closeBracket
  have opened : State.Orderly skip s s3 := closed.apart _ rfl rfl rfl rfl
  have told : State.Orderly skip s s6 := opened.modTrav.settle.endEvaluation.raise
  split
  · exact told
  · exact told.settleSweep

theorem State.Orderly.dropComparison (h : State.Orderly skip s u) {p : Pos} :
    State.Orderly skip s (u.dropComparison p) := h.apart _ rfl rfl rfl rfl

theorem State.Orderly.beginComparison (h : State.Orderly skip s u) {c : Comparison} :
    State.Orderly skip s (u.beginComparison c) := h.apart _ rfl rfl rfl rfl

theorem State.Orderly.testComparison (h : State.Orderly skip s u) {p : Pos} :
    State.Orderly skip s (u.testComparison p) := by
  unfold State.testComparison
  (repeat' split)
  · exact h
  · exact h.beginComparison
  · exact h

theorem State.Orderly.applyOutcome (h : State.Orderly skip s u) {c : Comparison} :
    State.Orderly skip s (u.applyOutcome c) := by
  unfold State.applyOutcome
  (repeat' split)
  · exact h
  · exact h.decideTube
  · exact h.moveTube.raise
  · exact h.retestTube
  · exact h

theorem State.Orderly.sweepStep (h : State.Orderly skip s u) {n : Nat} {verdict : BracketState}
    {present : State → Nat → State}
    (presents : ∀ v id, State.Orderly skip s v → State.Orderly skip s (present v id)) :
    State.Orderly skip s (u.sweepStep n verdict present) := by
  unfold State.sweepStep
  (repeat' split)
  · exact h
  · exact h.settleSweep
  · exact (presents _ _ h.modBracket).settleSweep
  · exact h

theorem State.Orderly.presentFail (h : State.Orderly skip s u) {n id : Nat} :
    State.Orderly skip s (u.presentFail n id) := by
  unfold State.presentFail
  (repeat' split)
  · exact h
  · exact h
  · exact h.retestTube.modBracket

theorem State.Orderly.presentGood (h : State.Orderly skip s u) {id : Nat} :
    State.Orderly skip s (u.presentGood id) := by
  unfold State.presentGood
  (repeat' split)
  · exact h
  · exact h
  · exact h.testComparison
  · exact h

/-! Pulls in good order (R51 to R72). -/

theorem State.Orderly.joinBracket (h : State.Orderly skip s u) {ch : Chan} {id : Nat} :
    State.Orderly skip s (u.joinBracket ch id) := by
  unfold State.joinBracket
  split
  · exact h
  · next b _ =>
    extract_lets s1
    split
    · exact h.modBracket.setCalDue
    · exact h.modBracket

theorem State.Orderly.countLost (h : State.Orderly skip s u) {ch : Chan} {id n : Nat} :
    State.Orderly skip s (u.countLost ch id n) := h.modTrav.modChan

theorem State.Orderly.passFull (h : State.Orderly skip s u) {ch : Chan} {i : BufId} :
    State.Orderly skip s (u.passFull ch i) := by
  unfold State.passFull
  extract_lets s1
  (repeat' split)
  · exact h
  · exact h.modChan.handOver
  · exact h.modChan.modBuf

theorem State.Orderly.storeSample (h : State.Orderly skip s u) {ch : Chan} {t : Traverse} {i : BufId}
    {r : Reading} : State.Orderly skip s (u.storeSample ch t i r) := by
  unfold State.storeSample
  extract_lets c
  split
  · exact h
  · refine (State.Orderly.modTrav (State.Orderly.modChan h ?_ ?_ ?_ ?_)).passFull
    all_goals intro c; cases i <;> rfl

theorem State.Orderly.takeSample (h : State.Orderly skip s u) {ch : Chan} {id seq missed : Nat}
    {r : Reading} : State.Orderly skip s (u.takeSample ch id seq missed r) := by
  unfold State.takeSample
  extract_lets s1 s2
  have counted : State.Orderly skip s s1 := by
    simp only [s1]
    split
    · exact h
    · exact h.countLost
  have expecting : State.Orderly skip s s2 := counted.modChan
  split
  · exact expecting.storeSample
  · exact expecting.countLost

theorem State.Orderly.offerSample (h : State.Orderly skip s u) {ch : Chan} {t : Traverse} {seq : Nat}
    {r : Reading} : State.Orderly skip s (u.offerSample ch t seq r) := by
  unfold State.offerSample
  (repeat' split)
  · exact h
  · exact h
  · exact h.takeSample
  · exact h.takeSample

theorem State.Orderly.acquireTube (h : State.Orderly skip s u) {p : Pos} {id : Nat} {ch : Chan} :
    State.Orderly skip s (u.acquireTube p id ch) := h.moveTube.raise.testComparison

/-- An attempt whose stage changes keeps its traverse (R123). -/
theorem State.Orderly.stageAttempt (h : State.Orderly skip s u) {ch : Chan} {stage : Stage} :
    State.Orderly skip s (u.setAttempt ch ((u.attempt? ch).map fun a => { a with stage := stage })) := by
  refine h.trans ⟨rfl, List.Sublist.refl _, fun k => ?_, fun k _ => .inl rfl⟩
  unfold State.workIds State.attempt? State.setAttempt
  by_cases e : k = ch
  · subst e
    cases hx : u.cal.attempts.get k <;> simp
  · simp [Four.get_set_other _ _ _ _ e]

theorem Traverse.owner_complete (t : Traverse) (f : Findings) (reporting : Option Nat) (time : Nat) :
    (t.complete f reporting time).owner = t.owner := rfl

theorem State.Orderly.completeTraverse (h : State.Orderly none s u) {t : Traverse} :
    State.Orderly none s (u.completeTraverse t) := by
  unfold State.completeTraverse
  extract_lets ch
  split
  · exact h
  · extract_lets f s1 s2
    have completed : State.Orderly none s s1 := h.modTrav fun t => t.owner_complete _ _ _
    have returned : State.Orderly none s s2 := completed.modChan.returnReservation
    split
    · extract_lets s3 s4 flags
      have acquired : State.Orderly none s s3 := returned.acquireTube.dropTraverse
      exact acquired.setChan.sendProbe.refreshed
    · exact returned.stageAttempt

theorem State.Orderly.tryComplete (h : State.Orderly none s u) {id : Nat} :
    State.Orderly none s (u.tryComplete id) := by
  unfold State.tryComplete
  (repeat' split)
  · exact h
  · exact h.completeTraverse
  · exact h

theorem State.Orderly.finishPull (h : State.Orderly none s u) {ch : Chan} {id : Nat} {new : ChanState} :
    State.Orderly none s (u.finishPull ch id new) :=
  h.modTrav.modChan.moveChan.finalPage.tryComplete

end Orderly

end Sys2Proof.Machine
end

section
namespace Sys2Proof.Machine

section Orderly
variable {skip : Option Chan} {s u : State}

/-! The ends of work in good order (R30, R45, R46, R53 to R60). -/

/-- The end of a pull's pages leaves what its channel has in hand. -/
theorem State.chan_endPages (s : State) (ch : Chan) (id : Nat) :
    ∃ a b, ((s.finalPage ch id true).abortTraverse id).chan ch = { s.chan ch with bufA := a, bufB := b } := by
  obtain ⟨_, _, a, b, channels⟩ := s.finalPage_does ch id true
  refine ⟨a, b, ?_⟩
  rw [State.chan, State.channels_abortTraverse, channels, Four.get_set_self]

/-- The traverse in hand of an aborted pull may join those whose abort is still to report. -/
theorem State.Orderly.abortPull (h : State.Orderly skip s u) {ch : Chan} {restriction report : Bool} :
    State.Orderly skip s (u.abortPull ch restriction report) := by
  unfold State.abortPull
  split
  · next id p traverse _ =>
    have ended : State.Orderly skip s ((u.finalPage ch id true).abortTraverse id) :=
      h.finalPage.abortTraverse
    refine (ended.channel ch _ ?_ fun _ => .inl rfl).abortTube
    obtain ⟨a, b, kept⟩ := u.chan_endPages ch id
    refine List.Subset.trans (fun n hn => ?_) (List.subset_append_left _ _)
    rw [kept] at hn ⊢
    simp only [Option.toList_none, List.nil_append] at hn
    split at hn
    · rcases List.mem_append.1 hn with old | new
      · exact List.mem_append_right _ old
      · refine List.mem_append_left _ ?_
        rw [show ({ u.chan ch with bufA := a, bufB := b } : Channel).traverse = some id from traverse]
        exact new
    · exact List.mem_append_right _ hn
  · exact h

theorem State.Orderly.abortAndRest (h : State.Orderly skip s u) {ch : Chan} {restriction : Bool} :
    State.Orderly skip s (u.abortAndRest ch restriction) := h.abortPull.moveChan.reportAborts

theorem State.Orderly.endClaimAndRest (h : State.Orderly skip s u) {ch : Chan} {restriction : Bool} :
    State.Orderly skip s (u.endClaimAndRest ch restriction) := h.endClaim.moveChan

theorem State.Orderly.loseWork (h : State.Orderly skip s u) {ch : Chan} {was : ChanState} :
    State.Orderly skip s (u.loseWork ch was) := by
  unfold State.loseWork
  split
  · exact h.endClaim
  · exact h.abortPull
  · exact h.abortPull
  · exact h.abortCalibration
  · exact h.dropTraverse
  all_goals exact h

/-- A lost channel is OFFLINE without a permit (R48, R59). -/
theorem State.Orderly.loseLink (h : State.Orderly skip s u) {ch : Chan} :
    State.Orderly skip s (u.loseLink ch) := by
  refine (h.channel ch _ (List.subset_append_left _ _) fun _ => .inr ?_).raise.loseWork.setCalDue
  simp [State.permitNow]

theorem State.Orderly.checkIdentity (h : State.Orderly skip s u) {ch : Chan} {id : ProbeId} :
    State.Orderly skip s (u.checkIdentity ch id) := by
  unfold State.checkIdentity
  extract_lets failing s1
  have abandoned : State.Orderly skip s s1 := by
    simp only [s1]
    split
    · exact h.abortCalibration
    · exact h
  split
  · exact abandoned.failBracket
  · exact abandoned

theorem State.Orderly.failWork (h : State.Orderly skip s u) {ch : Chan} :
    State.Orderly skip s (u.failWork ch) := by
  unfold State.failWork
  have evaluation : State.Orderly skip s
      (if (u.evaluationInHand ch).isSome then u.abortCalibration ch else u) := by
    split
    · exact h.abortCalibration
    · exact h
  split
  · exact h.endClaim
  · exact h.abortPull
  · exact h.abortPull
  · exact h.abortCalibration
  · exact evaluation
  · exact evaluation
  all_goals exact h

theorem State.Orderly.failProbe (h : State.Orderly skip s u) {ch : Chan} :
    State.Orderly skip s (u.failProbe ch) := by
  unfold State.failProbe
  extract_lets s1
  have failed : State.Orderly skip s s1 := h.failWork.failBracket
  split
  · exact failed
  · exact failed.moveChan.reportAborts

/-- A channel whose permit is that of now has nothing to recompute. -/
theorem State.Orderly.strengthen {ch : Chan} (h : State.Orderly (some ch) s u)
    (now : (u.chan ch).permit = u.permitNow ch) : State.Orderly none s u := by
  refine ⟨h.chartered, h.owners, h.work, fun k _ => ?_⟩
  by_cases e : ch = k
  · subst e
    exact .inr now
  · exact h.permits k (by simpa using e)

theorem State.state_sendProbe (v : State) (ch k : Chan) (f : ProbeOut) :
    ((v.sendProbe ch f).chan k).state = (v.chan k).state := by
  by_cases e : k = ch
  · subst e
    rw [State.sendProbe, State.chan_modChan_self]
    split <;> rfl
  · rw [State.chan_sendProbe_other _ _ _ _ e]

theorem State.state_abortCalibration (v : State) (ch : Chan) :
    ((v.abortCalibration ch).chan ch).state = (v.chan ch).state := by
  unfold State.abortCalibration
  split
  · rfl
  · next a _ =>
    obtain ⟨bufA, bufB, kept⟩ := v.chan_endPages ch a.traverse
    extract_lets s1 s2 s3
    rw [State.chan_raise, State.state_sendProbe, State.chan, State.channels_setAttempt, ← State.chan,
      State.chan_modChan_self]
    exact (congrArg Channel.state kept :)

theorem State.state_checkIdentity (v : State) (ch : Chan) (id : ProbeId) :
    ((v.checkIdentity ch id).chan ch).state = (v.chan ch).state := by
  unfold State.checkIdentity
  extract_lets failing s1
  have abandoned : (s1.chan ch).state = (v.chan ch).state := by
    simp only [s1]
    split
    · exact v.state_abortCalibration ch
    · rfl
  split
  · rw [State.chan, State.channels_failBracket]
    exact abandoned
  · exact abandoned

theorem State.linkUpState_ne_offline (v : State) (ch : Chan) : v.linkUpState ch ≠ .offline := by
  unfold State.linkUpState
  (repeat' split) <;> simp

/-- An evaluation in hand is of the attempt of its channel (R123). -/
theorem State.evaluationInHand_work (v : State) (ch : Chan) :
    ((v.evaluationInHand ch).map (·.traverse)).toList ⊆ (v.attempt? ch).toList.map (·.traverse) := by
  unfold State.evaluationInHand
  (repeat' split) <;> simp_all

/-- The permit of an up channel (R48). -/
theorem State.permitNow_up (v : State) (k : Chan) (x : ChanState) (h : (v.chan k).state = x) (up : x ≠ .offline) :
    v.permitNow k = some (permitOf v.session x) := by
  unfold State.permitNow
  rw [h]
  split
  · exact absurd rfl up
  · rfl

/-- A channel comes up with the permit of now (R45). -/
theorem State.Orderly.linkUp (h : State.Orderly none s u) {ch : Chan} {id : Identity} :
    State.Orderly none s (u.linkUp ch id) := by
  unfold State.linkUp
  extract_lets changed new s1 s2 p s3
  have state : (s2.chan ch).state = new := by
    rw [State.state_checkIdentity, State.chan_modChan_self]
  have up : new ≠ .offline := by
    simp only [new]
    split
    · nofun
    · exact u.linkUpState_ne_offline ch
  have begun : State.Orderly (some ch) s s1 := by
    refine h.weaken.channel ch _ ?_ fun e => absurd rfl e
    unfold State.workIds
    refine List.append_subset.2 ⟨?_, fun n hn => by simp_all⟩
    split
    · exact List.Subset.trans (u.evaluationInHand_work ch) (List.subset_append_right _ _)
    · exact List.nil_subset _
  have told : State.Orderly (some ch) s s3 := begun.checkIdentity.raise
  have permitted : State.Orderly (some ch) s (s3.modChan ch fun c => { c with permit := some p }) :=
    told.channel ch _ (List.subset_append_left _ _) fun e => absurd rfl e
  refine (permitted.strengthen ?_).sendProbe
  have now : ((s3.modChan ch fun c => { c with permit := some p }).chan ch).state = new := by
    rw [State.chan_modChan_self, State.chan_raise]
    exact state
  rw [State.permitNow_up _ _ _ now up, State.chan_modChan_self]
  rfl

end Orderly

end Sys2Proof.Machine
end

section
namespace Sys2Proof.Machine

/-! The begin of a traverse (R51, R56, R67, R69). -/

/-- From `s` to `t` one traverse begins on `ch`: it takes the next id of the open session, joins the directory
and may be the work in hand on `ch`; the rest is as an act in good order leaves it. -/
structure State.Begins (s t : State) (ch : Chan) : Prop where
  chartered : charter t.session = (charter s.session).map fun x => (x.1, x.2 + 1)
  owners : (t.store.directory.map Traverse.owner).Sublist
    (s.store.directory.map Traverse.owner ++ [(s.nextTraverse, ch)])
  work : ∀ k, ∀ id ∈ t.workIds k, id ∈ s.workIds k ∨ id = s.nextTraverse ∧ k = ch
  permits : ∀ k, (t.chan k).granted = (s.chan k).granted ∨ (t.chan k).permit = t.permitNow k

/-- The lock of the plan alone gives the permit (R48). -/
theorem State.permitNow_of_locked (s t : State) (k : Chan)
    (h : t.session.map (·.plan.locked) = s.session.map (·.plan.locked))
    (hc : (t.chan k).state = (s.chan k).state) : t.permitNow k = s.permitNow k := by
  have same : ∀ x, permitOf t.session x = permitOf s.session x := by
    intro x
    cases hs : s.session <;> cases ht : t.session <;> simp_all [permitOf]
  unfold State.permitNow
  rw [hc]
  split
  · rfl
  · rw [same]

theorem State.Begins.permitLaw {s t : State} {ch : Chan} (h : State.Begins s t ch) (law : s.permitLaw) :
    t.permitLaw := by
  intro k
  rcases h.permits k with same | now
  · have state : (t.chan k).state = (s.chan k).state := congrArg Prod.fst same
    have permit : (t.chan k).permit = (s.chan k).permit := congrArg Prod.snd same
    have locked := congrArg (Option.map Prod.fst) h.chartered
    rw [permit, law k, State.permitNow_of_locked s t k ?_ state]
    simpa [charter, Function.comp_def] using locked
  · exact now

/-- What begins in good order goes on in good order. -/
theorem State.Begins.orderly {s t u : State} {ch : Chan} (h : State.Begins s t ch)
    (k : State.Orderly none t u) : State.Begins s u ch := by
  refine ⟨k.chartered.trans h.chartered, k.owners.trans h.owners,
    fun c id hid => h.work c id (k.work c hid), fun c => ?_⟩
  rcases k.permits c nofun with same | now
  · rcases h.permits c with same' | now'
    · exact .inl (same.trans same')
    · refine .inr ?_
      have state : (u.chan c).state = (t.chan c).state := congrArg Prod.fst same
      have permit : (u.chan c).permit = (t.chan c).permit := congrArg Prod.snd same
      rw [permit, now', State.permitNow_of_charter t u c k.chartered state]
  · exact .inr now

/-- A traverse begun in good order keeps the work its own: the next id is above all that were given (R67). -/
theorem State.Begins.worked {s t : State} {ch : Chan} (h : State.Begins s t ch) (opened : s.session ≠ none)
    (law : s.worked) : t.worked := by
  obtain ⟨once, below, own⟩ := law
  have next : t.nextTraverse = s.nextTraverse + 1 := by
    have charters := h.chartered
    unfold State.nextTraverse
    cases hs : s.session <;> cases ht : t.session <;> simp_all [charter]
  have ids : ∀ z : State, z.store.directory.map (·.id) = (z.store.directory.map Traverse.owner).map Prod.fst :=
    fun z => by simp [Function.comp_def, Traverse.owner]
  have found : ∀ u ∈ t.store.directory,
      (∃ v ∈ s.store.directory, v.id = u.id ∧ v.channel = u.channel)
        ∨ u.id = s.nextTraverse ∧ u.channel = ch := by
    intro u hu
    have listed := h.owners.subset (List.mem_map_of_mem (f := Traverse.owner) hu)
    rcases List.mem_append.1 listed with old | new
    · obtain ⟨v, hv, e⟩ := List.mem_map.1 old
      exact .inl ⟨v, hv, congrArg Prod.fst e, congrArg Prod.snd e⟩
    · have e := List.mem_singleton.1 new
      exact .inr ⟨congrArg Prod.fst e, congrArg Prod.snd e⟩
  refine ⟨?_, fun u hu => ?_, fun k id hid => ?_⟩
  · rw [ids]
    refine (h.owners.map Prod.fst).nodup ?_
    rw [List.map_append, ← ids, List.nodup_append]
    refine ⟨once, List.nodup_singleton _, fun a ha b hb e => ?_⟩
    obtain ⟨v, hv, rfl⟩ := List.mem_map.1 ha
    have upper := below v hv
    rw [e, List.mem_singleton.1 hb] at upper
    omega
  · rcases found u hu with ⟨v, hv, same, _⟩ | ⟨same, _⟩
    · have upper := below v hv
      omega
    · omega
  · rcases h.work k id hid with old | ⟨rfl, rfl⟩
    · obtain ⟨upper, mine⟩ := own k id old
      refine ⟨by omega, fun u hu e => ?_⟩
      rcases found u hu with ⟨v, hv, same, chan⟩ | ⟨same, _⟩
      · rw [← chan]
        exact mine v hv (same.trans e)
      · omega
    · refine ⟨by omega, fun u hu e => ?_⟩
      rcases found u hu with ⟨v, hv, same, _⟩ | ⟨_, chan⟩
      · have upper := below v hv
        omega
      · exact chan

/-- A traverse created on a channel under the next id (R69). -/
theorem State.begins_createTraverse (s : State) (ch : Chan) (t : Traverse)
    (owner : t.owner = (s.nextTraverse, ch)) : State.Begins s (s.createTraverse t) ch := by
  refine ⟨by simp [charter, State.createTraverse, Function.comp_def], ?_, fun k id hid => .inl hid,
    fun k => .inl rfl⟩
  simp only [State.createTraverse, State.store_modSession, State.store_modStore, List.map_append, List.map_cons,
    List.map_nil, owner]
  exact List.Sublist.refl _

/-- The traverse begun is in hand on its channel (R51). -/
theorem State.Begins.setUpPull {s t : State} {ch : Chan} (h : State.Begins s t ch) (p : ScreenParams) :
    State.Begins s (t.setUpPull ch s.nextTraverse p) ch := by
  refine ⟨h.chartered, h.owners, fun k id hid => ?_, fun k => ?_⟩
  · by_cases e : k = ch
    · subst e
      simp only [State.workIds, State.setUpPull, State.chan_modChan_self, Option.toList_some,
        List.cons_append, List.nil_append, List.mem_cons] at hid
      rcases hid with new | old
      · exact .inr ⟨new, rfl⟩
      · refine h.work k id ?_
        rw [State.workIds, List.append_assoc]
        exact List.mem_append_right _ old
    · refine h.work k id ?_
      unfold State.workIds at hid ⊢
      rw [State.setUpPull, State.chan_modChan_other _ _ _ _ e] at hid
      exact hid
  · have granted : ((t.setUpPull ch s.nextTraverse p).chan k).granted = (t.chan k).granted := by
      by_cases e : k = ch
      · subst e
        rw [State.setUpPull, State.chan_modChan_self]
        rfl
      · rw [State.setUpPull, State.chan_modChan_other _ _ _ _ e]
    have state : ((t.setUpPull ch s.nextTraverse p).chan k).state = (t.chan k).state := congrArg Prod.fst granted
    have permit : ((t.setUpPull ch s.nextTraverse p).chan k).permit = (t.chan k).permit :=
      congrArg Prod.snd granted
    rw [granted, permit, State.permitNow_congr t (t.setUpPull ch s.nextTraverse p) k rfl state]
    exact h.permits k

/-- The traverse begun is that of the attempt of its channel (R123). -/
theorem State.Begins.setAttempt {s t : State} {ch : Chan} (h : State.Begins s t ch) (a : Attempt)
    (ha : a.traverse = s.nextTraverse) : State.Begins s (t.setAttempt ch (some a)) ch := by
  refine ⟨h.chartered, h.owners, fun k id hid => ?_, h.permits⟩
  unfold State.workIds State.attempt? State.setAttempt at hid
  by_cases e : k = ch
  · subst e
    simp only [State.cal_modCal, Four.get_set_self, Option.toList_some, List.map_cons, List.map_nil,
      List.mem_append, List.mem_singleton] at hid
    rcases hid with old | new
    · exact h.work k id (List.mem_append_left _ (List.mem_append.2 old))
    · exact .inr ⟨new.trans ha, rfl⟩
  · refine h.work k id ?_
    simpa [State.workIds, State.attempt?, Four.get_set_other _ _ _ _ e] using hid

/-- The begin of an inspection pull (R51). -/
theorem State.begins_beginPull (s : State) (ch : Chan) (p : Pos) :
    State.Begins s (s.beginPull ch p) ch := by
  unfold State.beginPull
  extract_lets id b n params t s1 s2 s3 s4
  have created : State.Begins s (s.createTraverse t) ch := s.begins_createTraverse ch t rfl
  have placed : State.Begins s s2 ch :=
    created.orderly (State.Orderly.refl (s.createTraverse t)).modStore.modTube
  exact (placed.setUpPull params).orderly
    (State.Orderly.refl (s2.setUpPull ch s.nextTraverse params)).modChan.setChan.sendProbe.joinBracket.refreshed

/-- The begin of a calibration pull (R56). -/
theorem State.begins_beginCalibration (s : State) (ch : Chan) (id : Nat) (std : Standard) :
    State.Begins s (s.beginCalibration ch id std) ch := by
  unfold State.beginCalibration
  extract_lets n who t s1 s2 s3
  have created : State.Begins s (s.createTraverse t) ch := s.begins_createTraverse ch t rfl
  have placed : State.Begins s s1.watchStore ch :=
    created.orderly (State.Orderly.refl (s.createTraverse t)).modStore.watchStore
  exact ((placed.setAttempt ⟨n, id, who.probe, .pulling⟩ rfl).setUpPull (s.calibrationParams std)).orderly
    (State.Orderly.refl (s2.setUpPull ch n (s.calibrationParams std))).setChan.sendProbe.refreshed

end Sys2Proof.Machine
end

section
namespace Sys2Proof.Machine

/-! The part with no session open (R74, R89, R142, R192). -/

/-- A channel with no session has no work. -/
def Channel.resting (c : Channel) : Prop :=
  (c.state = .offline ∨ c.state = .needsCal) ∧ c.traverse = none ∧ c.reports = []

/-- What the work law asks of the Traverse Store Controller with no session. -/
def Store.ledger (x : Store) : List Traverse × List PageRun × Nat × Nat :=
  (x.directory, x.pool, x.reservedSlots, x.reservedPages)

/-- With no session open there is no traverse, no work and nothing reserved. -/
structure State.shut (s : State) : Prop where
  session : s.session = none
  directory : s.store.directory = []
  pool : poolPages s.store.pool = List.range 1048576
  slots : s.store.reservedSlots = 0
  pages : s.store.reservedPages = 0
  log : s.cal.log = []
  brackets : s.cal.brackets = []
  comparisons : s.comparisons = []
  attempts : ∀ ch, s.attempt? ch = none
  channels : ∀ ch, (s.chan ch).resting

theorem State.shut.workLaw {s : State} (h : s.shut) : s.workLaw := by
  refine ⟨by simp [h.directory], by simp [h.directory], fun ch id hid => ?_, fun _ =>
    ⟨h.pool, h.slots, h.pages, h.log, h.brackets, h.comparisons, fun ch => (h.channels ch).1⟩⟩
  obtain ⟨_, traverse, reports⟩ := h.channels ch
  simp [State.workIds, traverse, reports, h.attempts ch] at hid

/-- With no session the work law leaves no work: there is no next id (R67). -/
theorem State.shut_of_workLaw {s : State} (h : s.workLaw) (closed : s.session = none) : s.shut := by
  obtain ⟨_, below, own, bare⟩ := h
  obtain ⟨pool, slots, pages, log, brackets, comparisons, states⟩ := bare closed
  have next : s.nextTraverse = 0 := by simp [State.nextTraverse, closed]
  rw [next] at below
  have idle : ∀ ch, s.workIds ch = [] := by
    intro ch
    refine List.eq_nil_iff_forall_not_mem.2 fun id hid => ?_
    have upper := (own ch id hid).1
    omega
  refine ⟨closed, List.eq_nil_iff_forall_not_mem.2 fun t ht => Nat.not_lt_zero _ (below t ht), pool, slots, pages,
    log, brackets, comparisons, fun ch => ?_, fun ch => ⟨states ch, ?_⟩⟩
  · have none := idle ch
    simp only [State.workIds, List.append_eq_nil_iff, List.map_eq_nil_iff, Option.toList_eq_nil_iff] at none
    exact none.2
  · have none := idle ch
    simp only [State.workIds, List.append_eq_nil_iff, Option.toList_eq_nil_iff] at none
    exact none.1

section Shut
variable {u : State}

/-! What is looked up with no session open is not there. -/

theorem State.shut.trav? (h : u.shut) (id : Nat) : u.trav? id = none := by
  simp [State.trav?, h.directory]

theorem State.shut.openBracket (h : u.shut) (ch : Chan) : u.openBracket ch = none := by
  simp [State.openBracket, h.brackets]

theorem State.shut.bracket? (h : u.shut) (n : Nat) : u.bracket? n = none := by
  simp [State.bracket?, h.brackets]

theorem State.shut.evaluationInHand (h : u.shut) (ch : Chan) : u.evaluationInHand ch = none := by
  simp [State.evaluationInHand, h.attempts ch]

theorem State.shut.reached (h : u.shut) (due : Option Nat) : u.reached due = false := by
  simp [State.reached, State.time?, h.session]

/-! The acts that may come with no session open. -/

/-- An act that leaves what is bare, and the channels without work. -/
theorem State.shut.aside (h : u.shut) (t : State) (session : t.session = u.session)
    (store : t.store.ledger = u.store.ledger) (cal : t.cal = u.cal) (comparisons : t.comparisons = u.comparisons)
    (channels : ∀ k, (t.chan k).resting) : t.shut := by
  simp only [Store.ledger, Prod.mk.injEq] at store
  obtain ⟨directory, pool, slots, pages⟩ := store
  exact ⟨session.trans h.session, directory.trans h.directory, by rw [pool]; exact h.pool, slots.trans h.slots,
    pages.trans h.pages, by rw [cal]; exact h.log, by rw [cal]; exact h.brackets, comparisons.trans h.comparisons,
    fun ch => by rw [State.attempt?, cal]; exact h.attempts ch, channels⟩

/-- An act on the links or the configuration only. -/
theorem State.shut.apart (h : u.shut) (t : State) (session : t.session = u.session) (store : t.store = u.store)
    (cal : t.cal = u.cal) (comparisons : t.comparisons = u.comparisons) (channels : t.channels = u.channels) :
    t.shut :=
  h.aside t session (by rw [store]) cal comparisons fun k => by rw [State.chan, channels]; exact h.channels k

theorem State.shut.raise (h : u.shut) {e : Event} : (u.raise e).shut := h.apart _ rfl rfl rfl rfl rfl

theorem State.shut.modStn (h : u.shut) {st : Stn} {f : StationLink → StationLink} : (u.modStn st f).shut :=
  h.apart _ rfl rfl rfl rfl rfl

theorem State.shut.modConfig (h : u.shut) {f : ConfigMem → ConfigMem} : (u.modConfig f).shut :=
  h.apart _ rfl rfl rfl rfl rfl

theorem State.shut.modSession (h : u.shut) {f : Session → Session} : (u.modSession f).shut :=
  h.apart _ (by simp [h.session]) rfl rfl rfl rfl

theorem State.shut.modStore (h : u.shut) {f : Store → Store}
    (ledger : ∀ x, (f x).ledger = x.ledger := by intro x; rfl) : (u.modStore f).shut :=
  h.aside _ rfl (ledger _) rfl rfl h.channels

theorem State.shut.modTrav (h : u.shut) {id : Nat} {f : Traverse → Traverse} : (u.modTrav id f).shut := by
  refine h.aside _ rfl ?_ rfl rfl h.channels
  simp [Store.ledger, State.modTrav, h.directory]

theorem State.shut.modChan (h : u.shut) {ch : Chan} {f : Channel → Channel}
    (rests : ∀ c : Channel, c.resting → (f c).resting := by intro c hc; exact hc) : (u.modChan ch f).shut := by
  refine h.aside _ rfl rfl rfl rfl fun k => ?_
  by_cases e : k = ch
  · subst e
    rw [State.chan_modChan_self]
    exact rests _ (h.channels k)
  · rw [State.chan_modChan_other _ _ _ _ e]
    exact h.channels k

theorem State.shut.modBuf (h : u.shut) {ch : Chan} {i : BufId} {f : PageBuffer → PageBuffer} :
    (u.modChan ch fun c => c.modBuf i f).shut :=
  h.modChan fun _ hc => by cases i <;> exact hc

theorem State.shut.sendProbe (h : u.shut) {ch : Chan} {f : ProbeOut} : (u.sendProbe ch f).shut :=
  h.modChan fun c hc => by split <;> exact hc

theorem State.shut.refreshPermit (h : u.shut) {ch : Chan} : (u.refreshPermit ch).shut := by
  unfold State.refreshPermit
  dsimp only
  split
  · exact h
  · cases u.permitNow ch with
    | none => exact h.modChan
    | some v => exact h.modChan.sendProbe

/-- A channel may only come to rest in NEEDS_CAL. -/
theorem State.shut.moveNeedsCal (h : u.shut) {ch : Chan} : (u.moveChan ch .needsCal).shut := by
  unfold State.moveChan State.setChan
  split
  · exact h.refreshPermit
  · have moved : (u.modChan ch fun c => { c with state := .needsCal }).shut :=
      h.modChan fun c hc => ⟨.inr rfl, hc.2⟩
    exact moved.raise.refreshPermit

/-! The store port with no session open: no page is granted, no traverse ends. -/

theorem State.shut.testRelease (h : u.shut) {id : Nat} : (u.testRelease id).shut := by
  simpa [State.testRelease, h.trav? id] using h

theorem State.shut.tryComplete (h : u.shut) {id : Nat} : (u.tryComplete id).shut := by
  simpa [State.tryComplete, h.trav? id] using h

theorem State.shut.reportAbort (h : u.shut) {id : Nat} : (u.reportAbort id).shut := by
  simpa [State.reportAbort, h.trav? id] using h

theorem State.shut.deregister (h : u.shut) {id : Nat} : (u.deregister id).shut := h.modTrav.testRelease

theorem State.shut.grantWrite (h : u.shut) {ch : Chan} : (u.grantWrite ch).shut := by
  unfold State.grantWrite
  (repeat' split)
  · exact h
  · next live => exact nomatch (h.trav? _).symm.trans live
  · exact h

theorem State.shut.arbitrate (h : u.shut) : u.arbitrate.shut := by
  unfold State.arbitrate State.grantFetch State.modStream
  (repeat' split)
  · exact h.grantWrite
  · exact h
  · exact h.modStn.modStore
  · exact h
  · exact h

theorem State.shut.handOver (h : u.shut) {ch : Chan} {i : BufId} {last aborted : Bool} :
    (u.handOver ch i last aborted).shut := h.modBuf.modTrav.modStore.arbitrate

theorem State.shut.freeBuffer (h : u.shut) {ch : Chan} {i : BufId} : (u.freeBuffer ch i).shut := by
  unfold State.freeBuffer
  extract_lets s1
  split
  · exact h.modBuf.handOver
  · exact h.modBuf

theorem State.shut.writeEnded (h : u.shut) {ch : Chan} {i : BufId} {traverse : Option Nat} {page : Nat}
    {bytes : List Byte} : (u.writeEnded ch i traverse page bytes).shut := by
  unfold State.writeEnded
  extract_lets s1
  have free : s1.shut := h.modStore
  split
  · exact free.freeBuffer.arbitrate
  · exact free.modTrav.freeBuffer.arbitrate.tryComplete.reportAbort.testRelease

theorem State.shut.pump (h : u.shut) {st : Stn} : (u.pump st).shut := by
  unfold State.pump
  split
  · exact h.modStn
  · extract_lets r1 s1
    (repeat' split)
    · exact h.modStn.deregister
    · exact h.modStn
    · exact h.modStn.arbitrate

theorem State.shut.fetchEnded (h : u.shut) {st : Stn} {page seq : Nat} {deliver : Bool} {bytes : List Byte} :
    (u.fetchEnded st page seq deliver bytes).shut := by
  unfold State.fetchEnded
  extract_lets s1
  have free : s1.shut := h.modStore
  split
  · exact (State.shut.pump free.modStn).arbitrate
  · exact free.arbitrate

theorem State.shut.abortStream (h : u.shut) {st : Stn} : (u.abortStream st).shut := by
  unfold State.abortStream State.modStream
  split
  · exact h
  · exact h.modStn.modStore.pump

theorem State.shut.loseStation (h : u.shut) {st : Stn} : (u.loseStation st).shut := by
  unfold State.loseStation
  refine State.shut.modStn ?_
  (repeat' split)
  · exact h
  · exact h.modStn.modStore.deregister
  · exact h.modStn.modStore

/-! The probe links with no session open. -/

theorem State.shut.setCalDue (h : u.shut) {ch : Chan} {cause : CalDue} : (u.setCalDue ch cause).shut := by
  simpa [State.setCalDue, h.openBracket ch] using h

theorem State.shut.loseLink (h : u.shut) {ch : Chan} : (u.loseLink ch).shut := by
  unfold State.loseLink
  extract_lets was s1
  have lost : s1.shut := h.modChan fun c hc => ⟨.inl rfl, hc.2⟩
  refine State.shut.setCalDue ?_
  rcases (h.channels ch).1 with offline | needsCal
  · rw [show was = .offline from offline]
    exact lost.raise
  · rw [show was = .needsCal from needsCal]
    exact lost.raise

theorem State.shut.checkIdentity (h : u.shut) {ch : Chan} {id : ProbeId} : (u.checkIdentity ch id).shut := by
  simpa [State.checkIdentity, State.bracketChanged, h.openBracket ch, h.evaluationInHand ch] using h

theorem State.shut.linkUp (h : u.shut) {ch : Chan} {id : Identity} : (u.linkUp ch id).shut := by
  unfold State.linkUp
  extract_lets changed new s1 s2 p s3
  have needsCal : new = .needsCal := by
    simp [new, changed, State.evaluationChanged, State.bracketChanged, State.linkUpState, h.openBracket ch,
      h.evaluationInHand ch]
  have begun : s1.shut := h.modChan fun c hc => ⟨.inr needsCal, by simp [needsCal], hc.2.2⟩
  have told : s3.shut := begun.checkIdentity.raise
  exact told.modChan.sendProbe

theorem State.shut.failProbe (h : u.shut) {ch : Chan} : (u.failProbe ch).shut := by
  have idle : u.failWork ch = u := by
    unfold State.failWork
    rcases (h.channels ch).1 with offline | needsCal
    · simp [offline, h.evaluationInHand ch]
    · simp [needsCal]
  have failed : (u.failWork ch).failBracket ch .probeFailed = u := by
    simp [idle, State.failBracket, h.openBracket ch]
  unfold State.failProbe
  rw [failed]
  extract_lets s1
  split
  · exact h
  · have moved : (u.moveChan ch .needsCal).shut := h.moveNeedsCal
    unfold State.reportAborts
    rw [(moved.channels ch).2.2]
    exact moved

end Shut

end Sys2Proof.Machine
end

section
namespace Sys2Proof.Machine

section Orderly
variable {skip : Option Chan} {s u : State}

/-! The store port and the streams in good order (R81 to R87, R172 to R177). -/

theorem State.Orderly.freeBuffer (h : State.Orderly skip s u) {ch : Chan} {i : BufId} :
    State.Orderly skip s (u.freeBuffer ch i) := by
  unfold State.freeBuffer
  extract_lets s1
  split
  · exact h.modBuf.handOver
  · exact h.modBuf

theorem State.Orderly.writeEnded (h : State.Orderly none s u) {ch : Chan} {i : BufId} {traverse : Option Nat}
    {page : Nat} {bytes : List Byte} : State.Orderly none s (u.writeEnded ch i traverse page bytes) := by
  unfold State.writeEnded
  extract_lets s1
  have free : State.Orderly none s s1 := h.modStore
  split
  · exact free.freeBuffer.arbitrate
  · exact free.modTrav.freeBuffer.arbitrate.tryComplete.reportAbort.testRelease

theorem State.Orderly.pump (h : State.Orderly skip s u) {st : Stn} : State.Orderly skip s (u.pump st) := by
  unfold State.pump
  split
  · exact h.modStn
  · extract_lets r1 s1
    (repeat' split)
    · exact h.modStn.deregister
    · exact h.modStn
    · exact h.modStn.arbitrate

theorem State.Orderly.fetchEnded (h : State.Orderly skip s u) {st : Stn} {page seq : Nat} {deliver : Bool}
    {bytes : List Byte} : State.Orderly skip s (u.fetchEnded st page seq deliver bytes) := by
  unfold State.fetchEnded
  extract_lets s1
  have free : State.Orderly skip s s1 := h.modStore
  split
  · exact free.modStream.pump.arbitrate
  · exact free.arbitrate

theorem State.Orderly.abortStream (h : State.Orderly skip s u) {st : Stn} :
    State.Orderly skip s (u.abortStream st) := by
  unfold State.abortStream
  split
  · exact h
  · exact h.modStream.modStore.pump

theorem State.Orderly.loseStation (h : State.Orderly skip s u) {st : Stn} :
    State.Orderly skip s (u.loseStation st) := by
  unfold State.loseStation
  refine State.Orderly.modStn ?_
  (repeat' split)
  · exact h
  · exact h.modStn.modStore.deregister
  · exact h.modStn.modStore

end Orderly

/-! Tame acts: in good order, and with no session open none is opened and no work begins. -/

/-- An act in good order that leaves the part shut where it was. -/
structure State.Tame (s t : State) : Prop where
  orderly : State.Orderly none s t
  shut : s.shut → t.shut

theorem State.Tame.refl (s : State) : State.Tame s s := ⟨State.Orderly.refl s, id⟩

theorem State.Tame.trans {s t u : State} (h : State.Tame s t) (k : State.Tame t u) : State.Tame s u :=
  ⟨h.orderly.trans k.orderly, fun closed => k.shut (h.shut closed)⟩

theorem State.Tame.permitLaw {s t : State} (h : State.Tame s t) (law : s.permitLaw) : t.permitLaw :=
  h.orderly.permitLaw law

theorem State.workLaw_of_open {s : State} (h : s.worked) (opened : s.session ≠ none) : s.workLaw :=
  ⟨h.1, h.2.1, h.2.2, fun closed => absurd closed opened⟩

theorem State.workLaw.worked {s : State} (h : s.workLaw) : s.worked := ⟨h.1, h.2.1, h.2.2.1⟩

theorem session_ne_none_of_charter {a b : Option Session} (h : charter a = charter b) (opened : b ≠ none) :
    a ≠ none := by
  rintro rfl
  cases b
  · exact opened rfl
  · exact nomatch h

theorem State.Tame.workLaw {s t : State} (h : State.Tame s t) (law : s.workLaw) : t.workLaw := by
  by_cases opened : s.session = none
  · exact (h.shut (State.shut_of_workLaw law opened)).workLaw
  · exact State.workLaw_of_open (h.orderly.worked law.worked)
      (session_ne_none_of_charter h.orderly.chartered opened)

theorem State.tame_modStn (s : State) (st : Stn) (f : StationLink → StationLink) : State.Tame s (s.modStn st f) :=
  ⟨(State.Orderly.refl s).modStn, fun h => h.modStn⟩

/-- An act on the links or the configuration only. -/
theorem State.tame_apart (s t : State) (session : t.session = s.session) (store : t.store = s.store)
    (cal : t.cal = s.cal) (comparisons : t.comparisons = s.comparisons) (channels : t.channels = s.channels) :
    State.Tame s t :=
  ⟨(State.Orderly.refl s).apart t session channels store (by rw [cal]), fun h => h.apart t session store cal
    comparisons channels⟩

section Carriers
variable (s t : State)

theorem State.act_tame (f : State → State) (hf : ∀ u, State.Tame u (f u)) (h : s.act f = .next t) :
    State.Tame s t :=
  State.act_keeps (State.Tame s) s t f (fun u hu => hu.trans (hf u)) h (State.Tame.refl s)

theorem State.probeFrame_tame (ch : Chan) (f : State → State) (hf : ∀ u, State.Tame u (f u))
    (h : s.probeFrame ch f = .next t) : State.Tame s t :=
  State.probeFrame_keeps (State.Tame s) s t ch f
    (fun u hu => hu.trans ⟨(State.Orderly.refl u).modChan, fun hs => hs.modChan⟩) (fun u hu => hu.trans (hf u)) h
    (State.Tame.refl s)

theorem State.request_tame (st : Stn) (tag : Nat) (req : Request) (body : State → State × Reply)
    (hb : ∀ u, State.Tame u (body u).1) (h : s.request st tag req body = .next t) : State.Tame s t :=
  State.request_keeps (State.Tame s) s t st tag req body (fun u f hu => hu.trans (u.tame_modStn st f))
    (fun u hu => hu.trans (hb u)) h (State.Tame.refl s)

theorem State.leadRequest_tame (st : Stn) (tag : Nat) (req : Request) (body : State → State × Reply)
    (hb : ∀ u, State.Tame u (body u).1) (h : s.leadRequest st tag req body = .next t) : State.Tame s t :=
  State.leadRequest_keeps (State.Tame s) s t st tag req body (fun u f hu => hu.trans (u.tame_modStn st f))
    (fun u hu => hu.trans (hb u)) h (State.Tame.refl s)

/-- A body that needs a session is refused with none open. -/
theorem State.withSession_tame (body : Session → State × Reply)
    (hb : ∀ x, State.Orderly none s (body x).1) : State.Tame s (s.withSession body).1 := by
  refine ⟨State.withSession_keeps (State.Orderly none s) s body (fun x _ _ => hb x) (State.Orderly.refl s),
    fun h => ?_⟩
  rw [State.withSession, h.session]
  exact h

theorem State.editRequest_tame (st : Stn) (tag : Nat) (req : Request) (good : Bool)
    (body : State → Session → State × Reply) (hb : ∀ u x, State.Orderly none u (body u x).1)
    (h : s.editRequest st tag req good body = .next t) : State.Tame s t := by
  refine s.leadRequest_tame t st tag req _ (fun u => u.withSession_tame _ fun x => ?_) h
  (repeat' split)
  · exact State.Orderly.refl u
  · exact hb u x
  · exact State.Orderly.refl u

end Carriers

/-! Each command but those that begin a traverse, open or close a session, lock the plan or reset the part is
tame. -/

/-- An act that needs a channel at work has no effect with no session open. -/
theorem State.tame_of_idle (s t : State) (orderly : State.Orderly none s t) (idle : s.shut → t = s) :
    State.Tame s t := ⟨orderly, fun h => by rw [idle h]; exact h⟩

theorem execHello_tame (ch : Chan) (id : Identity) (s t : State) (h : execHello ch id s = .next t) :
    State.Tame s t := by
  refine s.act_tame t _ (fun u => ?_) h
  dsimp only
  split
  · exact ⟨(State.Orderly.refl u).linkUp, fun hu => hu.linkUp⟩
  · exact ⟨(State.Orderly.refl u).loseLink.linkUp, fun hu => hu.loseLink.linkUp⟩

theorem execClaim_tame (ch : Chan) (row col : Nat) (s t : State) (h : execClaim ch row col s = .next t) :
    State.Tame s t := by
  refine s.probeFrame_tame t ch _ (fun u => ?_) h
  unfold State.takeClaim
  split
  · exact ⟨(State.Orderly.refl u).sendProbe, fun hu => hu.sendProbe⟩
  · next granted =>
    refine ⟨(State.Orderly.refl u).grantClaim, fun hu => ?_⟩
    simp [State.claimRefusal, hu.session] at granted

end Sys2Proof.Machine
end

section
namespace Sys2Proof.Machine

/-! The frames and the timers of a probe channel. -/

theorem execReleaseClaim_tame (ch : Chan) (s t : State) (h : execReleaseClaim ch s = .next t) :
    State.Tame s t := by
  refine s.probeFrame_tame t ch _ (fun u => u.tame_of_idle _ ?_ fun hu => ?_) h
  · split
    · exact (State.Orderly.refl u).endClaimAndRest
    all_goals exact State.Orderly.refl u
  · rcases (hu.channels ch).1 with offline | needsCal
    · simp [offline]
    · simp [needsCal]

theorem execSample_tame (ch : Chan) (seq : Nat) (r : Reading) (s t : State) (h : execSample ch seq r s = .next t) :
    State.Tame s t := by
  refine s.probeFrame_tame t ch _ (fun u => u.tame_of_idle _ ?_ fun hu => ?_) h
  · split
    · exact (State.Orderly.refl u).offerSample
    · exact State.Orderly.refl u
  · rcases (hu.channels ch).1 with offline | needsCal
    · simp [State.sampling, offline]
    · simp [State.sampling, needsCal]

theorem execPause_tame (ch : Chan) (s t : State) (h : execPause ch s = .next t) : State.Tame s t := by
  refine s.probeFrame_tame t ch _ (fun u => u.tame_of_idle _ ?_ fun hu => ?_) h
  · (repeat' split)
    · exact (State.Orderly.refl u).modTrav.modChan.moveChan
    · exact State.Orderly.refl u
    · exact State.Orderly.refl u
  · rcases (hu.channels ch).1 with offline | needsCal
    · simp [offline]
    · simp [needsCal]

theorem execResume_tame (ch : Chan) (s t : State) (h : execResume ch s = .next t) : State.Tame s t := by
  refine s.probeFrame_tame t ch _ (fun u => u.tame_of_idle _ ?_ fun hu => ?_) h
  · split
    · exact (State.Orderly.refl u).modTrav.modChan.moveChan
    · exact State.Orderly.refl u
  · rcases (hu.channels ch).1 with offline | needsCal
    · simp [offline]
    · simp [needsCal]

theorem execPullEnd_tame (ch : Chan) (s t : State) (h : execPullEnd ch s = .next t) : State.Tame s t := by
  refine s.probeFrame_tame t ch _ (fun u => u.tame_of_idle _ ?_ fun hu => ?_) h
  · (repeat' split)
    · exact (State.Orderly.refl u).finishPull
    · exact State.Orderly.refl u
    · exact (State.Orderly.refl u).finishPull
    · exact (State.Orderly.refl u).finishPull
    · exact State.Orderly.refl u
  · rcases (hu.channels ch).1 with offline | needsCal
    · simp [offline]
    · simp [needsCal]

theorem execAbandon_tame (ch : Chan) (r : AbandonReason) (s t : State) (h : execAbandon ch r s = .next t) :
    State.Tame s t := by
  refine s.probeFrame_tame t ch _ (fun u => u.tame_of_idle _ ?_ fun hu => ?_) h
  · unfold State.takeAbandon
    split
    · exact (State.Orderly.refl u).endClaimAndRest
    · exact (State.Orderly.refl u).abortAndRest
    · exact (State.Orderly.refl u).abortAndRest
    · exact (State.Orderly.refl u).abortCalibration.moveChan
    all_goals exact State.Orderly.refl u
  · rcases (hu.channels ch).1 with offline | needsCal
    · simp [State.takeAbandon, offline]
    · simp [State.takeAbandon, needsCal]

theorem execProbeFailed_tame (ch : Chan) (s t : State) (h : execProbeFailed ch s = .next t) : State.Tame s t :=
  s.probeFrame_tame t ch _ (fun u => ⟨(State.Orderly.refl u).failProbe, fun hu => hu.failProbe⟩) h

theorem execProbeLinkLoss_tame (ch : Chan) (s t : State) (h : execProbeLinkLoss ch s = .next t) :
    State.Tame s t := by
  refine s.act_tame t _ (fun u => ?_) h
  split
  · exact State.Tame.refl u
  · exact ⟨(State.Orderly.refl u).loseLink, fun hu => hu.loseLink⟩

theorem execClaimExpiry_tame (ch : Chan) (s t : State) (h : execClaimExpiry ch s = .next t) : State.Tame s t := by
  refine s.act_tame t _ (fun u => u.tame_of_idle _ ?_ fun hu => by simp [hu.reached]) h
  split
  · exact (State.Orderly.refl u).endClaim.moveChan
  · exact State.Orderly.refl u

theorem execPauseExpiry_tame (ch : Chan) (s t : State) (h : execPauseExpiry ch s = .next t) : State.Tame s t := by
  refine s.act_tame t _ (fun u => u.tame_of_idle _ ?_ fun hu => by simp [hu.reached]) h
  split
  · exact (State.Orderly.refl u).abortAndRest
  · exact State.Orderly.refl u

/-! The Traverse Store Controller, the Calibration Unit and the Agreement Unit. -/

theorem execPageWriteEnd_tame (s t : State) (h : execPageWriteEnd s = .next t) : State.Tame s t := by
  unfold execPageWriteEnd at h
  split at h
  · cases h
    exact State.Tame.refl s
  · split at h
    · split at h <;> cases h
      exact ⟨(State.Orderly.refl s).writeEnded, fun hs => hs.writeEnded⟩
    all_goals
      cases h
      exact State.Tame.refl s

theorem execFetchEnd_tame (upset : List Host.Cell) (s t : State) (h : execFetchEnd upset s = .next t) :
    State.Tame s t := by
  unfold execFetchEnd at h
  split at h
  · cases h
    exact State.Tame.refl s
  · split at h
    · split at h <;> cases h
      exact ⟨(State.Orderly.refl s).fetchEnded, fun hs => hs.fetchEnded⟩
    all_goals
      cases h
      exact State.Tame.refl s

theorem execCalibrationVerdict_tame (ch : Chan) (s t : State) (h : execCalibrationVerdict ch s = .next t) :
    State.Tame s t := by
  refine s.act_tame t _ (fun u => u.tame_of_idle _ ?_ fun hu => by simp [hu.attempts ch]) h
  (repeat' split)
  · exact State.Orderly.refl u
  · exact (State.Orderly.refl u).rejectCalibration
  · exact (State.Orderly.refl u).acceptCalibration
  · exact State.Orderly.refl u

theorem execBracketAgeLimit_tame (ch : Chan) (s t : State) (h : execBracketAgeLimit ch s = .next t) :
    State.Tame s t := by
  refine s.act_tame t _ (fun u => u.tame_of_idle _ ?_ fun hu => by simp [hu.reached]) h
  split
  · exact (State.Orderly.refl u).setCalDue
  · exact State.Orderly.refl u

theorem execClosedFailPresentation_tame (n : Nat) (s t : State) (h : execClosedFailPresentation n s = .next t) :
    State.Tame s t := by
  refine s.act_tame t _ (fun u => u.tame_of_idle _ ?_ fun hu => by simp [State.sweepStep, hu.bracket?]) h
  exact (State.Orderly.refl u).sweepStep fun _ _ hv => hv.presentFail

theorem execClosedGoodHandover_tame (n : Nat) (s t : State) (h : execClosedGoodHandover n s = .next t) :
    State.Tame s t := by
  refine s.act_tame t _ (fun u => u.tame_of_idle _ ?_ fun hu => by simp [State.sweepStep, hu.bracket?]) h
  exact (State.Orderly.refl u).sweepStep fun _ _ hv => hv.presentGood

theorem execComparisonEnd_tame (row col : Nat) (s t : State) (h : execComparisonEnd row col s = .next t) :
    State.Tame s t := by
  refine s.act_tame t _ (fun u => u.tame_of_idle _ ?_ fun hu => by simp [State.comparison?, hu.comparisons]) h
  split
  · exact State.Orderly.refl u
  · exact (State.Orderly.refl u).dropComparison.applyOutcome

/-! The station links, the save and the session clock. -/

theorem execAbortStream_tame (st : Stn) (s t : State) (h : execAbortStream st s = .next t) : State.Tame s t :=
  s.act_tame t _ (fun u => ⟨State.Orderly.abortStream (u.tame_modStn st StationLink.heard).orderly,
    fun hu => State.shut.abortStream hu.modStn⟩) h

theorem execStationLinkLoss_tame (st : Stn) (s t : State) (h : execStationLinkLoss st s = .next t) :
    State.Tame s t := by
  refine s.act_tame t _ (fun u => ?_) h
  split
  · exact ⟨(State.Orderly.refl u).loseStation, fun hu => hu.loseStation⟩
  · exact State.Tame.refl u

theorem execStationIdleSend_tame (st : Stn) (s t : State) (h : execStationIdleSend st s = .next t) :
    State.Tame s t := by
  refine s.act_tame t _ (fun u => ?_) h
  split
  · exact u.tame_modStn st _
  · exact State.Tame.refl u

theorem execFrameSendEnd_tame (st : Stn) (s t : State) (h : execFrameSendEnd st s = .next t) : State.Tame s t := by
  refine s.act_tame t _ (fun u => ?_) h
  split
  · exact State.Tame.refl u
  · exact State.Tame.refl u
  · exact u.tame_modStn st _

theorem execPageSendEnd_tame (st : Stn) (s t : State) (h : execPageSendEnd st s = .next t) : State.Tame s t := by
  refine s.act_tame t _ (fun u => ?_) h
  split
  · exact ⟨(State.Orderly.refl u).modStn.pump, fun hu => State.shut.pump hu.modStn⟩
  · exact State.Tame.refl u

theorem execReadPages_tame (st : Stn) (tag traverse first count : Nat) (s t : State)
    (h : execReadPages st tag traverse first count s = .next t) : State.Tame s t := by
  refine State.takeRequest_keeps (State.Tame s) s t st tag _ _ (fun u f hu => hu.trans (u.tame_modStn st f))
    (fun u hu => hu.trans ⟨?_, fun hs => ?_⟩) h (State.Tame.refl s)
  · unfold State.runReadPages
    extract_lets refuse
    (repeat' split)
    · exact (State.Orderly.refl u).modStn
    · exact (State.Orderly.refl u).modStn
    · exact (State.Orderly.refl u).modStn
    · exact (State.Orderly.refl u).register.modStn.pump
  · have refused : u.runReadPages st tag traverse first count = u.respond st tag 21 (.refuse .noSession) := by
      simp [State.runReadPages, hs.session]
    rw [refused]
    exact hs.modStn

/-! The requests on tubes, calls and traverses. -/

/-- A body that needs a tube changes nothing where none is defined. -/
theorem State.Orderly.withTube (u : State) (p : Pos) (body : TubeEntry → State × Reply)
    (hb : ∀ e, State.Orderly none u (body e).1) : State.Orderly none u (u.withTube p body).1 :=
  State.withTube_keeps (State.Orderly none u) u p body (fun e _ => hb e) (State.Orderly.refl u)

theorem execRequestRetest_tame (st : Stn) (tag row col : Nat) (reset : Bool) (s t : State)
    (h : execRequestRetest st tag row col reset s = .next t) : State.Tame s t := by
  refine s.leadRequest_tame t st tag _ _ (fun u => u.withSession_tame _ fun _ =>
    State.Orderly.withTube u _ _ fun e => ?_) h
  have again : State.Orderly none u (if reset then u.retestTube e.pos .lead true none else u) := by
    split
    · exact (State.Orderly.refl u).retestTube
    · exact State.Orderly.refl u
  unfold State.leadRetest
  cases e.state
  case claimed | plugged => exact State.Orderly.refl u
  case pending | retest | restricted => exact again
  case acquired | resolution | final | plugRecommended => exact (State.Orderly.refl u).retestTube

theorem execConfirmPlug_tame (st : Stn) (tag row col : Nat) (s t : State)
    (h : execConfirmPlug st tag row col s = .next t) : State.Tame s t := by
  refine s.leadRequest_tame t st tag _ _ (fun u => u.withSession_tame _ fun _ =>
    State.Orderly.withTube u _ _ fun e => ?_) h
  split
  · cases e.traverse with
    | none => exact (State.Orderly.refl u).moveTube
    | some id => exact (State.Orderly.refl u).moveTube.settle
  · exact State.Orderly.refl u

theorem execSubmitFinal_tame (st : Stn) (tag row col traverse : Nat) (call : SubmittedCall) (s t : State)
    (h : execSubmitFinal st tag row col traverse call s = .next t) : State.Tame s t := by
  refine s.leadRequest_tame t st tag _ _ (fun u => u.withSession_tame _ fun x => ?_) h
  split
  · exact State.Orderly.refl u
  · refine State.Orderly.withTube u _ _ fun e => ?_
    (repeat' split)
    · exact State.Orderly.refl u
    · exact State.Orderly.refl u
    · exact (State.Orderly.refl u).decideTube

theorem execMarkArchived_tame (st : Stn) (tag traverse : Nat) (s t : State)
    (h : execMarkArchived st tag traverse s = .next t) : State.Tame s t := by
  refine s.leadRequest_tame t st tag _ _ (fun u => u.withSession_tame _ fun x => ?_) h
  have marked : ∀ tr : Traverse, State.Orderly none u
      (if tr.archived then u
        else (u.modTrav traverse fun t => { t with archived := true }).testRelease traverse) := by
    intro tr
    split
    · exact State.Orderly.refl u
    · exact (State.Orderly.refl u).modTrav.testRelease
  split
  · exact State.Orderly.refl u
  · next tr _ =>
    cases tr.state
    case recording | paused | finishing => exact State.Orderly.refl u
    case complete | aborted | invalidated => exact marked tr

theorem execDeclareProbeFailed_tame (st : Stn) (tag ch : Nat) (s t : State)
    (h : execDeclareProbeFailed st tag ch s = .next t) : State.Tame s t := by
  refine s.leadRequest_tame t st tag _ _ (fun u => ?_) h
  split
  · exact State.Tame.refl u
  · exact ⟨(State.Orderly.refl u).failProbe, fun hu => hu.failProbe⟩

theorem State.Orderly.startComparison (s u : State) (h : State.Orderly none s u) (p : Pos) :
    State.Orderly none s (u.startComparison p).1 := by
  unfold State.startComparison
  (repeat' split)
  · exact h
  · exact h.dropComparison.beginComparison
  · exact h

theorem State.submitCall_tame (s : State) (role : Role) (p : Pos) (traverse : Nat) (call : SubmittedCall) :
    State.Tame s (s.submitCall role p traverse call).1 := by
  refine s.withSession_tame _ fun x => ?_
  split
  · exact State.Orderly.refl s
  · split
    · exact State.Orderly.refl s
    · refine State.Orderly.withTube s _ _ fun e => ?_
      (repeat' split)
      · exact State.Orderly.refl s
      · exact State.Orderly.refl s
      · exact State.Orderly.startComparison _ _ (State.Orderly.refl s).modTube _

theorem execSubmitCall_tame (st : Stn) (tag row col traverse : Nat) (call : SubmittedCall) (s t : State)
    (h : execSubmitCall st tag row col traverse call s = .next t) : State.Tame s t := by
  refine s.request_tame t st tag _ _ (fun u => ?_) h
  split
  · exact u.submitCall_tame _ _ _ _
  · exact u.submitCall_tame _ _ _ _
  · exact State.Tame.refl u
  · exact State.Tame.refl u

/-! The edits of the plan that leave its lock. -/

theorem State.edit_orderly (u t : State) (chartered : charter t.session = charter u.session)
    (store : t.store = u.store) (channels : t.channels = u.channels) (cal : t.cal = u.cal) :
    State.Orderly none u t :=
  (State.Orderly.refl u).aside t chartered (by rw [store]) channels (by rw [cal])

theorem execDefineTubes_tame (st : Stn) (tag row col1 col2 cls : Nat) (cond : Condition) (s t : State)
    (h : execDefineTubes st tag row col1 col2 cls cond s = .next t) : State.Tame s t := by
  refine s.editRequest_tame t st tag _ _ _ (fun u x => ?_) h
  dsimp only
  split
  · exact State.Orderly.refl u
  · exact (State.Orderly.refl u).modSession

theorem execSetWindow_tame (st : Stn) (tag ch : Nat) (w : Rect) (s t : State)
    (h : execSetWindow st tag ch w s = .next t) : State.Tame s t := by
  refine s.leadRequest_tame t st tag _ _ (fun u => u.withSession_tame _ fun x => ?_) h
  split
  · exact u.edit_orderly _ (by simp [charter, State.modPlan, Function.comp_def]) rfl rfl rfl
  · exact State.Orderly.refl u

theorem execSetExclusions_tame (st : Stn) (tag : Nat) (complement : Bool) (rects : List Rect) (s t : State)
    (h : execSetExclusions st tag complement rects s = .next t) : State.Tame s t := by
  refine s.leadRequest_tame t st tag _ _ (fun u => u.withSession_tame _ fun x => ?_) h
  split
  · exact u.edit_orderly _ (by simp [charter, State.modPlan, Function.comp_def]) rfl rfl rfl
  · exact State.Orderly.refl u

theorem execDefineStandard_tame (st : Stn) (tag id : Nat) (depths : List Nat) (freq threshold : Nat) (s t : State)
    (h : execDefineStandard st tag id depths freq threshold s = .next t) : State.Tame s t := by
  refine s.leadRequest_tame t st tag _ _ (fun u => ?_) h
  dsimp only
  (repeat' split)
  · exact State.Tame.refl u
  · exact u.tame_apart _ rfl rfl rfl rfl rfl
  · exact State.Tame.refl u

theorem execSaveConfig_tame (st : Stn) (tag : Nat) (s t : State) (h : execSaveConfig st tag s = .next t) :
    State.Tame s t := by
  refine s.leadRequest_tame t st tag _ _ (fun u => ?_) h
  (repeat' split)
  · exact State.Tame.refl u
  · exact State.Tame.refl u
  · exact u.tame_apart _ rfl rfl rfl rfl rfl

end Sys2Proof.Machine
end

section
namespace Sys2Proof.Machine

/-! The end of a session (R89, R142, R193 to R195). -/

section Orderly
variable {skip : Option Chan} {s u : State}

theorem State.Orderly.closeStream (h : State.Orderly skip s u) {st : Stn} :
    State.Orderly skip s (u.closeStream st) := by
  unfold State.closeStream
  extract_lets s1
  have aborted : State.Orderly skip s s1 := h.abortStream
  (repeat' split)
  · exact aborted
  · exact aborted.modStream.deregister
  · exact aborted

theorem State.Orderly.closeClaim (h : State.Orderly skip s u) {ch : Chan} :
    State.Orderly skip s (u.closeClaim ch) := by
  unfold State.closeClaim
  split
  · exact h.endClaim
  all_goals exact h

theorem State.Orderly.closePull (h : State.Orderly skip s u) {t : Traverse} :
    State.Orderly skip s (u.closePull t) := by
  unfold State.closePull
  extract_lets s1
  split
  · exact h.abortTraverse.abortTube
  · exact h.abortTraverse

theorem State.Orderly.closeAttempt (h : State.Orderly skip s u) {ch : Chan} :
    State.Orderly skip s (u.closeAttempt ch) := by
  unfold State.closeAttempt
  split
  · exact h
  · exact h.abortTraverse.endAttempt

theorem State.Orderly.endWork (h : State.Orderly skip s u) : State.Orderly skip s u.endWork := by
  unfold State.endWork
  extract_lets s1 s2 s3 s4
  have claims : State.Orderly skip s s2 :=
    h.closeStream.closeStream.closeStream.closeClaim.closeClaim.closeClaim.closeClaim
  have pulls : State.Orderly skip s s3 :=
    List.foldlRecOn _ _ claims.modStore fun _ kept _ _ => kept.closePull
  have attempts : State.Orderly skip s s4 := pulls.closeAttempt.closeAttempt.closeAttempt.closeAttempt
  exact attempts.apart _ rfl rfl rfl rfl

theorem State.Orderly.closeChannel (h : State.Orderly skip s u) {ch : Chan} :
    State.Orderly skip s (u.closeChannel ch) := by
  unfold State.closeChannel
  split
  · exact h
  · exact h.moveChan

end Orderly

/-- A channel's permit is that of now wherever it is OFFLINE. -/
def State.silentOffline (s : State) (k : Chan) : Prop :=
  (s.chan k).state = .offline → (s.chan k).permit = none

theorem State.Orderly.silentOffline {s t : State} (h : State.Orderly none s t) (k : Chan)
    (law : s.silentOffline k) : t.silentOffline k := by
  intro offline
  rcases h.permits k nofun with same | now
  · have state : (t.chan k).state = (s.chan k).state := congrArg Prod.fst same
    have permit : (t.chan k).permit = (s.chan k).permit := congrArg Prod.snd same
    rw [permit]
    exact law (state.symm.trans offline)
  · rw [now, State.permitNow, offline]

theorem State.Orderly.permitLaw_chan {s t : State} (h : State.Orderly none s t) (k : Chan)
    (law : (s.chan k).permit = s.permitNow k) : (t.chan k).permit = t.permitNow k := by
  rcases h.permits k nofun with same | now
  · have state : (t.chan k).state = (s.chan k).state := congrArg Prod.fst same
    have permit : (t.chan k).permit = (s.chan k).permit := congrArg Prod.snd same
    rw [permit, law, State.permitNow_of_charter s t k h.chartered state]
  · exact now

/-- A moved channel has the permit of now (R47, R48). -/
theorem State.permit_moveChan (s : State) (ch : Chan) (new : ChanState) :
    ((s.moveChan ch new).chan ch).permit = (s.moveChan ch new).permitNow ch := by
  unfold State.moveChan
  rw [State.permitNow_refreshPermit, (State.refreshPermit_chan _ ch ch).2, if_pos rfl]

theorem State.permit_closeChannel (s : State) (ch : Chan) (law : s.silentOffline ch) :
    ((s.closeChannel ch).chan ch).permit = (s.closeChannel ch).permitNow ch := by
  unfold State.closeChannel
  split
  · next offline => rw [law offline, State.permitNow, offline]
  · exact s.permit_moveChan ch .needsCal

/-- After a close every permit is that of now (R195). -/
theorem State.permitLaw_closeChannels (s : State) (law : ∀ k, s.silentOffline k) :
    s.closeChannels.permitLaw := by
  have closes : ∀ (u : State) (ch : Chan), State.Orderly none u (u.closeChannel ch) :=
    fun u ch => (State.Orderly.refl u).closeChannel
  let s1 := s.closeChannel 0
  let s2 := s1.closeChannel 1
  let s3 := s2.closeChannel 2
  have law1 : s1.silentOffline 1 := (closes s 0).silentOffline 1 (law 1)
  have law2 : s2.silentOffline 2 :=
    (closes s1 1).silentOffline 2 ((closes s 0).silentOffline 2 (law 2))
  have law3 : s3.silentOffline 3 := (closes s2 2).silentOffline 3
    ((closes s1 1).silentOffline 3 ((closes s 0).silentOffline 3 (law 3)))
  have closed0 : (s.closeChannels.chan 0).permit = s.closeChannels.permitNow 0 :=
    (((closes s1 1).trans (closes s2 2)).trans (closes s3 3)).permitLaw_chan 0
      (s.permit_closeChannel 0 (law 0))
  have closed1 : (s.closeChannels.chan 1).permit = s.closeChannels.permitNow 1 :=
    ((closes s2 2).trans (closes s3 3)).permitLaw_chan 1 (s1.permit_closeChannel 1 law1)
  intro k
  match k with
  | 0 => exact closed0
  | 1 => exact closed1
  | 2 => exact (closes s3 3).permitLaw_chan 2 (s2.permit_closeChannel 2 law2)
  | 3 => exact s3.permit_closeChannel 3 law3

theorem Channel.permit_cleared (c : Channel) (ch : Chan) (port : Port) :
    (c.cleared ch port).permit = c.permit := by
  have dropped : ∀ (c : Channel) (i : BufId), (c.dropBuffer ch port i).permit = c.permit := by
    intro c i
    unfold Channel.dropBuffer
    cases i <;> split <;> rfl
  exact (dropped _ .b).trans (dropped _ .a)

theorem State.permitLaw_finishClose (s : State) (e : Event) (law : s.permitLaw) :
    (s.finishClose e).permitLaw := by
  have closed : s.clearSession.closeChannels.permitLaw := by
    refine State.permitLaw_closeChannels _ fun k offline => ?_
    rw [State.chan_clearSession] at offline ⊢
    rw [Channel.state_cleared] at offline
    rw [Channel.permit_cleared, law k, State.permitNow, offline]
  rw [State.finishClose_eq]
  generalize s.clearSession.closeChannels = u at closed ⊢
  have emptied : State.Orderly none u u.dropEvents := (State.Orderly.refl u).apart _ rfl rfl rfl rfl
  exact emptied.raise.permitLaw closed

theorem poolPages_run (n : Nat) : poolPages [⟨0, n⟩] = List.range n := by
  simp [poolPages, List.range_eq_range']

theorem State.shut_finishClose (s : State) (e : Event) : (s.finishClose e).shut := by
  have store := s.store_finishClose e
  have cal := s.cal_finishClose e
  have resting : ∀ ch, ((s.finishClose e).chan ch).resting := by
    intro ch
    obtain ⟨state, _, traverse, _⟩ := s.finishClose_chan e ch
    refine ⟨?_, traverse, ?_⟩
    · rw [state]
      unfold ChanState.afterClose
      split
      · exact .inl rfl
      · exact .inr rfl
    · have silent := s.clearSession.closeChannels_silent ch
      rw [State.chan_clearSession] at silent
      rw [State.finishClose_eq, State.chan_raise, State.chan_dropEvents]
      generalize s.clearSession.closeChannels.chan ch = c at silent ⊢
      exact (congrArg Channel.reports silent :)
  refine ⟨s.session_finishClose e, by rw [store], ?_, by rw [store], by rw [store], by rw [cal]; rfl, by rw [cal]; rfl,
    s.comparisons_finishClose e, fun ch => ?_, resting⟩
  · rw [store]
    exact poolPages_run _
  · rw [State.attempt?, cal]
    exact Four.get_all _ _

end Sys2Proof.Machine
end

section
namespace Sys2Proof.Machine

/-! The commands that begin a traverse, open or close a session, lock the plan or reset the part. -/

/-- From `s` to `t` the permit law and the law of the work in hand are kept. -/
structure State.Sound (s t : State) : Prop where
  permit : s.permitLaw → t.permitLaw
  work : s.workLaw → t.workLaw

theorem State.Tame.sound {s t : State} (h : State.Tame s t) : State.Sound s t := ⟨h.permitLaw, h.workLaw⟩

theorem State.Sound.refl (s : State) : State.Sound s s := ⟨id, id⟩

theorem State.Sound.trans {s t u : State} (h : State.Sound s t) (k : State.Sound t u) : State.Sound s u :=
  ⟨fun law => k.permit (h.permit law), fun law => k.work (h.work law)⟩

/-- A traverse begun while the part is not shut. -/
theorem State.Begins.sound {s t : State} {ch : Chan} (h : State.Begins s t ch) (busy : ¬s.shut) :
    State.Sound s t := by
  refine ⟨h.permitLaw, fun law => ?_⟩
  have opened : s.session ≠ none := fun closed => busy (State.shut_of_workLaw law closed)
  refine State.workLaw_of_open (h.worked opened law.worked) fun closed => ?_
  have charters := h.chartered
  rw [closed] at charters
  cases hs : s.session with
  | none => exact opened hs
  | some x =>
    rw [hs] at charters
    exact nomatch charters

theorem State.tame_sendProbe (s : State) (ch : Chan) (f : ProbeOut) : State.Tame s (s.sendProbe ch f) :=
  ⟨(State.Orderly.refl s).sendProbe, fun h => h.sendProbe⟩

theorem State.probeFrame_sound (s t : State) (ch : Chan) (f : State → State) (hf : ∀ u, State.Sound u (f u))
    (h : s.probeFrame ch f = .next t) : State.Sound s t :=
  State.probeFrame_keeps (State.Sound s) s t ch f
    (fun u hu => hu.trans (State.Tame.sound ⟨(State.Orderly.refl u).modChan, fun hs => hs.modChan⟩))
    (fun u hu => hu.trans (hf u)) h (State.Sound.refl s)

theorem State.leadRequest_sound (s t : State) (st : Stn) (tag : Nat) (req : Request)
    (body : State → State × Reply) (hb : ∀ u, State.Sound u (body u).1)
    (h : s.leadRequest st tag req body = .next t) : State.Sound s t :=
  State.leadRequest_keeps (State.Sound s) s t st tag req body
    (fun u f hu => hu.trans (u.tame_modStn st f).sound) (fun u hu => hu.trans (hb u)) h (State.Sound.refl s)

theorem execPullStart_sound (ch : Chan) (s t : State) (h : execPullStart ch s = .next t) : State.Sound s t := by
  refine s.probeFrame_sound t ch _ (fun u => ?_) h
  unfold State.takePullStart
  split
  · next claimed =>
    have busy : ¬u.shut := by
      intro hu
      rcases (hu.channels ch).1 with state | state
      · exact nomatch claimed.symm.trans state
      · exact nomatch claimed.symm.trans state
    split
    · exact (u.begins_beginPull ch _).sound busy
    · exact (u.tame_sendProbe ch _).sound
  all_goals exact (u.tame_sendProbe ch _).sound

theorem execCalStart_sound (ch : Chan) (std : Nat) (s t : State) (h : execCalStart ch std s = .next t) :
    State.Sound s t := by
  refine s.probeFrame_sound t ch _ (fun u => ?_) h
  unfold State.takeCalStart
  split
  · exact (u.tame_sendProbe ch _).sound
  · next granted _ =>
    refine (u.begins_beginCalibration ch std _).sound fun hu => ?_
    simp [State.calRefusal, hu.session] at granted
  · exact (u.tame_sendProbe ch _).sound

/-- Every permit recomputed is that of now (R48). -/
theorem State.permitLaw_refreshPermits (s : State) : s.refreshPermits.permitLaw :=
  fun k => (s.refreshPermits_permit k).1

theorem State.workIds_refreshPermits (s : State) (k : Chan) : s.refreshPermits.workIds k = s.workIds k := by
  obtain ⟨traverse, reports⟩ := Channel.holds_of_silent _ _ (s.refreshPermits_chan k).1
  rw [State.workIds, traverse, reports, State.attempt?, State.cal_refreshPermits]
  rfl

/-- A session opened on a shut part has no work (R192). -/
theorem State.openSession_sound (s : State) (wall : Nat) (closed : s.session = none) :
    State.Sound s (s.openSession wall).1 := by
  refine ⟨fun _ => State.permitLaw_refreshPermits _, fun law => ?_⟩
  have shut := State.shut_of_workLaw law closed
  unfold State.openSession
  extract_lets given s1 s2 s3
  have bare : s3.store.directory = [] := rfl
  refine State.workLaw_of_open ⟨by simp [bare], by simp [bare], fun ch id hid => ?_⟩ ?_
  · rw [State.workIds_refreshPermits] at hid
    obtain ⟨_, traverse, reports⟩ := shut.channels ch
    have idle : s3.workIds ch = [] := by
      change (s.chan ch).traverse.toList ++ (s.chan ch).reports ++ (s.attempt? ch).toList.map (·.traverse) = []
      simp [traverse, reports, shut.attempts ch]
    rw [idle] at hid
    exact nomatch hid
  · rw [State.session_refreshPermits]
    exact Option.some_ne_none _

theorem execOpenSession_sound (st : Stn) (tag wall : Nat) (s t : State)
    (h : execOpenSession st tag wall s = .next t) : State.Sound s t := by
  refine s.leadRequest_sound t st tag _ _ (fun u => ?_) h
  split
  · exact State.Sound.refl u
  · next closed => exact u.openSession_sound wall (by simpa using closed)

/-- A close shuts the part (R193 to R195). -/
theorem State.closeSession_sound (s : State) (x : Session) (force : Bool) :
    State.Sound s (s.closeSession x force).1 := by
  unfold State.closeSession
  split
  · exact ⟨fun law => State.permitLaw_finishClose _ _ ((State.Orderly.refl s).endWork.permitLaw law),
      fun _ => (State.shut_finishClose _ _).workLaw⟩
  · exact ⟨fun law => State.permitLaw_finishClose _ _ law, fun _ => (State.shut_finishClose _ _).workLaw⟩

theorem execCloseSession_sound (st : Stn) (tag : Nat) (force : Bool) (s t : State)
    (h : execCloseSession st tag force s = .next t) : State.Sound s t := by
  refine s.leadRequest_sound t st tag _ _ (fun u => ?_) h
  refine State.withSession_keeps (State.Sound u) u _ (fun x _ _ => ?_) (State.Sound.refl u)
  split
  · exact State.Sound.refl u
  · exact u.closeSession_sound x force

/-- A lock changes every permit and no work (R11, R48). -/
theorem State.lock_sound (s : State) :
    State.Sound s (s.modPlan fun p => { p with locked := true }).refreshPermits := by
  refine ⟨fun _ => State.permitLaw_refreshPermits _, fun law => ?_⟩
  have next : ((s.modPlan fun p => { p with locked := true }).refreshPermits).nextTraverse = s.nextTraverse := by
    unfold State.nextTraverse
    rw [State.session_refreshPermits]
    cases hx : s.session <;> simp [State.modPlan, hx]
  obtain ⟨once, below, own, bare⟩ := law
  refine ⟨by simpa [State.modPlan] using once, ?_, fun ch id hid => ?_, fun closed => ?_⟩
  · rw [next]
    simpa [State.modPlan] using below
  · rw [State.workIds_refreshPermits] at hid
    rw [next]
    simpa [State.modPlan] using own ch id hid
  · have none : s.session = none := by simpa [State.modPlan] using closed
    obtain ⟨pool, slots, pages, log, brackets, comparisons, states⟩ := bare none
    refine ⟨by simpa [State.modPlan] using pool, by simpa [State.modPlan] using slots,
      by simpa [State.modPlan] using pages, by simpa [State.modPlan] using log,
      by simpa [State.modPlan] using brackets, by simpa [State.modPlan] using comparisons, fun ch => ?_⟩
    rw [(State.refreshPermits_permit _ ch).2]
    exact states ch

theorem execLockPlan_sound (st : Stn) (tag : Nat) (s t : State) (h : execLockPlan st tag s = .next t) :
    State.Sound s t := by
  refine s.leadRequest_sound t st tag _ _ (fun u => ?_) h
  (repeat' split)
  · exact State.Sound.refl u
  · exact State.Sound.refl u
  · exact u.lock_sound

/-- After power-on reset the part is shut and every link is down (R44, R89). -/
theorem execPowerOnReset_sound (s t : State) (h : execPowerOnReset s = .next t) : State.Sound s t := by
  cases h
  have shut : (State.reset).shut := by
    refine ⟨rfl, rfl, poolPages_run _, rfl, rfl, rfl, rfl, rfl, fun ch => Four.get_all _ _, fun ch => ?_⟩
    rw [State.chan, show State.reset.channels = Four.all Channel.reset from rfl, Four.get_all]
    exact ⟨.inl rfl, rfl, rfl⟩
  refine ⟨fun _ ch => ?_, fun _ => State.shut.workLaw ?_⟩
  · have offline : State.reset.channels.get ch = Channel.reset := Four.get_all _ _
    change (State.reset.channels.get ch).permit = State.permitNow _ ch
    unfold State.permitNow State.chan
    dsimp only
    rw [offline]
    rfl
  · exact shut.aside _ rfl rfl rfl rfl shut.channels

/-! Every step. -/

/-- Every command keeps the permit law and the law of the work in hand. -/
theorem exec_sound (c : Instr) (s t : State) (h : exec c s = .next t) : State.Sound s t := by
  cases c with
  | powerOnReset => exact execPowerOnReset_sound s t h
  | pullStart ch => exact execPullStart_sound ch s t h
  | calStart ch std => exact execCalStart_sound ch std s t h
  | openSession st tag wall => exact execOpenSession_sound st tag wall s t h
  | closeSession st tag force => exact execCloseSession_sound st tag force s t h
  | lockPlan st tag => exact execLockPlan_sound st tag s t h
  | resetRelease =>
    simp only [exec, execResetRelease] at h
    split at h <;> cases h
    · exact State.Tame.sound (s.tame_apart _ rfl rfl rfl rfl rfl)
    · exact State.Sound.refl s
  | startupReadEnd upset =>
    simp only [exec, execStartupReadEnd] at h
    split at h <;> cases h
    · exact State.Tame.sound (s.tame_apart _ rfl rfl rfl rfl rfl)
    · exact State.Sound.refl s
  | cfgProtectRise | cfgProtectFall =>
    cases h
    exact State.Tame.sound (s.tame_apart _ rfl rfl rfl rfl rfl)
  | hello ch id => exact (execHello_tame ch id s t h).sound
  | probeIdle ch => exact (s.probeFrame_tame t ch _ State.Tame.refl h).sound
  | claim ch row col => exact (execClaim_tame ch row col s t h).sound
  | releaseClaim ch => exact (execReleaseClaim_tame ch s t h).sound
  | sample ch seq reading => exact (execSample_tame ch seq reading s t h).sound
  | pause ch => exact (execPause_tame ch s t h).sound
  | resume ch => exact (execResume_tame ch s t h).sound
  | pullEnd ch => exact (execPullEnd_tame ch s t h).sound
  | abandon ch reason => exact (execAbandon_tame ch reason s t h).sound
  | probeFailed ch => exact (execProbeFailed_tame ch s t h).sound
  | probeLinkLoss ch => exact (execProbeLinkLoss_tame ch s t h).sound
  | probeIdleSend ch => exact (s.act_tame t _ (fun u => u.tame_sendProbe ch .idle) h).sound
  | claimExpiry ch => exact (execClaimExpiry_tame ch s t h).sound
  | pauseExpiry ch => exact (execPauseExpiry_tame ch s t h).sound
  | pageWriteEnd => exact (execPageWriteEnd_tame s t h).sound
  | fetchEnd upset => exact (execFetchEnd_tame upset s t h).sound
  | calibrationVerdict ch => exact (execCalibrationVerdict_tame ch s t h).sound
  | bracketAgeLimit ch => exact (execBracketAgeLimit_tame ch s t h).sound
  | closedFailPresentation bracket => exact (execClosedFailPresentation_tame bracket s t h).sound
  | closedGoodHandover bracket => exact (execClosedGoodHandover_tame bracket s t h).sound
  | comparisonEnd row col => exact (execComparisonEnd_tame row col s t h).sound
  | probeFrameDiscarded ch frame | stationFrameDiscarded st frame =>
    exact (s.act_tame t _ State.Tame.refl h).sound
  | stationRequestFrame st tag req =>
    exact (s.act_tame t _ (fun u => (u.tame_modStn st _).trans (State.tame_modStn _ st _)) h).sound
  | stationIdle st => exact (s.act_tame t _ (fun u => u.tame_modStn st _) h).sound
  | abortStream st => exact (execAbortStream_tame st s t h).sound
  | stationLinkLoss st => exact (execStationLinkLoss_tame st s t h).sound
  | stationIdleSend st => exact (execStationIdleSend_tame st s t h).sound
  | frameSendEnd st => exact (execFrameSendEnd_tame st s t h).sound
  | pageSendEnd st => exact (execPageSendEnd_tame st s t h).sound
  | saveCommandEnd shown upset =>
    exact (s.act_tame t (·.saveCommandEnd shown upset) (fun u =>
      u.tame_apart _ (by simp) (by simp) (by simp) (by simp) (by simp)) h).sound
  | eraseTimeout =>
    exact (s.act_tame t State.eraseTimedOut (fun u =>
      u.tame_apart _ (by simp) (by simp) (by simp) (by simp) (by simp)) h).sound
  | programTimeout =>
    exact (s.act_tame t State.programTimedOut (fun u =>
      u.tame_apart _ (by simp) (by simp) (by simp) (by simp) (by simp)) h).sound
  | sessionSecondTick =>
    exact (s.act_tame t _ (fun u => ⟨(State.Orderly.refl u).modSession, fun hu => hu.modSession⟩) h).sound
  | saveConfig st tag => exact (execSaveConfig_tame st tag s t h).sound
  | defineGeometry st tag cls count length =>
    exact (s.editRequest_tame t st tag _ _ _ (fun u x =>
      u.edit_orderly _ (by simp [charter, State.modPlan, Function.comp_def]) rfl rfl rfl) h).sound
  | setLimits st tag v => exact (s.editRequest_tame t st tag _ _ _ (fun u x =>
      u.edit_orderly _ (by simp [charter, State.modPlan, Function.comp_def]) rfl rfl rfl) h).sound
  | setSecondOpinion st tag mode =>
    exact (s.editRequest_tame t st tag _ _ _ (fun u x =>
      u.edit_orderly _ (by simp [charter, State.modPlan, Function.comp_def]) rfl rfl rfl) h).sound
  | defineTubes st tag row col1 col2 cls cond =>
    exact (execDefineTubes_tame st tag row col1 col2 cls cond s t h).sound
  | removeTubes st tag row col1 col2 =>
    exact (s.editRequest_tame t st tag _ _ _ (fun u x => (State.Orderly.refl u).modSession) h).sound
  | setWindow st tag ch w => exact (execSetWindow_tame st tag ch w s t h).sound
  | setExclusions st tag complement rects => exact (execSetExclusions_tame st tag complement rects s t h).sound
  | defineStandard st tag id depths freq threshold =>
    exact (execDefineStandard_tame st tag id depths freq threshold s t h).sound
  | requestRetest st tag row col reset => exact (execRequestRetest_tame st tag row col reset s t h).sound
  | confirmPlug st tag row col => exact (execConfirmPlug_tame st tag row col s t h).sound
  | submitFinal st tag row col traverse call =>
    exact (execSubmitFinal_tame st tag row col traverse call s t h).sound
  | markArchived st tag traverse => exact (execMarkArchived_tame st tag traverse s t h).sound
  | declareProbeFailed st tag ch => exact (execDeclareProbeFailed_tame st tag ch s t h).sound
  | submitCall st tag row col traverse call =>
    exact (execSubmitCall_tame st tag row col traverse call s t h).sound
  | readPages st tag traverse first count => exact (execReadPages_tame st tag traverse first count s t h).sound
  | unreadableRequest st tag name => exact (s.request_tame t st tag (.unreadable name) (fun s => (s, .refuse .badArgument)) State.Tame.refl h).sound
  | readStatus st tag | getEvents st tag count | readTube st tag row col | scanTubes st tag row col states count
  | readTraverse st tag traverse | readChannel st tag ch | readCalLog st tag first | readBracket st tag number
  | readConfig st tag =>
    simp only [exec, execReadStatus, execGetEvents, execReadTube, execScanTubes, execReadTraverse, execReadChannel, execReadCalLog,
      execReadBracket, execReadConfig, State.withSession, State.withTube] at h
    refine State.Tame.sound (s.request_tame t st tag _ _ (fun u => ?_) h)
    (repeat' split) <;> exact u.tame_apart _ rfl rfl rfl rfl rfl

/-- A tick leaves what a channel has in hand, its state and its permit. -/
theorem Channel.tick_keeps (c : Channel) :
    c.tick.granted = c.granted ∧ c.tick.traverse = c.traverse ∧ c.tick.reports = c.reports := by
  unfold Channel.tick
  split <;> exact ⟨rfl, rfl, rfl⟩

/-- The state with a millisecond counted on every clock and timer, before a save goes on (R191). -/
def State.counted (s : State) : State :=
  { s with
    session := s.session.map fun x => { x with subMs := x.subMs + 1 }
    channels := ⟨s.channels.c0.tick, s.channels.c1.tick, s.channels.c2.tick, s.channels.c3.tick⟩
    stations := ⟨s.stations.s0.tick, s.stations.s1.tick, s.stations.s2.tick⟩
    config := { s.config with save := s.config.save.tick } }

/-- A millisecond is counted, and a save of which nothing is issued yet goes on (log entry 11). -/
theorem State.tick_eq (s : State) :
    s.tick = match s.config.save with
      | .running x .start _ => s.counted.issueEnable x .erase
      | _ => s.counted := by
  unfold State.tick State.counted
  cases s.config.save with
  | idle => rfl
  | running x step ms => cases step <;> rfl

theorem State.chan_counted (s : State) (k : Chan) : s.counted.chan k = (s.chan k).tick :=
  match k with
  | 0 | 1 | 2 | 3 => rfl

theorem State.stn_counted (s : State) (k : Stn) : s.counted.stn k = (s.stn k).tick :=
  match k with
  | 0 | 1 | 2 => rfl

theorem State.tame_counted (s : State) : State.Tame s s.counted := by
  refine ⟨⟨by simp [State.counted, charter, Function.comp_def], List.Sublist.refl _, fun k => ?_,
    fun k _ => .inl ?_⟩, fun h => ?_⟩
  · obtain ⟨_, traverse, reports⟩ := (s.chan k).tick_keeps
    unfold State.workIds
    rw [State.chan_counted, traverse, reports]
    exact List.Subset.refl _
  · rw [State.chan_counted, (s.chan k).tick_keeps.1]
  · refine h.aside s.counted (by simp [State.counted, h.session]) rfl rfl rfl fun k => ?_
    obtain ⟨granted, traverse, reports⟩ := (s.chan k).tick_keeps
    have state : (s.chan k).tick.state = (s.chan k).state := congrArg Prod.fst granted
    rw [State.chan_counted, Channel.resting, state, traverse, reports]
    exact h.channels k

theorem State.tame_tick (s : State) : State.Tame s s.tick := by
  rw [State.tick_eq]
  split
  · exact s.tame_counted.trans (s.counted.tame_apart _ (by simp) (by simp) (by simp) (by simp) (by simp))
  · exact s.tame_counted

theorem State.idle_sound (s : State) : State.Sound s s.idle := by
  unfold State.idle
  (repeat' split)
  · exact State.Sound.refl s
  · exact s.tame_tick.sound
  · exact State.Tame.sound (s.tame_apart _ rfl rfl rfl rfl rfl)

/-- Under the work law what a channel has in hand was pulled on it. -/
theorem State.workLaw.ownsWork {s : State} (law : s.workLaw) (ch : Chan) : s.ownsWork ch = true := by
  obtain ⟨_, _, own, _⟩ := law
  refine List.all_eq_true.2 fun id hid => ?_
  cases live : s.trav? id with
  | none => rfl
  | some t =>
    have named := State.trav_id s id t live
    have mine := (own ch id (List.mem_append_left _ hid)).2 t (List.mem_of_find?_eq_some live) named
    simp [mine]

/-- Settles O11: the front command by `exec_sound`, the part's own time by `State.idle_sound`. -/
theorem permitLawIsKept : Obligations.PermitLawIsKept := by
  have sound : ∀ s t : State, step s = .next t → State.Sound s t := by
    intro s t h
    unfold step at h
    split at h
    · cases h
      exact s.idle_sound
    · next c rest _ =>
      have queued : State.Sound s { s with pending := rest } := State.Tame.sound (s.tame_apart _ rfl rfl rfl rfl rfl)
      exact queued.trans (exec_sound c _ t h)
  refine ⟨fun s t law h => (sound s t h).permit law, fun s t law h => ?_⟩
  have kept := (sound s t h).work law
  exact ⟨kept, kept.ownsWork⟩

end Sys2Proof.Machine
end

section
namespace Sys2Proof.Machine

/-! Frames of a probe unit that change nothing (R42, R44, R50 to R55, R62). -/

/-- On an OFFLINE link a frame is discarded (R42). -/
theorem State.probeFrame_offline (s : State) (ch : Chan) (f : State → State)
    (h : (s.chan ch).state = .offline) : s.probeFrame ch f = .next s := by
  unfold State.probeFrame State.act
  split
  · rfl
  · exact congrArg Host.Outcome.next (if_pos h)

/-- A frame whose act leaves the state restarts the silence timer only (R44). -/
theorem State.probeFrame_ignored (s : State) (ch : Chan) (f : State → State) (up : s.probeUp ch)
    (h : f (s.hearProbe ch) = s.hearProbe ch) : s.probeFrame ch f = .next (s.hearProbe ch) := by
  rw [State.probeFrame_up s ch f up, h]

theorem State.state_hearProbe (s : State) (ch : Chan) :
    ((s.hearProbe ch).chan ch).state = (s.chan ch).state := by
  rw [State.chan_hearProbe_self]

theorem State.inHand_hearProbe (s : State) (ch : Chan) : (s.hearProbe ch).inHand? ch = s.inHand? ch := by
  unfold State.inHand?
  rw [State.chan_hearProbe_self]
  rfl

/-- RELEASE_CLAIM, PAUSE, RESUME, PULL_END, ABANDON and SAMPLE in the states that ignore them. -/
theorem exec_ignored (ch : Chan) (s : State) (up : s.probeUp ch) :
    ((s.chan ch).state ≠ .claimed → exec (.releaseClaim ch) s = .next (s.hearProbe ch))
      ∧ ((s.chan ch).state ≠ .recording → exec (.pause ch) s = .next (s.hearProbe ch))
      ∧ ((s.chan ch).state ≠ .paused → exec (.resume ch) s = .next (s.hearProbe ch))
      ∧ ((s.chan ch).state ≠ .recording → (s.chan ch).state ≠ .paused → (s.chan ch).state ≠ .calibrating →
          exec (.pullEnd ch) s = .next (s.hearProbe ch)
          ∧ ((s.chan ch).state ≠ .claimed → ∀ reason,
              exec (.abandon ch reason) s = .next (s.hearProbe ch)))
      ∧ ((s.chan ch).state ≠ .recording → (s.chan ch).state ≠ .calibrating →
          ∀ seq r, exec (.sample ch seq r) s = .next (s.hearProbe ch)) := by
  have state := s.state_hearProbe ch
  simp only [exec, execReleaseClaim, execPause, execResume, execPullEnd, execAbandon, execSample]
  refine ⟨fun h => s.probeFrame_ignored ch _ up ?_, fun h => s.probeFrame_ignored ch _ up ?_,
    fun h => s.probeFrame_ignored ch _ up ?_, fun h h1 h2 => ⟨s.probeFrame_ignored ch _ up ?_, fun h3 reason =>
      s.probeFrame_ignored ch _ up ?_⟩, fun h h1 seq r => s.probeFrame_ignored ch _ up ?_⟩
  · cases hc : (s.chan ch).state <;> simp_all
  · cases hc : (s.chan ch).state <;> simp_all
  · cases hc : (s.chan ch).state <;> simp_all
  · cases hc : (s.chan ch).state <;> simp_all
  · cases hc : (s.chan ch).state <;> simp_all [State.takeAbandon]
  · cases hc : (s.chan ch).state <;> simp_all [State.sampling]

/-- PAUSE, PULL_END in RECORDING and SAMPLE, with the traverse in hand not RECORDING (R52, R54, R62). -/
theorem exec_ignored_by_traverse (ch : Chan) (s : State) (tr : Traverse) (up : s.probeUp ch)
    (has : s.inHand? ch = some tr) (ended : tr.state ≠ .recording) :
    ((s.chan ch).state = .recording → exec (.pullEnd ch) s = .next (s.hearProbe ch)
        ∧ exec (.pause ch) s = .next (s.hearProbe ch))
      ∧ ∀ seq r, exec (.sample ch seq r) s = .next (s.hearProbe ch) := by
  have state := s.state_hearProbe ch
  have holds : (s.hearProbe ch).inHand? ch = some tr := (s.inHand_hearProbe ch).trans has
  simp only [exec, execPullEnd, execPause, execSample]
  refine ⟨fun recording => ⟨s.probeFrame_ignored ch _ up ?_, s.probeFrame_ignored ch _ up ?_⟩, fun seq r => s.probeFrame_ignored ch _ up ?_⟩
  · simp [recording, holds, ended]
  · simp [recording, holds, ended]
  · have idle : (s.hearProbe ch).sampling ch = none := by
      unfold State.sampling
      rw [holds]
      simp only [ended, if_false]
      split <;> rfl
    simp [idle]

/-- Every frame but HELLO on an OFFLINE link (R42). -/
theorem exec_offline (ch : Chan) (s : State) (off : (s.chan ch).state = .offline) :
    (∀ c ∈ ([.probeIdle ch, .releaseClaim ch, .pullStart ch, .pause ch, .resume ch, .pullEnd ch,
        .abandon ch .restriction, .abandon ch .operator, .probeFailed ch] : List Instr), exec c s = .next s)
      ∧ (∀ row col, exec (.claim ch row col) s = .next s) ∧ (∀ seq r, exec (.sample ch seq r) s = .next s)
      ∧ ∀ std, exec (.calStart ch std) s = .next s := by
  have discarded := fun f => s.probeFrame_offline ch f off
  simp only [List.forall_mem_cons, List.not_mem_nil, false_implies, implies_true, exec, execProbeIdle,
    execReleaseClaim, execPullStart, execPause, execResume, execPullEnd, execAbandon, execProbeFailed, execClaim,
    execSample, execCalStart, discarded, and_self]

/-- Settles O27: on an OFFLINE link by `State.probeFrame_offline`, on an up link by `exec_ignored` and
`exec_ignored_by_traverse`. -/
theorem framesOutOfPlaceChangeNothing : Obligations.FramesOutOfPlaceChangeNothing := by
  refine ⟨fun ch s => ⟨fun up => s.probeFrame_up ch id up, fun frame => ?_, fun off => (exec_offline ch s off).1,
    fun off => (exec_offline ch s off).2⟩, fun ch s up => ?_⟩
  · simp [exec, execProbeFrameDiscarded, State.act]
  · obtain ⟨release, pause, resume, ends, sample⟩ := exec_ignored ch s up
    refine ⟨release, pause, resume, fun h => ?_, fun h => ?_, sample, fun tr has => ⟨fun recording ended => ?_,
      fun ended => ?_⟩⟩
    · rcases h with h | h | h | h | h
      all_goals exact (ends (by simp [h]) (by simp [h]) (by simp [h])).1
    · rcases h with h | h | h | h
      all_goals exact (ends (by simp [h]) (by simp [h]) (by simp [h])).2 (by simp [h])
    · exact ((exec_ignored_by_traverse ch s tr up has ended).1 recording).1
    · exact (exec_ignored_by_traverse ch s tr up has ended).2

end Sys2Proof.Machine
end

section
namespace Sys2Proof.Machine

/-! PAUSE and RESUME (R52). -/

/-- A channel moved to a state with the permit that it has raises CHANNEL_CHANGE and sends nothing (R47, R48). -/
theorem State.moveChan_of_permit (s : State) (ch : Chan) (new : ChanState) (h : (s.chan ch).state ≠ new)
    (permit : (s.modChan ch fun c => { c with state := new }).permitNow ch = (s.chan ch).permit) :
    s.moveChan ch new =
      (s.modChan ch fun c => { c with state := new }).raise (.channelChange ch new (s.chan ch).permit) := by
  unfold State.moveChan
  rw [State.setChan_of_ne s ch new h, permit]
  unfold State.refreshPermit
  refine if_pos ?_
  rw [State.chan_raise, State.chan_modChan_self]
  exact permit

/-- The permit of a channel in its pull is BUSY, recording or paused (R48). -/
theorem permitOf_pulling (session : Option Session) : permitOf session .recording = permitOf session .paused := by
  cases session <;> rfl

@[simp] theorem State.chan_modTrav (s : State) (id : Nat) (f : Traverse → Traverse) (k : Chan) :
    (s.modTrav id f).chan k = s.chan k := rfl

/-- A heard frame is an act on its channel (R44). -/
theorem State.hearProbe_modChan (s : State) (ch : Chan) :
    s.hearProbe ch = s.modChan ch fun c => { c with silenceMs := 0 } := rfl

/-- Two acts on a channel are one. -/
theorem State.modChan_modChan (s : State) (ch : Chan) (f g : Channel → Channel) :
    (s.modChan ch f).modChan ch g = s.modChan ch fun c => g (f c) := by
  simp [State.modChan]

/-- An act on a traverse and one on a channel may change places. -/
theorem State.modTrav_modChan (s : State) (ch : Chan) (id : Nat) (f : Channel → Channel) (g : Traverse → Traverse) :
    (s.modChan ch f).modTrav id g = (s.modTrav id g).modChan ch f := rfl

theorem execPause_taken (ch : Chan) (s : State) (tr : Traverse) (up : s.probeUp ch) (has : s.inHand? ch = some tr)
    (recording : (s.chan ch).state = .recording) (live : tr.state = .recording) :
    exec (.pause ch) s = .next ((((s.hearProbe ch).modTrav tr.id fun t => { t with state := .paused }).modChan ch
      fun c => { c with pauseDue := some ((s.hearProbe ch).time + 300) }).moveChan ch .paused) := by
  have holds : (s.hearProbe ch).inHand? ch = some tr := (s.inHand_hearProbe ch).trans has
  simp only [exec, execPause, s.probeFrame_up ch _ up, State.state_hearProbe, recording, holds, live, if_true]
  rfl

theorem execResume_taken (ch : Chan) (s : State) (tr : Traverse) (up : s.probeUp ch) (has : s.inHand? ch = some tr)
    (paused : (s.chan ch).state = .paused) :
    exec (.resume ch) s = .next ((((s.hearProbe ch).modTrav tr.id fun t => { t with state := .recording }).modChan ch
      fun c => { c with pauseDue := none, expect := none }).moveChan ch .recording) := by
  have holds : (s.hearProbe ch).inHand? ch = some tr := (s.inHand_hearProbe ch).trans has
  simp only [exec, execResume, s.probeFrame_up ch _ up, State.state_hearProbe, paused, holds]

/-- A channel moved between RECORDING and PAUSED keeps its permit (R48). -/
theorem State.permitNow_pulling (s t : State) (ch : Chan) (session : t.session = s.session)
    (before : (s.chan ch).state = .recording ∨ (s.chan ch).state = .paused)
    (after : (t.chan ch).state = .recording ∨ (t.chan ch).state = .paused) :
    t.permitNow ch = s.permitNow ch := by
  have given : ∀ u : State, (u.chan ch).state = .recording ∨ (u.chan ch).state = .paused →
      u.permitNow ch = some (permitOf u.session .paused) := by
    intro u h
    rcases h with h | h
    · rw [u.permitNow_up ch _ h nofun, permitOf_pulling]
    · rw [u.permitNow_up ch _ h nofun]
  rw [given t after, given s before, session]

/-- Settles O35: `State.moveChan_of_permit`, the permit being the same in RECORDING and in PAUSED. -/
theorem pauseAndResume : Obligations.PauseAndResume := by
  intro ch s x tr up hx has c
  have time : (s.hearProbe ch).time = x.seconds := by simp [State.time, State.time?, hx]
  refine ⟨fun recording live permit => ?_, fun recording ended => ?_, fun paused permit => ?_⟩
  · rw [execPause_taken ch s tr up has recording live, time, State.moveChan_of_permit]
    · simp only [State.hearProbe_modChan, State.modTrav_modChan, State.modChan_modChan, State.chan_modChan_self]
      rfl
    · simp [show (s.chan ch).state = .recording from recording]
    · rw [State.permitNow_pulling s _ ch (by simp) (.inl recording) (by simp), ← permit]
      simp [c]
  · exact ((exec_ignored_by_traverse ch s tr up has ended).1 recording).2
  · rw [execResume_taken ch s tr up has paused, State.moveChan_of_permit]
    · simp only [State.hearProbe_modChan, State.modTrav_modChan, State.modChan_modChan, State.chan_modChan_self]
      rfl
    · simp [show (s.chan ch).state = .paused from paused]
    · rw [State.permitNow_pulling s _ ch (by simp) (.inr paused) (by simp), ← permit]
      simp [c]

end Sys2Proof.Machine
end

section
namespace Sys2Proof.Machine

/-! What is due (R28, R43, R44, R53, R135, R166, R169, R189, R191). -/

/-- The station and the request that a request command carries. -/
def carriedRequest : Instr → Option (Stn × QueuedRequest)
  | .openSession st tag wall => some (st, ⟨tag, .openSession wall⟩)
  | .closeSession st tag force => some (st, ⟨tag, .closeSession force⟩)
  | .saveConfig st tag => some (st, ⟨tag, .saveConfig⟩)
  | .defineGeometry st tag cls count length => some (st, ⟨tag, .defineGeometry cls count length⟩)
  | .defineTubes st tag row col1 col2 cls cond => some (st, ⟨tag, .defineTubes row col1 col2 cls cond⟩)
  | .removeTubes st tag row col1 col2 => some (st, ⟨tag, .removeTubes row col1 col2⟩)
  | .setLimits st tag v => some (st, ⟨tag, .setLimits v⟩)
  | .setSecondOpinion st tag mode => some (st, ⟨tag, .setSecondOpinion mode⟩)
  | .lockPlan st tag => some (st, ⟨tag, .lockPlan⟩)
  | .setWindow st tag ch w => some (st, ⟨tag, .setWindow ch w⟩)
  | .setExclusions st tag complement rects => some (st, ⟨tag, .setExclusions complement rects⟩)
  | .defineStandard st tag id depths freq threshold => some (st, ⟨tag, .defineStandard id depths freq threshold⟩)
  | .requestRetest st tag row col reset => some (st, ⟨tag, .requestRetest row col reset⟩)
  | .confirmPlug st tag row col => some (st, ⟨tag, .confirmPlug row col⟩)
  | .submitFinal st tag row col traverse call => some (st, ⟨tag, .submitFinal row col traverse call⟩)
  | .markArchived st tag traverse => some (st, ⟨tag, .markArchived traverse⟩)
  | .declareProbeFailed st tag ch => some (st, ⟨tag, .declareProbeFailed ch⟩)
  | .submitCall st tag row col traverse call => some (st, ⟨tag, .submitCall row col traverse call⟩)
  | .readStatus st tag => some (st, ⟨tag, .readStatus⟩)
  | .getEvents st tag count => some (st, ⟨tag, .getEvents count⟩)
  | .readPages st tag traverse first count => some (st, ⟨tag, .readPages traverse first count⟩)
  | .readTube st tag row col => some (st, ⟨tag, .readTube row col⟩)
  | .scanTubes st tag row col states count => some (st, ⟨tag, .scanTubes row col states count⟩)
  | .readTraverse st tag traverse => some (st, ⟨tag, .readTraverse traverse⟩)
  | .readChannel st tag ch => some (st, ⟨tag, .readChannel ch⟩)
  | .readCalLog st tag first => some (st, ⟨tag, .readCalLog first⟩)
  | .readBracket st tag number => some (st, ⟨tag, .readBracket number⟩)
  | .readConfig st tag => some (st, ⟨tag, .readConfig⟩)
  | .unreadableRequest st tag name => some (st, ⟨tag, .unreadable name⟩)
  | _ => none

/-- The command of a request carries its station and the request. -/
theorem carried_requestInstr (st : Stn) (r : QueuedRequest) : carriedRequest (requestInstr st r) = some (st, r) := by
  obtain ⟨tag, req⟩ := r
  cases req <;> rfl

/-- The request that waits on a station, as its command (R169). -/
theorem State.mem_dueRequest (s : State) (st : Stn) (c : Instr) :
    c ∈ s.dueRequest st ↔ ∃ r, c = requestInstr st r ∧ s.config.phase = .ready ∧ (s.stn st).inHand = false
      ∧ (s.stn st).queue.head? = some r := by
  unfold State.dueRequest
  cases hq : (s.stn st).queue with
  | nil => simp
  | cons q rest =>
    have begins := s.begins_iff st q
    simp only [State.mayBegin, hq, List.head?_cons] at begins
    by_cases hb : s.begins st q = true
    · have ready := begins.1 hb
      simp only [hb, if_true, List.mem_singleton, List.head?_cons, Option.some.injEq]
      exact ⟨fun e => ⟨q, e, ready.1, ready.2.1, rfl⟩, fun ⟨r, e, _, _, same⟩ => same ▸ e⟩
    · simp only [hb, Bool.false_eq_true, if_false, List.not_mem_nil, List.head?_cons, Option.some.injEq, false_iff]
      rintro ⟨r, _, phase, idle, rfl⟩
      exact hb (begins.2 ⟨phase, idle, trivial⟩)

/-- The second of the session clock (R191). -/
theorem State.mem_dueSecond (s : State) (c : Instr) :
    c ∈ s.dueSecond ↔ c = .sessionSecondTick ∧ ∃ x, s.session = some x ∧ 1000 ≤ x.subMs := by
  unfold State.dueSecond
  cases s.session with
  | none => simp
  | some x =>
    by_cases full : 1000 ≤ x.subMs
    · simp [full]
    · simp [full]

/-- A session time has come with a session open (R191). -/
theorem State.reached_iff (s : State) (due : Option Nat) :
    s.reached due = true ↔ ∃ x d, s.session = some x ∧ due = some d ∧ d ≤ x.seconds := by
  unfold State.reached State.time?
  cases s.session <;> cases due <;> simp

/-- The age limit of a bracket has come (R134, R135). -/
theorem State.reached_ageDue_iff (s : State) (ch : Chan) :
    s.reached (s.ageDue ch) = true ↔ ∃ x b, s.session = some x ∧ s.openBracket ch = some b ∧ b.calDue = none
      ∧ b.openedAt + x.plan.limits.interval * 3600 ≤ x.seconds := by
  rw [State.reached_iff]
  unfold State.ageDue
  cases hx : s.session with
  | none => simp
  | some x =>
    cases s.openBracket ch with
    | none => simp
    | some b => cases hb : b.calDue <;> simp [hb, Bracket.ageDue, State.limits, hx]

theorem mem_singleton_if (p : Prop) [Decidable p] (c i : Instr) :
    c ∈ (if p then [i] else []) ↔ c = i ∧ p := by
  by_cases h : p <;> simp [h]

/-- The timers of a probe channel (R28, R43, R44, R53, R135). -/
theorem State.mem_dueChannel (s : State) (ch : Chan) (c : Instr) :
    c ∈ s.dueChannel ch ↔
      c = .probeLinkLoss ch ∧ (s.chan ch).state ≠ .offline ∧ 500 ≤ (s.chan ch).silenceMs
      ∨ c = .probeIdleSend ch ∧ (s.chan ch).state ≠ .offline ∧ 100 ≤ (s.chan ch).quietMs
      ∨ c = .claimExpiry ch ∧ s.reached (s.chan ch).claimDue = true
      ∨ c = .pauseExpiry ch ∧ s.reached (s.chan ch).pauseDue = true
      ∨ c = .bracketAgeLimit ch ∧ s.reached (s.ageDue ch) = true := by
  unfold State.dueChannel
  extract_lets x up
  simp only [List.mem_append, mem_singleton_if, or_assoc, Bool.and_eq_true, decide_eq_true_eq, up, bne_iff_ne]
  rfl

/-- The timers of a station link (R166). -/
theorem State.mem_dueStation (s : State) (st : Stn) (c : Instr) :
    c ∈ s.dueStation st ↔
      c = .stationLinkLoss st ∧ (s.stn st).link = .up ∧ 2000 ≤ (s.stn st).silenceMs
      ∨ c = .stationIdleSend st ∧ (s.stn st).link = .up ∧ (s.stn st).line = none
          ∧ 500 ≤ (s.stn st).quietMs := by
  unfold State.dueStation
  extract_lets x up
  simp only [List.mem_append, mem_singleton_if, Bool.and_eq_true, decide_eq_true_eq, up, beq_iff_eq, Option.isNone_iff_eq_none,
    and_assoc]
  rfl

/-- The limits of a busy flash (R189). -/
theorem State.mem_dueFlash (s : State) (c : Instr) :
    c ∈ s.dueFlash ↔
      c = .eraseTimeout ∧ (∃ x ms, s.config.save = .running x .eraseWait ms ∧ 5000 ≤ ms)
      ∨ c = .programTimeout ∧ ∃ x k ms, s.config.save = .running x (.programWait k) ms ∧ 5000 ≤ ms := by
  unfold State.dueFlash
  cases hs : s.config.save with
  | idle => simp
  | running x step ms =>
    by_cases full : 5000 ≤ ms <;> cases step <;> simp [Config.flashBusyMs, full]

/-- Everything that is due. -/
theorem State.mem_due (s : State) (c : Instr) :
    c ∈ s.due ↔ (∃ st, c ∈ s.dueRequest st) ∨ c ∈ s.dueSecond ∨ (∃ ch, c ∈ s.dueChannel ch)
      ∨ (∃ st, c ∈ s.dueStation st) ∨ c ∈ s.dueFlash := by
  simp only [State.due, List.mem_append, Fin.exists_fin_succ, Fin.exists_fin_zero, or_false]
  tauto

/-- A timer is no request. -/
theorem not_mem_dueRequest (s : State) (st : Stn) (c : Instr) (h : carriedRequest c = none) :
    c ∉ s.dueRequest st := by
  intro due
  obtain ⟨r, rfl, _⟩ := (s.mem_dueRequest st c).1 due
  rw [carried_requestInstr] at h
  exact nomatch h

/-- A timer is due by its own block: what is due of each timer. -/
theorem State.mem_due_timer (s : State) (c : Instr) (h : carriedRequest c = none) :
    c ∈ s.due ↔ c ∈ s.dueSecond ∨ (∃ ch, c ∈ s.dueChannel ch) ∨ (∃ st, c ∈ s.dueStation st) ∨ c ∈ s.dueFlash := by
  rw [State.mem_due, or_iff_right]
  rintro ⟨st, due⟩
  exact not_mem_dueRequest s st c h due

/-- What is due and is no request is one of ten timers. -/
theorem State.timer_of_due (s : State) (c : Instr)
    (h : c ∈ s.dueSecond ∨ (∃ ch, c ∈ s.dueChannel ch) ∨ (∃ st, c ∈ s.dueStation st) ∨ c ∈ s.dueFlash) :
    carriedRequest c = none
      ∧ ((∃ ch, c = .probeLinkLoss ch ∨ c = .probeIdleSend ch ∨ c = .claimExpiry ch ∨ c = .pauseExpiry ch
          ∨ c = .bracketAgeLimit ch)
        ∨ (∃ st, c = .stationLinkLoss st ∨ c = .stationIdleSend st)
        ∨ c = .eraseTimeout ∨ c = .programTimeout ∨ c = .sessionSecondTick) := by
  simp only [State.mem_dueSecond, State.mem_dueChannel, State.mem_dueStation, State.mem_dueFlash] at h
  rcases h with ⟨rfl, _⟩ | ⟨ch, ⟨rfl, _⟩ | ⟨rfl, _⟩ | ⟨rfl, _⟩ | ⟨rfl, _⟩ | ⟨rfl, _⟩⟩
    | ⟨st, ⟨rfl, _⟩ | ⟨rfl, _⟩⟩ | ⟨rfl, _⟩ | ⟨rfl, _⟩
  all_goals exact ⟨rfl, by simp⟩

/-- A request is due where its station may begin it (R169). -/
theorem State.requestInstr_due (s : State) (st : Stn) (r : QueuedRequest) :
    requestInstr st r ∈ s.due ↔ s.config.phase = .ready ∧ (s.stn st).inHand = false
      ∧ (s.stn st).queue.head? = some r := by
  rw [State.mem_due]
  constructor
  · rintro (⟨st', due⟩ | timer)
    · obtain ⟨r', same, ready, idle, head⟩ := (s.mem_dueRequest st' _).1 due
      have carried := congrArg carriedRequest same
      rw [carried_requestInstr, carried_requestInstr] at carried
      cases carried
      exact ⟨ready, idle, head⟩
    · have none := (s.timer_of_due _ timer).1
      rw [carried_requestInstr] at none
      exact nomatch none
  · rintro ⟨ready, idle, head⟩
    exact .inl ⟨st, (s.mem_dueRequest st _).2 ⟨r, rfl, ready, idle, head⟩⟩

/-! A millisecond (R189 to R191). -/

/-- What a millisecond leaves, whatever save runs. -/
theorem State.tick_keeps (s : State) :
    s.tick.pending = s.pending ∧ s.tick.session = s.session.map (fun x => { x with subMs := x.subMs + 1 })
      ∧ (∀ ch, s.tick.chan ch = (s.chan ch).tick) ∧ (∀ st, (s.tick.stn st).unheard = (s.stn st).tick.unheard)
      ∧ s.tick.store = s.store ∧ s.tick.cal = s.cal ∧ s.tick.comparisons = s.comparisons
      ∧ s.tick.config.shadow = s.config.shadow ∧ s.tick.config.flash = s.config.flash := by
  have counted : ∀ ch, s.counted.chan ch = (s.chan ch).tick := s.chan_counted
  have heard : ∀ st, s.counted.stn st = (s.stn st).tick := s.stn_counted
  rw [State.tick_eq]
  split
  · rw [State.issueEnable_eq]
    split
    · refine ⟨by simp [State.counted], by simp [State.counted], fun ch => ?_, fun st => ?_, by simp [State.counted],
        by simp [State.counted], by simp [State.counted], rfl, rfl⟩
      · rw [← counted, State.chan, State.channels_endSave, State.chan]
      · rw [← heard]
        exact State.unheard_raise _ _ _
    · exact ⟨rfl, rfl, counted, fun st => by rw [← heard]; rfl, rfl, rfl, rfl, rfl, rfl⟩
  · exact ⟨rfl, rfl, counted, fun st => by rw [heard], rfl, rfl, rfl, rfl, rfl⟩

/-- A millisecond with no save to go on (R189). -/
theorem State.tick_of_counted (s : State) (h : ∀ x ms, s.config.save ≠ .running x .start ms) :
    s.tick = s.counted := by
  rw [State.tick_eq]
  split
  · next x ms save => exact absurd save (h x ms)
  · rfl

/-- A save of which nothing is issued yet issues its write enable, or fails by the pin (R190). -/
theorem State.tick_start (s : State) (x : Shadow) (ms : Nat) (h : s.config.save = .running x .start ms) :
    (s.config.barred = false → s.tick = s.counted.setSave x (.writeEnable .erase))
      ∧ (s.config.barred = true → s.tick = s.counted.endSave (.failed (.cfgProtect .erase))) := by
  have issued : s.tick = s.counted.issueEnable x .erase := by
    rw [State.tick_eq, h]
  have barred : s.counted.config.barred = s.config.barred := rfl
  refine ⟨fun free => ?_, fun held => ?_⟩
  · rw [issued, State.issueEnable, barred, free]
    rfl
  · rw [issued, State.issueEnable, barred, held]
    rfl

/-- Settles O2: a step with nothing waiting is `State.idle`, whose millisecond is `State.tick_eq`, and what is
due is due by its own block (`State.mem_due`). -/
theorem idleStepQueuesOrTicks : Obligations.IdleStepQueuesOrTicks := by
  refine ⟨fun s empty => ?_, fun s => ?_⟩
  · have idle : step s = .next s.idle := by simp [step, empty]
    refine ⟨fun reset => ?_, fun awake due => ?_, fun awake due => ?_⟩
    · rw [idle, State.idle, if_pos reset]
    · rw [idle, State.idle, if_neg awake]
      split
      · exact absurd ‹_› due
      · rw [empty, List.nil_append]
    · obtain ⟨pending, session, channels, stations, store, cal, comparisons, shadow, flash⟩ := s.tick_keeps
      refine ⟨s.tick, by rw [idle, State.idle, if_neg awake, due], pending.trans empty, session, channels,
        fun st => ⟨(congrArg StationLink.silenceMs (stations st) :), (congrArg StationLink.quietMs (stations st) :),
          fun quiet => ?_⟩, fun x ms save => ?_, fun x ms save => ?_, fun x k ms save => ?_, fun other => ?_, store,
        cal, comparisons, shadow, flash⟩
      · rw [← StationLink.tick, ← s.stn_counted]
        by_cases starts : ∃ x ms, s.config.save = .running x .start ms
        · obtain ⟨x, ms, save⟩ := starts
          rcases quiet with never | free
          · exact absurd save (never x ms)
          · rw [(s.tick_start x ms save).1 free]
            rfl
        · rw [s.tick_of_counted fun x ms save => starts ⟨x, ms, save⟩]
      · obtain ⟨free, held⟩ := s.tick_start x ms save
        refine ⟨fun pin rise => ?_, fun barred => ?_⟩
        · rw [free ((s.config.barred_eq_false).2 ⟨pin, rise⟩)]
          rfl
        · rw [held ((s.config.barred_eq_true).2 barred)]
          rfl
      · rw [s.tick_of_counted (by simp [save]), State.counted, save]
        rfl
      · rw [s.tick_of_counted (by simp [save]), State.counted, save]
        rfl
      · rw [s.tick_of_counted fun x ms => (other x ms).1]
        have waits : s.config.save.tick = s.config.save := by
          cases save : s.config.save with
          | idle => rfl
          | running x step ms =>
            obtain ⟨_, erase, program⟩ := other x ms
            cases step
            case eraseWait => exact absurd save erase
            case programWait k => exact absurd save (program k)
            all_goals rfl
        rw [State.counted, waits]
  · have blocks := fun c h => s.mem_due_timer c h
    simp only [State.mem_dueSecond, State.mem_dueChannel, State.mem_dueStation, State.mem_dueFlash] at blocks
    refine ⟨fun ch => ⟨?_, ?_, ?_, ?_, ?_⟩, fun st => ⟨?_, ?_⟩, ?_, ?_, ?_, s.requestInstr_due, fun c due => ?_⟩
    · rw [blocks _ rfl]
      simp
    · rw [blocks _ rfl]
      simp
    · rw [blocks _ rfl]
      simp [State.reached_iff]
    · rw [blocks _ rfl]
      simp [State.reached_iff]
    · rw [blocks _ rfl]
      simp [State.reached_ageDue_iff]
    · rw [blocks _ rfl]
      simp
    · rw [blocks _ rfl]
      simp
    · rw [blocks _ rfl]
      simp
    · rw [blocks _ rfl]
      simp
    · rw [blocks _ rfl]
      simp
    · rcases (s.mem_due c).1 due with ⟨st, request⟩ | timer
      · obtain ⟨r, same, _⟩ := (s.mem_dueRequest st c).1 request
        exact .inl ⟨st, r, same⟩
      · exact .inr (s.timer_of_due c timer).2

end Sys2Proof.Machine
end

section
namespace Sys2Proof.Machine

/-! Screening (R92 to R99): each kind of window is followed on its own. -/

/-- The part of a Screening Unit that follows the indication windows. -/
def ScreenState.indicationPart (u : ScreenState) : Option IndWindow × List Indication × Nat × Nat :=
  (u.window, u.indications, u.excess, u.closed)

/-- The part of a Screening Unit that follows the landmark windows. -/
def ScreenState.landmarkPart (u : ScreenState) : Option LandmarkWindow × LandmarkRun × List LandmarkRecord × Nat × Nat :=
  (u.lmWindow, u.run, u.landmarks, u.ignored, u.opened)

/-- The part of a Screening Unit that no window changes. -/
def ScreenState.boundPart (u : ScreenState) : Nat × ScreenParams := (u.traverse, u.params)

theorem ScreenState.stepIndication_keeps (u : ScreenState) (idx m pos : Nat) (v : XY) (mark : Bool) :
    (u.stepIndication idx m pos v mark).landmarkPart = u.landmarkPart
      ∧ (u.stepIndication idx m pos v mark).boundPart = u.boundPart := by
  unfold ScreenState.stepIndication ScreenState.markedIndication ScreenState.unmarkedIndication
    ScreenState.closeIndication
  dsimp only
  (repeat' split) <;> exact ⟨rfl, rfl⟩

theorem ScreenState.stepLandmark_keeps (u : ScreenState) (idx m pos : Nat) (mark : Bool) :
    (u.stepLandmark idx m pos mark).indicationPart = u.indicationPart
      ∧ (u.stepLandmark idx m pos mark).boundPart = u.boundPart := by
  unfold ScreenState.stepLandmark ScreenState.stepOpenLandmark ScreenState.stepRun ScreenState.closeLandmark
  dsimp only
  (repeat' split) <;> exact ⟨rfl, rfl⟩

/-- The landmark windows do not see the indication windows (R99). -/
theorem ScreenState.stepLandmark_congr (u w : ScreenState) (idx m pos : Nat) (mark : Bool)
    (part : w.landmarkPart = u.landmarkPart) (bound : w.boundPart = u.boundPart) :
    (w.stepLandmark idx m pos mark).landmarkPart = (u.stepLandmark idx m pos mark).landmarkPart := by
  simp only [ScreenState.landmarkPart, ScreenState.boundPart, Prod.mk.injEq] at part bound
  obtain ⟨window, run, landmarks, ignored, opened⟩ := part
  obtain ⟨_, params⟩ := bound
  unfold ScreenState.stepLandmark ScreenState.stepOpenLandmark ScreenState.stepRun ScreenState.closeLandmark
  rw [params, window, run, landmarks, ignored, opened]
  dsimp only
  (repeat' split) <;> simp_all [ScreenState.landmarkPart]

/-- A stored sample is taken into both kinds of window independently (R99). -/
theorem ScreenState.screen_parts (u : ScreenState) (r : Reading) :
    let v := analysisValue u.params.freq r
    let ind := u.stepIndication u.next (magnitude v) r.position v (u.params.detectionMark r)
    let lm := u.stepLandmark u.next (magnitude r.a4) r.position (u.params.landmarkMark r)
    (u.screen r).indicationPart = ind.indicationPart ∧ (u.screen r).landmarkPart = lm.landmarkPart
      ∧ (u.screen r).boundPart = u.boundPart ∧ (u.screen r).next = u.next + 1
      ∧ (u.screen r).firstPos = if u.next = 0 then r.position else u.firstPos := by
  intro v ind lm
  obtain ⟨part, bound⟩ := u.stepIndication_keeps u.next (magnitude v) r.position v (u.params.detectionMark r)
  obtain ⟨kept, stays⟩ := ind.stepLandmark_keeps u.next (magnitude r.a4) r.position (u.params.landmarkMark r)
  exact ⟨kept, ScreenState.stepLandmark_congr u ind _ _ _ _ part bound, stays.trans bound, rfl, rfl⟩

/-- From `u` to `n` the indication window `w` closes: its record is kept as the next, or counted in excess
beyond 64 (R97). -/
def ScreenState.keptAs (u n : ScreenState) (w : IndWindow) (capped : Bool) : Prop :=
  n.window = none ∧ n.closed = u.closed + 1
    ∧ (u.indications.length < 64 → n.excess = u.excess
        ∧ ∃ x, n.indications = u.indications ++ [x] ∧ x.seq = u.indications.length + 1
          ∧ x.first = w.first ∧ x.last = w.last ∧ x.peak = w.peak ∧ x.peakPos = w.peakPos
          ∧ x.capped = capped)
    ∧ (64 ≤ u.indications.length → n.indications = u.indications ∧ n.excess = u.excess + 1)

/-- From `u` to `n` no indication window closes. -/
def ScreenState.keepsIndications (u n : ScreenState) : Prop :=
  n.indications = u.indications ∧ n.excess = u.excess ∧ n.closed = u.closed

theorem ScreenState.indicationPart_iff (u n : ScreenState) :
    n.indicationPart = u.indicationPart ↔ n.window = u.window ∧ u.keepsIndications n := by
  simp [ScreenState.indicationPart, ScreenState.keepsIndications]

theorem ScreenState.closeIndication_kept (u n : ScreenState) (w : IndWindow) (capped : Bool)
    (h : n.indicationPart = (u.closeIndication w capped).indicationPart) : u.keptAs n w capped := by
  obtain ⟨window, list, excess, closed⟩ := (ScreenState.indicationPart_iff _ n).1 h
  unfold ScreenState.closeIndication at window list excess closed
  by_cases room : u.indications.length < 64
  · simp only [Config.maxIndications, room, if_true] at window list excess closed
    exact ⟨window, closed, fun _ => ⟨excess, _, list, rfl, rfl, rfl, rfl, rfl, rfl⟩, fun full => by omega⟩
  · simp only [Config.maxIndications, room, if_false] at window list excess closed
    exact ⟨window, closed, fun few => absurd few room, fun _ => ⟨list, excess⟩⟩

/-- An open indication window takes a marked sample (R95, R96): it is extended, or closes CAPPED. -/
theorem ScreenState.markedIndication_does (u n : ScreenState) (w : IndWindow) (m pos : Nat) (v : XY)
    (h : n.indicationPart = (u.markedIndication w u.next m pos v).indicationPart) :
    let w1 : IndWindow := { w with last := u.next, below := 0, values := w.values ++ [v] }
    let w2 : IndWindow := if w.peakM < m then { w1 with peak := u.next, peakM := m, peakPos := pos } else w1
    (u.next - w.first + 1 < 512 → n.window = some w2 ∧ u.keepsIndications n)
      ∧ (512 ≤ u.next - w.first + 1 → u.keptAs n w2 true) := by
  intro w1 w2
  unfold ScreenState.markedIndication at h
  refine ⟨fun short => ?_, fun long => ?_⟩
  · rw [if_neg (show ¬Config.indicationCap ≤ _ from Nat.not_le.2 short)] at h
    exact (ScreenState.indicationPart_iff _ n).1 h
  · rw [if_pos (show Config.indicationCap ≤ _ from long)] at h
    exact u.closeIndication_kept n w2 true h

/-- An open indication window takes a sample without the mark (R95): the count below rises, or it closes. -/
theorem ScreenState.unmarkedIndication_does (u n : ScreenState) (w : IndWindow) (v : XY)
    (h : n.indicationPart = (u.unmarkedIndication w v).indicationPart) :
    (w.below + 1 < u.params.gap → u.keepsIndications n
        ∧ n.window = some { w with below := w.below + 1, values := w.values ++ [v] })
      ∧ (u.params.gap ≤ w.below + 1 → u.keptAs n w false) := by
  unfold ScreenState.unmarkedIndication at h
  refine ⟨fun open_ => ?_, fun gap => ?_⟩
  · rw [if_neg (Nat.not_le.2 open_)] at h
    exact ((ScreenState.indicationPart_iff _ n).1 h).symm
  · rw [if_pos gap] at h
    have closed := u.closeIndication_kept n _ false h
    exact closed

/-- From `u` to `n` the landmark window `w` closes: it is kept as the next record, or ignored beyond 48
(R99). -/
def ScreenState.keptLandmark (u n : ScreenState) (w : LandmarkWindow) (capped : Bool) : Prop :=
  n.lmWindow = none ∧ n.run.count = 0 ∧ n.opened = u.opened
    ∧ (u.landmarks.length < 48 → n.ignored = u.ignored ∧ n.landmarks = u.landmarks ++
        [⟨u.landmarks.length + 1, w.first, w.last, w.peak, w.peakM, w.peakPos, capped⟩])
    ∧ (48 ≤ u.landmarks.length → n.landmarks = u.landmarks ∧ n.ignored = u.ignored + 1)

/-- From `u` to `n` no landmark window closes. -/
def ScreenState.keepsLandmarks (u n : ScreenState) : Prop :=
  n.landmarks = u.landmarks ∧ n.ignored = u.ignored

theorem ScreenState.landmarkPart_iff (u n : ScreenState) :
    n.landmarkPart = u.landmarkPart ↔
      n.lmWindow = u.lmWindow ∧ n.run = u.run ∧ n.opened = u.opened ∧ u.keepsLandmarks n := by
  simp only [ScreenState.landmarkPart, ScreenState.keepsLandmarks, Prod.mk.injEq]
  tauto

theorem ScreenState.closeLandmark_kept (u n : ScreenState) (w : LandmarkWindow) (capped : Bool)
    (h : n.landmarkPart = (u.closeLandmark w capped).landmarkPart) : u.keptLandmark n w capped := by
  obtain ⟨window, run, opened, list, ignored⟩ := (ScreenState.landmarkPart_iff _ n).1 h
  unfold ScreenState.closeLandmark at window run opened list ignored
  by_cases room : u.landmarks.length < 48
  · simp only [Config.maxLandmarks, room, if_true] at window run opened list ignored
    exact ⟨window, by rw [run], opened, fun _ => ⟨ignored, list⟩, fun full => by omega⟩
  · simp only [Config.maxLandmarks, room, if_false] at window run opened list ignored
    exact ⟨window, by rw [run], opened, fun few => absurd few room, fun _ => ⟨list, ignored⟩⟩

/-- With no landmark window open the pending run takes a sample (R98). -/
theorem ScreenState.stepRun_does (u n : ScreenState) (m pos : Nat) (mark : Bool)
    (h : n.landmarkPart = (u.stepRun u.next m pos mark).landmarkPart) (none : u.lmWindow = none) :
    (mark = false → n.lmWindow = Option.none ∧ n.run.count = 0 ∧ n.opened = u.opened ∧ u.keepsLandmarks n)
      ∧ (mark = true →
          let new := u.run.extend u.next m pos
          (new.count < 4 → n.lmWindow = Option.none ∧ n.run = new ∧ n.opened = u.opened ∧ u.keepsLandmarks n)
          ∧ (4 ≤ new.count → n.run.count = 0 ∧ n.opened = u.opened + 1 ∧ u.keepsLandmarks n
              ∧ n.lmWindow = some ⟨new.first, u.next, new.peak, new.peakM, new.peakPos, 0⟩)) := by
  unfold ScreenState.stepRun at h
  refine ⟨fun unmarked => ?_, fun marked => ⟨fun few => ?_, fun four => ?_⟩⟩
  · rw [if_neg (by simp [unmarked])] at h
    obtain ⟨window, run, opened, same⟩ := (ScreenState.landmarkPart_iff _ n).1 h
    exact ⟨window.trans none, by rw [run], opened, same⟩
  · rw [if_pos marked] at h
    dsimp only at h
    rw [if_neg (Nat.not_le.2 few)] at h
    obtain ⟨window, run, opened, same⟩ := (ScreenState.landmarkPart_iff _ n).1 h
    exact ⟨window.trans none, run, opened, same⟩
  · rw [if_pos marked] at h
    dsimp only at h
    rw [if_pos four] at h
    obtain ⟨window, run, opened, same⟩ := (ScreenState.landmarkPart_iff _ n).1 h
    exact ⟨by rw [run], opened, same, window⟩

/-- An open landmark window takes a sample (R99). -/
theorem ScreenState.stepOpenLandmark_does (u n : ScreenState) (w : LandmarkWindow) (m pos : Nat) (mark : Bool)
    (h : n.landmarkPart = (u.stepOpenLandmark w u.next m pos mark).landmarkPart) :
    let w1 : LandmarkWindow := { w with last := u.next, below := 0 }
    let w2 : LandmarkWindow := if w.peakM < m then { w1 with peak := u.next, peakM := m, peakPos := pos } else w1
    (mark = true → u.next - w.first + 1 < 2048 →
        n.lmWindow = some w2 ∧ n.opened = u.opened ∧ u.keepsLandmarks n)
      ∧ (mark = true → 2048 ≤ u.next - w.first + 1 → u.keptLandmark n w2 true)
      ∧ (mark = false → w.below + 1 < u.params.gap →
          n.lmWindow = some { w with below := w.below + 1 } ∧ n.opened = u.opened ∧ u.keepsLandmarks n)
      ∧ (mark = false → u.params.gap ≤ w.below + 1 → u.keptLandmark n w false) := by
  intro w1 w2
  unfold ScreenState.stepOpenLandmark at h
  refine ⟨fun marked short => ?_, fun marked long => ?_, fun unmarked open_ => ?_, fun unmarked gap => ?_⟩
  · rw [if_pos marked] at h
    dsimp only at h
    rw [if_neg (show ¬Config.landmarkCap ≤ _ from Nat.not_le.2 short)] at h
    obtain ⟨window, _, opened, same⟩ := (ScreenState.landmarkPart_iff _ n).1 h
    exact ⟨window, opened, same⟩
  · rw [if_pos marked] at h
    dsimp only at h
    rw [if_pos (show Config.landmarkCap ≤ _ from long)] at h
    exact u.closeLandmark_kept n w2 true h
  · rw [if_neg (by simp [unmarked])] at h
    dsimp only at h
    rw [if_neg (Nat.not_le.2 open_)] at h
    obtain ⟨window, _, opened, same⟩ := (ScreenState.landmarkPart_iff _ n).1 h
    exact ⟨window, opened, same⟩
  · rw [if_neg (by simp [unmarked])] at h
    dsimp only at h
    rw [if_pos gap] at h
    have closed := u.closeLandmark_kept n _ false h
    exact closed

/-- The sequence check by the forward distance modulo 256 (R63). -/
theorem seqCheck_does (e seq : Nat) (he : e < 256) (hseq : seq < 256) :
    let d := ((seq : Int) - e) % 256
    (d = 0 → seqCheck (some e) seq = .inOrder)
      ∧ (1 ≤ d → d ≤ 128 → seqCheck (some e) seq = .gap d.toNat)
      ∧ (129 ≤ d → seqCheck (some e) seq = .behind) := by
  intro d
  have distance : d.toNat = (seq + 256 - e) % 256 := by
    simp only [d]
    omega
  have bound : 0 ≤ d := by
    simp only [d]
    omega
  unfold seqCheck
  dsimp only
  rw [← distance]
  refine ⟨fun zero => ?_, fun low high => ?_, fun behind => ?_⟩
  · rw [if_pos (by omega)]
  · rw [if_neg (by omega), if_pos (by omega)]
  · rw [if_neg (by omega), if_neg (by omega)]

/-- The indication windows over one stored sample (R92, R94 to R97). -/
theorem ScreenState.screen_indications (u : ScreenState) (r : Reading) :
    let v := analysisValue u.params.freq r
    let m := max v.x.natAbs v.y.natAbs
    let n := u.screen r
    (u.window = none → m < u.params.tRaw → n.window = none ∧ u.keepsIndications n)
      ∧ (u.window = none → u.params.tRaw ≤ m → u.keepsIndications n
          ∧ n.window = some ⟨u.next, u.next, u.next, m, r.position, 0, [v]⟩)
      ∧ (∀ w, u.window = some w → u.params.tRaw ≤ m →
          let w1 : IndWindow := { w with last := u.next, below := 0, values := w.values ++ [v] }
          let w2 : IndWindow :=
            if w.peakM < m then { w1 with peak := u.next, peakM := m, peakPos := r.position } else w1
          (u.next - w.first + 1 < 512 → n.window = some w2 ∧ u.keepsIndications n)
            ∧ (512 ≤ u.next - w.first + 1 → u.keptAs n w2 true))
      ∧ ∀ w, u.window = some w → m < u.params.tRaw →
          (w.below + 1 < u.params.gap → u.keepsIndications n
              ∧ n.window = some { w with below := w.below + 1, values := w.values ++ [v] })
            ∧ (u.params.gap ≤ w.below + 1 → u.keptAs n w false) := by
  intro v m n
  have followed : n.indicationPart =
      (u.stepIndication u.next m r.position v (u.params.detectionMark r)).indicationPart := (u.screen_parts r).1
  have marked : u.params.tRaw ≤ m → u.params.detectionMark r = true := decide_eq_true
  have unmarked : m < u.params.tRaw → u.params.detectionMark r = false :=
    fun below => decide_eq_false (Nat.not_le.2 below)
  refine ⟨fun shut below => ?_, fun shut above => ?_, fun w opened above => ?_, fun w opened below => ?_⟩
  · rw [unmarked below, ScreenState.stepIndication, shut] at followed
    obtain ⟨window, same⟩ := (ScreenState.indicationPart_iff u n).1 followed
    exact ⟨window.trans shut, same⟩
  · rw [marked above, ScreenState.stepIndication, shut] at followed
    obtain ⟨window, same⟩ := (ScreenState.indicationPart_iff _ n).1 followed
    exact ⟨same, window⟩
  · rw [marked above, ScreenState.stepIndication, opened] at followed
    exact u.markedIndication_does n w m r.position v followed
  · rw [unmarked below, ScreenState.stepIndication, opened] at followed
    exact u.unmarkedIndication_does n w v followed

/-- The landmark windows over one stored sample (R92 to R94, R98, R99). -/
theorem ScreenState.screen_landmarks (u : ScreenState) (r : Reading) :
    let mL := max r.a4.x.natAbs r.a4.y.natAbs
    let n := u.screen r
    (u.params.landmark = none →
        n.lmWindow = u.lmWindow ∧ n.run = u.run ∧ n.opened = u.opened ∧ u.keepsLandmarks n)
      ∧ ∀ least, u.params.landmark = some least →
        (u.lmWindow = none → mL < least →
            n.lmWindow = none ∧ n.run.count = 0 ∧ n.opened = u.opened ∧ u.keepsLandmarks n)
        ∧ (u.lmWindow = none → least ≤ mL →
            let new := u.run.extend u.next mL r.position
            (new.count < 4 → n.lmWindow = none ∧ n.run = new ∧ n.opened = u.opened ∧ u.keepsLandmarks n)
            ∧ (4 ≤ new.count → n.run.count = 0 ∧ n.opened = u.opened + 1 ∧ u.keepsLandmarks n
                ∧ n.lmWindow = some ⟨new.first, u.next, new.peak, new.peakM, new.peakPos, 0⟩))
        ∧ ∀ w, u.lmWindow = some w →
            let w1 : LandmarkWindow := { w with last := u.next, below := 0 }
            let w2 : LandmarkWindow :=
              if w.peakM < mL then { w1 with peak := u.next, peakM := mL, peakPos := r.position } else w1
            (least ≤ mL → u.next - w.first + 1 < 2048 →
                n.lmWindow = some w2 ∧ n.opened = u.opened ∧ u.keepsLandmarks n)
            ∧ (least ≤ mL → 2048 ≤ u.next - w.first + 1 → u.keptLandmark n w2 true)
            ∧ (mL < least → w.below + 1 < u.params.gap →
                n.lmWindow = some { w with below := w.below + 1 } ∧ n.opened = u.opened ∧ u.keepsLandmarks n)
            ∧ (mL < least → u.params.gap ≤ w.below + 1 → u.keptLandmark n w false) := by
  intro mL n
  have followed : n.landmarkPart =
      (u.stepLandmark u.next mL r.position (u.params.landmarkMark r)).landmarkPart := (u.screen_parts r).2.1
  unfold ScreenState.stepLandmark at followed
  refine ⟨fun off => ?_, fun least on => ?_⟩
  · rw [off] at followed
    exact (ScreenState.landmarkPart_iff u n).1 followed
  · have mark : u.params.landmarkMark r = decide (least ≤ mL) := by
      rw [ScreenParams.landmarkMark, on]
      rfl
    rw [mark] at followed
    rw [on] at followed
    dsimp only at followed
    have marked : least ≤ mL → decide (least ≤ mL) = true := decide_eq_true
    have unmarked : mL < least → decide (least ≤ mL) = false := fun below => decide_eq_false (Nat.not_le.2 below)
    refine ⟨fun shut below => ?_, fun shut above => ?_, fun w opened => ?_⟩
    · rw [shut] at followed
      exact (u.stepRun_does n mL r.position _ followed shut).1 (unmarked below)
    · rw [shut] at followed
      exact (u.stepRun_does n mL r.position _ followed shut).2 (marked above)
    · rw [opened] at followed
      obtain ⟨extends_, capped, waits, closes⟩ := u.stepOpenLandmark_does n w mL r.position _ followed
      exact ⟨fun above => extends_ (marked above), fun above => capped (marked above),
        fun below => waits (unmarked below), fun below => closes (unmarked below)⟩

end Sys2Proof.Machine
end

section
namespace Sys2Proof.Machine

/-! A sample that passes the sequence check (R62 to R64). -/

/-- Two acts on a traverse that keep its id are one. -/
theorem State.modTrav_modTrav (s : State) (id : Nat) (f g : Traverse → Traverse) (hf : ∀ t, (f t).id = t.id) :
    (s.modTrav id f).modTrav id g = s.modTrav id fun t => g (f t) := by
  simp only [State.modTrav, State.modStore, List.map_map]
  congr 2
  refine List.map_congr_left fun t _ => ?_
  by_cases h : t.id = id
  · simp [h, hf]
  · simp [h]

/-- An act that changes nothing of a channel. -/
theorem State.modChan_of_same (s : State) (ch : Chan) (f : Channel → Channel) (h : f (s.chan ch) = s.chan ch) :
    s.modChan ch f = s := by
  have same : f (s.channels.get ch) = s.channels.get ch := h
  rw [State.modChan, same, Four.set_get]

/-- Two acts that do the same to a channel as it stands. -/
theorem State.modChan_congr (s : State) (ch : Chan) (f g : Channel → Channel) (h : f (s.chan ch) = g (s.chan ch)) :
    s.modChan ch f = s.modChan ch g := by
  have same : f (s.channels.get ch) = g (s.channels.get ch) := h
  rw [State.modChan, same]
  rfl

/-- An entry that has lost samples (R63). -/
def Traverse.lose (t : Traverse) (n : Nat) : Traverse :=
  { t with lost := min Config.maxLost (t.lost + n), flags := { t.flags with lostSamples := true } }

/-- An entry before a sample with so many missed (R63). -/
def Traverse.missing (t : Traverse) (n : Nat) : Traverse := if n = 0 then t else t.lose n

theorem Traverse.missing_eq (t : Traverse) (n : Nat) :
    t.missing n = { t with
      lost := if n = 0 then t.lost else min 16777215 (t.lost + n)
      flags := { t.flags with lostSamples := t.flags.lostSamples || decide (0 < n) } } := by
  unfold Traverse.missing Traverse.lose
  by_cases h : n = 0
  · subst h
    simp
  · have pos : 0 < n := Nat.pos_of_ne_zero h
    simp [h, pos, Config.maxLost]

/-- The missed samples are counted on the channel and its traverse (R63). -/
theorem State.countMissed_eq (s : State) (ch : Chan) (id n : Nat) :
    (if n = 0 then s else s.countLost ch id n) =
      (s.modTrav id (·.missing n)).modChan ch fun c => { c with pendingLost := c.pendingLost || decide (0 < n) } := by
  by_cases h : n = 0
  · subst h
    have same : s.modTrav id (·.missing 0) = s := by simp [State.modTrav, State.modStore, Traverse.missing]
    rw [if_pos rfl, same, State.modChan_of_same]
    simp
  · have pos : decide (0 < n) = true := decide_eq_true (Nat.pos_of_ne_zero h)
    rw [if_neg h, State.countLost]
    simp only [pos, Bool.or_true]
    congr 2
    funext t
    rw [Traverse.missing, if_neg h]
    rfl

/-- What a channel expects once a sample has passed the sequence check (R63). -/
def Channel.expecting (c : Channel) (seq missed : Nat) : Channel :=
  { c with pendingLost := c.pendingLost || decide (0 < missed), expect := some ((seq + 1) % 256) }

/-- A sample that has passed the sequence check, by the room for it (R64). -/
theorem State.takeSample_eq (s : State) (ch : Chan) (id seq missed : Nat) (r : Reading) :
    let s2 := (s.modTrav id (·.missing missed)).modChan ch (·.expecting seq missed)
    s.takeSample ch id seq missed r =
      match (s.chan ch).room, s2.trav? id with
      | some i, some t => s2.storeSample ch t i r
      | _, _ => s2.countLost ch id 1 := by
  intro s2
  unfold State.takeSample
  rw [State.countMissed_eq]
  dsimp only
  rw [State.modChan_modChan, State.chan_modChan_self]
  rfl

/-- Without room the sample is lost (R64). -/
theorem State.takeSample_lost (s : State) (ch : Chan) (id seq missed : Nat) (r : Reading)
    (full : (s.chan ch).room = none) :
    s.takeSample ch id seq missed r =
      (s.modTrav id fun t => (t.missing missed).lose 1).modChan ch fun c =>
        { c with expect := some ((seq + 1) % 256), pendingLost := true } := by
  rw [State.takeSample_eq, full]
  dsimp only
  unfold State.countLost
  rw [State.modTrav_modChan, State.modTrav_modTrav, State.modChan_modChan]
  · rfl
  · intro t
    rw [Traverse.missing_eq]

/-- A sample as it is stored, with its three marks (R94, R197). -/
def ScreenState.marked (u : ScreenState) (r : Reading) (lostBefore : Bool) : StoredSample :=
  ⟨r, ⟨u.params.landmarkMark r, u.params.detectionMark r, lostBefore⟩⟩

/-- The entry once a sample is stored and screened (R62). -/
def Traverse.stores (t : Traverse) (u1 : ScreenState) : Traverse :=
  { t with
    stored := t.stored + 1, opened := u1.opened, closed := u1.closed
    flags := { t.flags with truncated := t.flags.truncated || decide (Config.maxSamples ≤ t.stored + 1) } }

/-- The channel once a sample is stored in buffer `i` and screened (R62 to R64). -/
def Channel.stores (c : Channel) (i : BufId) (seq missed : Nat) (t : Traverse) (u : ScreenState) (r : Reading) :
    Channel :=
  let u1 := u.screen r
  { c.modBuf i (fun b => b.put t.id t.stored (u.marked r (c.pendingLost || decide (0 < missed)))
      ⟨u1.opened, (t.missing missed).lost, u1.closed⟩) with
    expect := some ((seq + 1) % 256), pendingLost := false, screen := .active u1 }

/-- With room the sample is stored and screened, and a buffer that it fills is dealt with (R62 to R64). -/
theorem State.takeSample_stored (s : State) (ch : Chan) (seq missed : Nat) (r : Reading) (tr : Traverse) (i : BufId)
    (u : ScreenState) (live : s.trav? tr.id = some tr) (room : (s.chan ch).room = some i)
    (screening : (s.chan ch).screen = .active u) (bound : u.traverse = tr.id) :
    s.takeSample ch tr.id seq missed r =
      ((s.modTrav tr.id fun t => (t.missing missed).stores (u.screen r)).modChan ch fun c =>
        c.stores i seq missed tr u r).passFull ch i := by
  have ids : ∀ t : Traverse, (t.missing missed).id = t.id := fun t => by rw [Traverse.missing_eq]
  have counted : ((s.modTrav tr.id (·.missing missed)).modChan ch (·.expecting seq missed)).trav? tr.id
      = some (tr.missing missed) := s.trav_modTrav_self tr.id _ tr ids live
  rw [State.takeSample_eq, room, counted]
  dsimp only
  unfold State.storeSample
  have active : (((s.modTrav tr.id (·.missing missed)).modChan ch (·.expecting seq missed)).chan ch).screen.activeOn
      (tr.missing missed).id = some u := by
    rw [State.chan_modChan_self, ids]
    change (s.chan ch).screen.activeOn tr.id = some u
    rw [screening, Screening.activeOn, if_pos bound]
  dsimp only
  rw [active]
  dsimp only
  rw [State.modChan_modChan, State.modTrav_modChan, ids, State.modTrav_modTrav _ _ _ _ ids, State.chan_modChan_self]
  have stored : (tr.missing missed).stored = tr.stored := by rw [Traverse.missing_eq]
  rw [stored]
  refine congrArg (fun v : State => v.passFull ch i) (State.modChan_congr _ ch _ _ ?_)
  change _ = (s.chan ch).stores i seq missed tr u r
  cases i <;> rfl

/-! SAMPLE (R62 to R64). -/

theorem State.sampling_hearProbe (s : State) (ch : Chan) : (s.hearProbe ch).sampling ch = s.sampling ch := by
  unfold State.sampling
  rw [State.state_hearProbe, State.inHand_hearProbe]

theorem execSample_offered (ch : Chan) (seq : Nat) (r : Reading) (s : State) (tr : Traverse) (up : s.probeUp ch)
    (taking : s.sampling ch = some tr) :
    exec (.sample ch seq r) s = .next ((s.hearProbe ch).offerSample ch tr seq r) := by
  simp only [exec, execSample, s.probeFrame_up ch _ up, State.sampling_hearProbe, taking]

/-- A sample on a TRUNCATED traverse, or behind the expectation (R62, R63). -/
theorem execSample_discarded (ch : Chan) (seq : Nat) (r : Reading) (s : State) (tr : Traverse) (up : s.probeUp ch)
    (taking : s.sampling ch = some tr)
    (h : tr.flags.truncated = true ∨ seqCheck (s.chan ch).expect seq = .behind) :
    exec (.sample ch seq r) s = .next (s.hearProbe ch) := by
  rw [execSample_offered ch seq r s tr up taking, State.offerSample]
  by_cases full : tr.flags.truncated = true
  · rw [if_pos full]
  · rw [if_neg full, State.chan_hearProbe_self, show seqCheck (s.chan ch).expect seq = .behind from
      h.resolve_left full]

/-- A sample that passes the sequence check (R63). -/
theorem execSample_taken (ch : Chan) (seq missed : Nat) (r : Reading) (s : State) (tr : Traverse) (up : s.probeUp ch)
    (taking : s.sampling ch = some tr) (open_ : tr.flags.truncated = false)
    (h : missed = 0 ∧ seqCheck (s.chan ch).expect seq = .inOrder
      ∨ 0 < missed ∧ seqCheck (s.chan ch).expect seq = .gap missed) :
    exec (.sample ch seq r) s = .next ((s.hearProbe ch).takeSample ch tr.id seq missed r) := by
  rw [execSample_offered ch seq r s tr up taking, State.offerSample, if_neg (by simp [open_]),
    State.chan_hearProbe_self]
  rcases h with ⟨rfl, order⟩ | ⟨_, gap⟩
  · rw [show seqCheck (s.chan ch).expect seq = .inOrder from order]
  · rw [show seqCheck (s.chan ch).expect seq = .gap missed from gap]

/-- The buffers of a channel in which a sample is stored (R64). -/
theorem Channel.buf_stores (c : Channel) (i : BufId) (seq missed : Nat) (t : Traverse) (u : ScreenState) (r : Reading) :
    (c.stores i seq missed t u r).buf i =
        (c.buf i).put t.id t.stored (u.marked r (c.pendingLost || decide (0 < missed)))
          ⟨(u.screen r).opened, (t.missing missed).lost, (u.screen r).closed⟩
      ∧ (c.stores i seq missed t u r).buf i.other = c.buf i.other := by
  cases i <;> exact ⟨rfl, rfl⟩

/-- What a stored sample leaves of its channel but for the buffers (R62 to R64). -/
theorem Channel.stores_keeps (c : Channel) (i : BufId) (seq missed : Nat) (t : Traverse) (u : ScreenState)
    (r : Reading) :
    (c.stores i seq missed t u r).expect = some ((seq + 1) % 256)
      ∧ (c.stores i seq missed t u r).pendingLost = false
      ∧ (c.stores i seq missed t u r).screen = .active (u.screen r)
      ∧ (c.stores i seq missed t u r).state = c.state ∧ (c.stores i seq missed t u r).sent = c.sent := by
  cases i <;> exact ⟨rfl, rfl, rfl, rfl, rfl⟩

/-- A buffer that is not full by its sample stays with its channel (R64). -/
theorem State.passFull_of_room (s : State) (ch : Chan) (i : BufId) (h : ((s.chan ch).buf i).samples.length < 56) :
    s.passFull ch i = s := if_pos h

/-- The entry of a stored sample, so many missed before it (R62, R63). -/
theorem Traverse.stores_missing (t : Traverse) (missed : Nat) (u1 : ScreenState) :
    (t.missing missed).stores u1 = { t with
      stored := t.stored + 1, opened := u1.opened, closed := u1.closed
      lost := if missed = 0 then t.lost else min 16777215 (t.lost + missed)
      flags := { t.flags with
        lostSamples := t.flags.lostSamples || decide (0 < missed)
        truncated := t.flags.truncated || decide (65536 ≤ t.stored + 1) } } := by
  rw [Traverse.missing_eq]
  rfl

/-- The entry of a lost sample, so many missed before it (R63, R64). -/
theorem Traverse.lose_missing (t : Traverse) (missed : Nat) :
    (t.missing missed).lose 1 = { t with
      lost := min 16777215 (min 16777215 (t.lost + missed) + 1)
      flags := { t.flags with lostSamples := true } } := by
  have lost : min 16777215 ((if missed = 0 then t.lost else min 16777215 (t.lost + missed)) + 1)
      = min 16777215 (min 16777215 (t.lost + missed) + 1) := by
    split <;> omega
  rw [Traverse.missing_eq, ← lost]
  rfl

end Sys2Proof.Machine
end

section
namespace Sys2Proof.Machine

/-- A sample without room for it is lost and counted with the missed ones (R63, R64). -/
theorem execSample_lost (ch : Chan) (seq missed : Nat) (r : Reading) (s : State) (tr : Traverse) (up : s.probeUp ch)
    (taking : s.sampling ch = some tr) (open_ : tr.flags.truncated = false)
    (h : missed = 0 ∧ seqCheck (s.chan ch).expect seq = .inOrder
      ∨ 0 < missed ∧ seqCheck (s.chan ch).expect seq = .gap missed) (full : (s.chan ch).room = none) :
    exec (.sample ch seq r) s = .next
      { s with
        store := s.store.updTrav tr.id fun u =>
          { u with lost := min 16777215 (min 16777215 (u.lost + missed) + 1)
                   flags := { u.flags with lostSamples := true } }
        channels := s.channels.set ch
          { s.chan ch with silenceMs := 0, expect := some ((seq + 1) % 256), pendingLost := true } } := by
  rw [execSample_taken ch seq missed r s tr up taking open_ h, State.takeSample_lost]
  · simp only [Traverse.lose_missing, State.hearProbe_modChan, State.modTrav_modChan, State.modChan_modChan]
    rfl
  · rw [State.chan_hearProbe_self]
    exact full

/-- The state once a sample is stored, before a full buffer is dealt with (R62 to R64). -/
def State.sampleStored (s : State) (ch : Chan) (i : BufId) (seq missed : Nat) (tr : Traverse) (u : ScreenState)
    (r : Reading) : State :=
  ((s.hearProbe ch).modTrav tr.id fun t => (t.missing missed).stores (u.screen r)).modChan ch fun c =>
    c.stores i seq missed tr u r

theorem execSample_stored (ch : Chan) (seq missed : Nat) (r : Reading) (s : State) (tr : Traverse) (i : BufId)
    (u : ScreenState) (up : s.probeUp ch) (taking : s.sampling ch = some tr) (live : s.trav? tr.id = some tr)
    (open_ : tr.flags.truncated = false)
    (h : missed = 0 ∧ seqCheck (s.chan ch).expect seq = .inOrder
      ∨ 0 < missed ∧ seqCheck (s.chan ch).expect seq = .gap missed) (room : (s.chan ch).room = some i)
    (screening : (s.chan ch).screen = .active u) (bound : u.traverse = tr.id) :
    exec (.sample ch seq r) s = .next ((s.sampleStored ch i seq missed tr u r).passFull ch i) := by
  rw [execSample_taken ch seq missed r s tr up taking open_ h]
  refine congrArg Host.Outcome.next ?_
  have heard := s.chan_hearProbe_self ch
  exact (s.hearProbe ch).takeSample_stored ch seq missed r tr i u live (by rw [heard]; exact room)
    (by rw [heard]; exact screening) bound

/-- The channel of a stored sample. -/
theorem State.chan_sampleStored (s : State) (ch : Chan) (i : BufId) (seq missed : Nat) (tr : Traverse)
    (u : ScreenState) (r : Reading) :
    (s.sampleStored ch i seq missed tr u r).chan ch =
        ({ s.chan ch with silenceMs := 0 } : Channel).stores i seq missed tr u r
      ∧ ∀ k, k ≠ ch → (s.sampleStored ch i seq missed tr u r).chan k = s.chan k := by
  refine ⟨?_, fun k hk => ?_⟩
  · rw [State.sampleStored, State.chan_modChan_self, State.chan_modTrav, State.chan_hearProbe_self]
  · rw [State.sampleStored, State.chan_modChan_other _ _ _ _ hk, State.chan_modTrav, State.chan_hearProbe_other _ _ _ hk]

/-- The buffers of the channel of a stored sample (R64). -/
theorem State.buf_sampleStored (s : State) (ch : Chan) (i : BufId) (seq missed : Nat) (tr : Traverse)
    (u : ScreenState) (r : Reading) :
    ((s.sampleStored ch i seq missed tr u r).chan ch).buf i =
        ((s.chan ch).buf i).put tr.id tr.stored (u.marked r ((s.chan ch).pendingLost || decide (0 < missed)))
          ⟨(u.screen r).opened, if missed = 0 then tr.lost else min 16777215 (tr.lost + missed), (u.screen r).closed⟩
      ∧ ((s.sampleStored ch i seq missed tr u r).chan ch).buf i.other = (s.chan ch).buf i.other := by
  obtain ⟨here, other⟩ := ({ s.chan ch with silenceMs := 0 } : Channel).buf_stores i seq missed tr u r
  rw [(s.chan_sampleStored ch i seq missed tr u r).1, here, other, Traverse.missing_eq]
  cases i <;> exact ⟨rfl, rfl⟩

/-- The entries of the directory once a sample is stored (R62). -/
theorem State.trav_sampleStored (s : State) (ch : Chan) (i : BufId) (seq missed : Nat) (tr : Traverse)
    (u : ScreenState) (r : Reading) (live : s.trav? tr.id = some tr) :
    (s.sampleStored ch i seq missed tr u r).trav? tr.id = some ((tr.missing missed).stores (u.screen r))
      ∧ ∀ n, n ≠ tr.id → (s.sampleStored ch i seq missed tr u r).trav? n = s.trav? n := by
  have ids : ∀ t : Traverse, ((t.missing missed).stores (u.screen r)).id = t.id := fun t => by
    rw [Traverse.stores_missing]
  exact ⟨(s.hearProbe ch).trav_modTrav_self tr.id _ tr ids live,
    fun n hn => (s.hearProbe ch).trav_modTrav_other tr.id n _ ids hn⟩

/-- Settles O33: `execSample_discarded`, `execSample_lost` and `execSample_stored` for the sample,
`seqCheck_does` for the check, `ScreenState.screen_indications` and `ScreenState.screen_landmarks` for the windows. -/
theorem sampleIsStoredLostOrDiscarded : Obligations.SampleIsStoredLostOrDiscarded := by
  refine ⟨⟨fun ch seq r s t up taking h => execSample_discarded ch seq r s t up taking h,
    fun ch seq missed r s tr up taking live open_ h => ⟨fun full =>
      execSample_lost ch seq missed r s tr up taking open_ h full,
      fun i u room screening bound short => ?_⟩⟩, ⟨fun _ => rfl, seqCheck_does⟩, fun u r => ?_⟩
  · intro u1 stored
    let t := s.sampleStored ch i seq missed tr u r
    obtain ⟨here, beside⟩ := s.buf_sampleStored ch i seq missed tr u r
    obtain ⟨own, others⟩ := s.chan_sampleStored ch i seq missed tr u r
    obtain ⟨entry, rest⟩ := s.trav_sampleStored ch i seq missed tr u r live
    obtain ⟨expect, pending, screen, state, sent⟩ :=
      ({ s.chan ch with silenceMs := 0 } : Channel).stores_keeps i seq missed tr u r
    have filled : ((t.chan ch).buf i).samples.length < 56 := by
      rw [here, PageBuffer.put]
      split
      · next filling =>
        have few := short filling
        simp only [List.length_append, List.length_singleton]
        omega
      · simp
    refine ⟨t, ?_, ?_, ?_, beside, by rw [own]; exact expect, by rw [own]; exact pending, by rw [own]; exact screen,
      by rw [own]; exact state, by rw [own]; exact sent, others, ⟨_, entry, ?_⟩, rest, rfl, rfl, rfl, rfl, rfl, rfl,
      rfl, rfl, rfl⟩
    · rw [execSample_stored ch seq missed r s tr i u up taking live open_ h room screening bound,
        State.passFull_of_room _ ch i filled]
    · rw [here, PageBuffer.put]
      by_cases filling : ((s.chan ch).buf i).state = .filling
      · rw [if_pos filling, if_pos filling]
        rfl
      · rw [if_neg filling, if_neg filling]
        exact ⟨rfl, rfl, rfl, rfl⟩
    · rw [here, PageBuffer.put]
      split <;> rfl
    · rw [Traverse.stores_missing]
      simp [open_, u1]
  · obtain ⟨_, _, bound, next, first⟩ := u.screen_parts r
    obtain ⟨shut, opens, marked, unmarked⟩ := u.screen_indications r
    obtain ⟨off, on⟩ := u.screen_landmarks r
    exact ⟨congrArg Prod.fst bound, congrArg Prod.snd bound, next, first, shut, opens, marked, unmarked, off, on⟩

end Sys2Proof.Machine
end

section
namespace Sys2Proof.Machine

/-! A buffer handed over to its lane, and the port's answer to it (R64, R65, R77 to R79). -/

/-- What a page image is built of: the entry's number and place, and the samples of the buffer (R79, R80). -/
theorem pageImage_congr (t t' : Traverse) (seq : Nat) (e : LaneEntry) (b b' : PageBuffer) (time : Nat)
    (id : t.id = t'.id) (channel : t.channel = t'.channel) (target : t.target = t'.target)
    (first : b.firstIndex = b'.firstIndex) (samples : b.samples = b'.samples) :
    pageImage t seq e b time = pageImage t' seq e b' time := by
  unfold pageImage trailerBytes
  rw [id, channel, target, first, samples]

/-- The state with a buffer's page in its lane, before the arbiter looks (R77). -/
def State.joinLane (s : State) (ch : Chan) (i : BufId) (last aborted : Bool) : State :=
  let b := (s.chan ch).buf i
  ((s.modChan ch fun c => c.modBuf i fun b => { b with state := .inWrite }).modTrav b.traverse fun t =>
    { t with inWrite := t.inWrite + 1 }).modStore fun x =>
      { x with lanes := x.lanes.set ch (x.lanes.get ch ++ [laneEntryOf i b last aborted]) }

theorem State.handOver_eq (s : State) (ch : Chan) (i : BufId) (last aborted : Bool) :
    s.handOver ch i last aborted = (s.joinLane ch i last aborted).arbitrate := rfl

/-- The entry of a traverse once a page of it waits in the lane. -/
theorem State.trav_joinLane (s : State) (ch : Chan) (i : BufId) (last aborted : Bool) (tr : Traverse)
    (live : s.trav? tr.id = some tr) (named : ((s.chan ch).buf i).traverse = tr.id) :
    (s.joinLane ch i last aborted).trav? tr.id = some { tr with inWrite := tr.inWrite + 1 } := by
  have changed := (s.modChan ch fun c => c.modBuf i fun b => { b with state := .inWrite }).trav_modTrav_self
    tr.id (fun t => { t with inWrite := t.inWrite + 1 }) tr (fun _ => rfl) live
  rw [← changed, ← named]
  rfl

theorem Channel.buf_modBuf (c : Channel) (i : BufId) (f : PageBuffer → PageBuffer) :
    (c.modBuf i f).buf i = f (c.buf i) ∧ (c.modBuf i f).buf i.other = c.buf i.other := by
  cases i <;> exact ⟨rfl, rfl⟩

/-- Only the lane with an entry can have its turn (R78). -/
theorem State.arbitrate_only (s : State) (ch : Chan) (e : LaneEntry) (free : s.store.port = .free)
    (here : s.store.lanes.get ch = [e]) (empty : ∀ k, k ≠ ch → s.store.lanes.get k = []) :
    s.arbitrate = s.grantWrite ch := by
  rcases s.arbitrate_cases free with ⟨k, f, rest, turn, granted⟩ | ⟨none_, _⟩
  · have same : k = ch := by
      by_contra other
      exact absurd (turn.1.symm.trans (empty k other)) (by simp)
    rw [granted, same]
  · exact absurd (here.symm.trans (none_ ch)) (by simp)

/-- A buffer handed over with the port taken: its page waits in the lane (R77, R78). -/
theorem State.handOver_waits (s : State) (ch : Chan) (i : BufId) (last aborted : Bool) (busy : s.store.port ≠ .free) :
    s.handOver ch i last aborted = s.joinLane ch i last aborted :=
  (s.joinLane ch i last aborted).arbitrate_busy busy

/-- A buffer handed over with the port free and no page waiting: its write is granted at once (R78, R79). -/
theorem State.handOver_granted (s : State) (ch : Chan) (i : BufId) (last aborted : Bool) (tr : Traverse) (page : Nat)
    (rest : List PageRun) (live : s.trav? tr.id = some tr) (named : ((s.chan ch).buf i).traverse = tr.id)
    (free : s.store.port = .free) (empty : ∀ k, s.store.lanes.get k = [])
    (pool : poolPop s.store.pool = some (page, rest)) :
    let t := s.handOver ch i last aborted
    let e := laneEntryOf i ((s.chan ch).buf i) last aborted
    t.trav? tr.id = some { tr with
        inWrite := tr.inWrite + 1, pages := tr.pages ++ [page], reservation := tr.reservation - 1 }
      ∧ t.store.port = .write ch i (some tr.id) page (pageImage tr tr.pages.length e ((s.chan ch).buf i) s.time)
      ∧ t.store.pool = rest ∧ t.store.reservedPages = s.store.reservedPages - 1
      ∧ t.store.lastWrite = ch ∧ (∀ k, t.store.lanes.get k = []) := by
  intro t e
  let j := s.joinLane ch i last aborted
  have lanes : j.store.lanes = s.store.lanes.set ch [e] := by
    change s.store.lanes.set ch (s.store.lanes.get ch ++ [e]) = _
    rw [empty ch, List.nil_append]
  have here : j.store.lanes.get ch = [e] := by rw [lanes, Four.get_set_self]
  have entry := s.trav_joinLane ch i last aborted tr live named
  have buffer : (j.chan ch).buf i = { (s.chan ch).buf i with state := .inWrite } := by
    change ((s.channels.set ch _).get ch).buf i = _
    rw [Four.get_set_self, (Channel.buf_modBuf _ i _).1]
    rfl
  have granted : t = j.grantWrite ch := j.arbitrate_only ch e free here fun k hk => by
    rw [lanes, Four.get_set_other _ _ _ _ hk, empty k]
  have owner : e.traverse = tr.id := named
  rw [j.grantWrite_eq ch e [] page rest { tr with inWrite := tr.inWrite + 1 } here pool
    (by rw [owner]; exact entry), owner, show e.buf = i from rfl, buffer] at granted
  rw [granted]
  refine ⟨j.trav_modTrav_self tr.id (fun t =>
    { t with pages := t.pages ++ [page], reservation := t.reservation - 1 }) _ (fun _ => rfl) entry, ?_, rfl, rfl, rfl, fun k => ?_⟩
  · exact congrArg (Port.write ch i (some tr.id) page)
      (pageImage_congr _ tr _ e _ ((s.chan ch).buf i) j.time rfl rfl rfl rfl rfl)
  · change (j.store.lanes.set ch []).get k = []
    by_cases hk : k = ch
    · rw [hk, Four.get_set_self]
    · rw [Four.get_set_other _ _ _ _ hk, lanes, Four.get_set_other _ _ _ _ hk, empty k]

/-- A buffer handed over: one more page of its traverse is in write; with the port taken the page waits at the
end of its lane, and with the port free and no page waiting its write is granted at once (R64, R65, R77 to
R79). -/
theorem State.handOver_answers (s : State) (ch : Chan) (i : BufId) (last aborted : Bool) (tr : Traverse)
    (live : s.trav? tr.id = some tr) (named : ((s.chan ch).buf i).traverse = tr.id) :
    let t := s.handOver ch i last aborted
    let e := laneEntryOf i ((s.chan ch).buf i) last aborted
    ∃ u, t.trav? tr.id = some u ∧ u.unpaged = { tr.unpaged with inWrite := tr.inWrite + 1 }
      ∧ (s.store.port ≠ .free → u.pages = tr.pages ∧ t.store.port = s.store.port
          ∧ t.store.lanes.get ch = s.store.lanes.get ch ++ [e])
      ∧ (s.store.port = .free → (∀ k, s.store.lanes.get k = []) →
          ∀ page rest, poolPop s.store.pool = some (page, rest) →
            t.store.port = .write ch i (some tr.id) page
                (pageImage tr tr.pages.length e ((s.chan ch).buf i) s.time)
              ∧ u.pages = tr.pages ++ [page] ∧ u.reservation = tr.reservation - 1
              ∧ t.store.pool = rest ∧ t.store.reservedPages = s.store.reservedPages - 1
              ∧ t.store.lastWrite = ch ∧ (∀ k, t.store.lanes.get k = [])) := by
  intro t e
  obtain ⟨entries, _, _⟩ := s.handOver_does ch i last aborted
  have here := entries tr.id
  rw [live, Option.map_some, Option.map_eq_some_iff] at here
  obtain ⟨u, hu, same⟩ := here
  refine ⟨u, hu, by simpa [named] using same, fun busy => ?_, fun free empty page rest pool => ?_⟩
  · have waits : t = s.joinLane ch i last aborted := s.handOver_waits ch i last aborted busy
    have entry := s.trav_joinLane ch i last aborted tr live named
    rw [← waits] at entry
    obtain rfl := Option.some.inj (hu.symm.trans entry)
    rw [waits]
    exact ⟨rfl, rfl, Four.get_set_self _ _ _⟩
  · obtain ⟨entry, port, poolAfter, reserved, turn, lanes⟩ :=
      s.handOver_granted ch i last aborted tr page rest live named free empty pool
    obtain rfl := Option.some.inj (hu.symm.trans entry)
    exact ⟨port, rfl, rfl, poolAfter, reserved, turn, lanes⟩

end Sys2Proof.Machine
end

section
namespace Sys2Proof.Machine

/-- A channel once buffer `i` is full and the filling role has passed to the other (R64). -/
def Channel.passes (c : Channel) (i : BufId) (state : BufferState) : Channel :=
  ({ c with nextBuf := i.other } : Channel).modBuf i fun b => { b with state := state }

theorem Channel.buf_passes (c : Channel) (i : BufId) (state : BufferState) :
    (c.passes i state).buf i = { c.buf i with state := state } ∧ (c.passes i state).buf i.other = c.buf i.other := by
  cases i <;> exact ⟨rfl, rfl⟩

theorem Channel.passes_keeps (c : Channel) (i : BufId) (state : BufferState) :
    (c.passes i state).expect = c.expect ∧ (c.passes i state).pendingLost = c.pendingLost
      ∧ (c.passes i state).screen = c.screen ∧ (c.passes i state).state = c.state
      ∧ (c.passes i state).sent = c.sent := by
  cases i <;> exact ⟨rfl, rfl, rfl, rfl, rfl⟩

/-- A full buffer, the other being free, is handed over (R64). -/
theorem State.passFull_handsOver (s : State) (ch : Chan) (i : BufId) (full : 56 ≤ ((s.chan ch).buf i).samples.length)
    (other : ((s.chan ch).buf i.other).state = .free) :
    s.passFull ch i = (s.modChan ch fun c => { c with nextBuf := i.other }).handOver ch i false false := by
  have free : (((s.modChan ch fun c => { c with nextBuf := i.other }).chan ch).buf i.other).state = .free := by
    rw [State.chan_modChan_self, ← other]
    cases i <;> rfl
  exact (if_neg (Nat.not_lt.2 full)).trans (if_pos free)

/-- A full buffer, the other not being free, is held (R64). -/
theorem State.passFull_holds (s : State) (ch : Chan) (i : BufId) (full : 56 ≤ ((s.chan ch).buf i).samples.length)
    (other : ((s.chan ch).buf i.other).state ≠ .free) :
    s.passFull ch i = s.modChan ch (·.passes i .held) := by
  have taken : (((s.modChan ch fun c => { c with nextBuf := i.other }).chan ch).buf i.other).state ≠ .free := by
    rw [State.chan_modChan_self]
    cases i <;> exact other
  exact ((if_neg (Nat.not_lt.2 full)).trans (if_neg taken)).trans (State.modChan_modChan _ _ _ _)

/-- Settles O34: the sample is stored as O33 says, and `State.handOver_answers` says what becomes of the full
page where the other buffer is free. -/
theorem fullBufferIsHandedOverOrHeld : Obligations.FullBufferIsHandedOverOrHeld := by
  intro ch seq missed r s tr i u up taking live open_ h room screening bound filling short owner c lost u1 stored full
  let v := s.sampleStored ch i seq missed tr u r
  let w := (tr.missing missed).stores u1
  have run := execSample_stored ch seq missed r s tr i u up taking live open_ h room screening bound
  obtain ⟨here, beside⟩ := s.buf_sampleStored ch i seq missed tr u r
  rw [PageBuffer.put, if_pos filling] at here
  have buffer : (v.chan ch).buf i = full := here
  have entry : v.trav? tr.id = some w := (s.trav_sampleStored ch i seq missed tr u r live).1
  have w_eq : w = { tr with
      stored := tr.stored + 1, opened := u1.opened, closed := u1.closed, lost := lost
      flags := { tr.flags with
        lostSamples := tr.flags.lostSamples || decide (0 < missed)
        truncated := tr.flags.truncated || decide (65536 ≤ tr.stored + 1) } } := Traverse.stores_missing tr missed u1
  obtain ⟨expect, pending, screen, state, sent⟩ :=
    ({ s.chan ch with silenceMs := 0 } : Channel).stores_keeps i seq missed tr u r
  rw [← (s.chan_sampleStored ch i seq missed tr u r).1] at expect pending screen state sent
  have channel : ∀ (t : State) (st : BufferState), t.chan ch = (v.chan ch).passes i st →
      (t.chan ch).buf i = { full with state := st }
        ∧ (t.chan ch).expect = some ((seq + 1) % 256) ∧ (t.chan ch).pendingLost = false
        ∧ (t.chan ch).screen = .active u1 ∧ (t.chan ch).state = c.state ∧ (t.chan ch).sent = c.sent
        ∧ (t.chan ch).buf i.other = (s.chan ch).buf i.other := by
    intro t st own
    obtain ⟨expect', pending', screen', state', sent'⟩ := (v.chan ch).passes_keeps i st
    obtain ⟨here', beside'⟩ := (v.chan ch).buf_passes i st
    rw [own]
    exact ⟨here'.trans (by rw [buffer]), expect'.trans expect, pending'.trans pending, screen'.trans screen,
      state'.trans state, sent'.trans sent, beside'.trans beside⟩
  have traverse : ∀ (tr' : Traverse) (n : Nat), tr'.unpaged = { w.unpaged with inWrite := n } →
      tr'.stored = tr.stored + 1 ∧ tr'.lost = lost ∧ tr'.state = tr.state
        ∧ tr'.opened = u1.opened ∧ tr'.closed = u1.closed
        ∧ tr'.flags.lostSamples = (tr.flags.lostSamples || decide (0 < missed))
        ∧ tr'.flags.truncated = decide (65536 ≤ tr.stored + 1) ∧ tr'.inWrite = n := by
    intro tr' n same
    rw [w_eq] at same
    have flags : tr'.flags = { tr.flags with
        lostSamples := tr.flags.lostSamples || decide (0 < missed)
        truncated := tr.flags.truncated || decide (65536 ≤ tr.stored + 1) } := congrArg Traverse.flags same
    rw [open_, Bool.false_or] at flags
    exact ⟨congrArg Traverse.stored same, congrArg Traverse.lost same, (congrArg Traverse.state same :),
      congrArg Traverse.opened same, congrArg Traverse.closed same, by rw [flags], by rw [flags],
      congrArg Traverse.inWrite same⟩
  have length : 56 ≤ ((v.chan ch).buf i).samples.length := by
    rw [buffer]
    simp [full, c, short]
  have isFree : ((v.chan ch).buf i.other).state = ((s.chan ch).buf i.other).state := by rw [beside]
  by_cases other : ((s.chan ch).buf i.other).state = .free
  · let x := v.modChan ch fun c => { c with nextBuf := i.other }
    have passed : v.passFull ch i = x.handOver ch i false false :=
      v.passFull_handsOver ch i length (isFree.trans other)
    have held : (x.chan ch).buf i = full := by
      rw [State.chan_modChan_self, ← buffer]
      cases i <;> rfl
    have ids : w.id = tr.id := by rw [w_eq]
    obtain ⟨tr', live', same, busy, granted⟩ := x.handOver_answers ch i false false w (by rw [ids]; exact entry)
      (by rw [held, ids]; exact owner)
    obtain ⟨_, _, channels⟩ := x.handOver_does ch i false false
    rw [held] at busy granted
    obtain ⟨buf, expects, pends, screens, states, sends, others⟩ := channel (x.handOver ch i false false) .inWrite (by
      rw [State.chan, channels, Four.get_set_self, State.chan_modChan_self]
      rfl)
    obtain ⟨stored', lost', state', opened', closed', marked', cut', writes⟩ := traverse tr' _ same
    rw [ids] at live' granted
    rw [w_eq] at busy granted writes
    refine ⟨_, tr', run.trans (congrArg _ passed), live', stored', lost', state', opened', closed', marked', cut',
      expects, pends, screens, states, sends, others, fun taken => absurd (other.symm.trans taken) (by decide),
      fun _ => ⟨buf, writes, fun taken => ?_, fun free empty page rest pool => ?_⟩⟩
    · exact busy taken
    · obtain ⟨port, after⟩ := granted free empty page rest pool
      exact ⟨port.trans (congrArg _ (pageImage_congr _ _ _ _ _ _ _ rfl rfl rfl rfl rfl)), after⟩
  · have passed : v.passFull ch i = v.modChan ch (·.passes i .held) :=
      v.passFull_holds ch i length fun free => other (isFree.symm.trans free)
    obtain ⟨buf, expects, pends, screens, states, sends, others⟩ :=
      channel (v.modChan ch (·.passes i .held)) .held (v.chan_modChan_self ch _)
    obtain ⟨stored', lost', state', opened', closed', marked', cut', writes⟩ := traverse w w.inWrite rfl
    exact ⟨_, w, run.trans (congrArg _ passed), entry, stored', lost', state', opened', closed', marked', cut',
      expects, pends, screens, states, sends, others,
      fun _ => ⟨buf, by rw [w_eq], rfl, rfl, rfl⟩, fun free => absurd free other⟩

end Sys2Proof.Machine
end

section
namespace Sys2Proof.Machine

/-! The end of a pull's recording (R54, R57, R65). -/

/-- A lane without a page of the traverse takes no mark (R65). -/
theorem markLast_absent (id : Nat) (aborted : Bool) (lane : List LaneEntry) (h : ∀ e ∈ lane, e.traverse ≠ id) :
    markLast id aborted lane = lane := by
  induction lane with
  | nil => rfl
  | cons e rest ih =>
    have own := h e List.mem_cons_self
    rw [markLast, ih fun f hf => h f (List.mem_cons_of_mem _ hf), if_neg own]
    split <;> rfl

/-- The last page of the traverse in a lane takes the marks (R65). -/
theorem markLast_last (id : Nat) (aborted : Bool) (e : LaneEntry) (after : List LaneEntry) (own : e.traverse = id)
    (h : ∀ f ∈ after, f.traverse ≠ id) (before : List LaneEntry) :
    markLast id aborted (before ++ e :: after) =
      before ++ { e with last := true, aborted := e.aborted || aborted } :: after := by
  induction before with
  | nil =>
    have none_ : (after.any fun f => f.traverse == id) = false := by simpa using h
    rw [List.nil_append, markLast, none_, if_neg (by decide), if_pos own]
    rfl
  | cons d before ih =>
    have some_ : ((before ++ e :: after).any fun f => f.traverse == id) = true := by simp [own]
    rw [List.cons_append, markLast, some_, if_pos rfl, ih]
    rfl

/-- The final page is the one buffer with samples of the traverse (R65). -/
theorem State.finalPage_handsOver (s : State) (ch : Chan) (id : Nat) (aborted : Bool) (i : BufId)
    (here : ((s.chan ch).buf i).pendingFor id = true) (other : ((s.chan ch).buf i.other).pendingFor id = false) :
    s.finalPage ch id aborted = s.handOver ch i true aborted := by
  cases i with
  | a => exact if_pos here
  | b => exact (if_neg fun a => Bool.false_ne_true (other.symm.trans a)).trans (if_pos here)

/-- With no samples left the last page in the lane is marked (R65). -/
theorem State.finalPage_marks (s : State) (ch : Chan) (id : Nat) (aborted : Bool)
    (a : (s.chan ch).bufA.pendingFor id = false) (b : (s.chan ch).bufB.pendingFor id = false) :
    s.finalPage ch id aborted = s.modStore fun x =>
      { x with lanes := x.lanes.set ch (markLast id aborted (x.lanes.get ch)) } :=
  (if_neg fun h => Bool.false_ne_true (a.symm.trans h)).trans (if_neg fun h => Bool.false_ne_true (b.symm.trans h))

/-- A page in write keeps a traverse from completing (R71). -/
theorem State.tryComplete_waits (s : State) (id : Nat) (t : Traverse) (live : s.trav? id = some t)
    (writes : 0 < t.inWrite) : s.tryComplete id = s := by
  have wait : s.readyToComplete t = false := by
    have busy : (t.inWrite == 0) = false := by simp; omega
    rw [State.readyToComplete, busy]
    simp
  rw [State.tryComplete, live]
  exact if_neg (by simp [wait])

/-- The channel once a pull's recording has ended (R54, R57). -/
def Channel.endsRecording (c : Channel) : Channel :=
  { c with pauseDue := none
           screen := match c.screen with
             | .active u => .holding u
             | x => x }

/-- The state once a pull's recording has ended, before its final page is dealt with (R54, R57). -/
def State.recordingEnded (s : State) (ch : Chan) (id : Nat) (new : ChanState) : State :=
  ((s.modTrav id fun t => { t with state := .finishing }).modChan ch
    (·.endsRecording)).moveChan ch new

theorem State.finishPull_eq (s : State) (ch : Chan) (id : Nat) (new : ChanState) :
    s.finishPull ch id new = ((s.recordingEnded ch id new).finalPage ch id false).tryComplete id := rfl

theorem execPullEnd_ends (ch : Chan) (s : State) (tr : Traverse) (up : s.probeUp ch) (hand : s.inHand? ch = some tr)
    (pulling : (s.chan ch).state = .recording ∧ tr.state = .recording ∨ (s.chan ch).state = .paused
      ∨ (s.chan ch).state = .calibrating) :
    exec (.pullEnd ch) s = .next ((s.hearProbe ch).finishPull ch tr.id
      (if (s.chan ch).state = .calibrating then .evaluating else .recording)) := by
  simp only [exec, execPullEnd, s.probeFrame_up ch _ up, State.state_hearProbe, State.inHand_hearProbe, hand]
  rcases pulling with ⟨state, recording⟩ | state | state <;> rw [state]
  · simp [recording]
  · rfl
  · rfl

/-- What the end of a recording leaves (R54, R57). -/
theorem State.recordingEnded_does (s : State) (ch : Chan) (tr : Traverse) (u : ScreenState) (new : ChanState)
    (live : s.trav? tr.id = some tr) (screening : (s.chan ch).screen = .active u) :
    let m := (s.hearProbe ch).recordingEnded ch tr.id new
    m.trav? tr.id = some { tr with state := .finishing }
      ∧ m.store = s.store.updTrav tr.id (fun v => { v with state := .finishing })
      ∧ (m.chan ch).silent =
        { s.chan ch with silenceMs := 0, pauseDue := none, screen := .holding u, state := new }.silent
      ∧ (∀ k, k ≠ ch → m.chan k = s.chan k)
      ∧ m.session = s.session ∧ m.cal = s.cal ∧ m.comparisons = s.comparisons ∧ m.config = s.config := by
  intro m
  let s1 := ((s.hearProbe ch).modTrav tr.id fun t => { t with state := .finishing }).modChan ch
    (·.endsRecording)
  have store : m.store = s1.store := State.store_moveChan _ _ _
  have own : s1.chan ch = { s.chan ch with silenceMs := 0, pauseDue := none, screen := .holding u } := by
    rw [State.chan_modChan_self, State.chan_modTrav, State.chan_hearProbe_self]
    simp only [Channel.endsRecording, screening]
  have entry : m.trav? tr.id = s1.trav? tr.id := by
    rw [State.trav?, store]
    rfl
  refine ⟨entry.trans ((s.hearProbe ch).trav_modTrav_self tr.id (fun t => { t with state := .finishing }) tr
      (fun _ => rfl) live), store, ?_, fun k hk => ?_, State.session_moveChan _ _ _, State.cal_moveChan _ _ _,
    State.comparisons_moveChan _ _ _, State.config_moveChan _ _ _⟩
  · exact (s1.moveChan_chan ch new).1.trans (by rw [own])
  · exact (s1.chan_moveChan_other ch k new hk).trans <| (State.chan_modChan_other _ _ _ _ hk).trans (State.chan_hearProbe_other s ch k hk)

theorem State.live_of_inHand (s : State) (ch : Chan) (tr : Traverse) (h : s.inHand? ch = some tr) :
    s.trav? tr.id = some tr := by
  obtain ⟨id, _, live⟩ := Option.bind_eq_some_iff.1 h
  rw [s.trav_id id tr live]
  exact live

/-- PULL_END with a pull to end: its final page is dealt with, and the traverse completes where nothing of it is
outstanding (R54, R57). -/
theorem execPullEnd_does (ch : Chan) (s : State) (tr : Traverse) (u : ScreenState) (up : s.probeUp ch)
    (hand : s.inHand? ch = some tr) (screening : (s.chan ch).screen = .active u)
    (pulling : (s.chan ch).state = .recording ∧ tr.state = .recording ∨ (s.chan ch).state = .paused
      ∨ (s.chan ch).state = .calibrating) :
    ∃ m : State, exec (.pullEnd ch) s = .next ((m.finalPage ch tr.id false).tryComplete tr.id)
      ∧ m.trav? tr.id = some { tr with state := .finishing }
      ∧ m.store = s.store.updTrav tr.id (fun v => { v with state := .finishing })
      ∧ (m.chan ch).silent =
        { s.chan ch with
          silenceMs := 0, pauseDue := none, screen := .holding u
          state := if (s.chan ch).state = ChanState.calibrating then ChanState.evaluating else ChanState.recording }.silent
      ∧ (∀ k, k ≠ ch → m.chan k = s.chan k)
      ∧ m.session = s.session ∧ m.cal = s.cal ∧ m.comparisons = s.comparisons ∧ m.config = s.config :=
  ⟨_, execPullEnd_ends ch s tr up hand pulling,
    s.recordingEnded_does ch tr u _ (s.live_of_inHand ch tr hand) screening⟩

end Sys2Proof.Machine
end

section
namespace Sys2Proof.Machine

/-- The buffers of a channel are read off what is silent of it. -/
theorem Channel.buf_of_silent (c d : Channel) (i : BufId) (h : c.silent = d.silent) : c.buf i = d.buf i := by
  cases i with
  | a => exact (congrArg Channel.bufA h :)
  | b => exact (congrArg Channel.bufB h :)

/-- What a buffer changed leaves of the silent rest of its channel. -/
theorem Channel.silent_modBuf_keeps (c : Channel) (i : BufId) (f : PageBuffer → PageBuffer) :
    (c.modBuf i f).screen = c.screen ∧ (c.modBuf i f).pauseDue = c.pauseDue ∧ (c.modBuf i f).state = c.state
      ∧ (c.modBuf i f).traverse = c.traverse ∧ (c.modBuf i f).claim = c.claim := by
  cases i <;> exact ⟨rfl, rfl, rfl, rfl, rfl⟩

theorem State.time_congr (s t : State) (h : t.session = s.session) : t.time = s.time := by
  rw [State.time, State.time?, h]
  rfl

/-- Settles O36: the final page is handed over or the last one marked (`State.finalPage_handsOver`,
`State.finalPage_marks`), and a page in write keeps the traverse from completing. -/
theorem pullEndHandsOverTheFinalPage : Obligations.PullEndHandsOverTheFinalPage := by
  refine ⟨?_, ?_⟩
  · intro ch s tr u i up hand own screening pulling here other
    obtain ⟨m, run, entry, store, silent, beside, session, cal, comparisons, config⟩ :=
      execPullEnd_does ch s tr u up hand screening pulling
    have buf : ∀ j, (m.chan ch).buf j = (s.chan ch).buf j := fun j =>
      (Channel.buf_of_silent _ _ j silent).trans (by cases j <;> rfl)
    have named : ((m.chan ch).buf i).traverse = tr.id := by
      rw [buf]
      simpa using (Bool.and_eq_true_iff.1 here).2
    have handed := m.finalPage_handsOver ch tr.id false i (by rw [buf]; exact here) (by rw [buf]; exact other)
    obtain ⟨tr', live', same, busy, granted⟩ :=
      m.handOver_answers ch i true false { tr with state := .finishing } entry named
    obtain ⟨_, _, channels⟩ := m.handOver_does ch i true false
    have inWrite : tr'.inWrite = tr.inWrite + 1 := congrArg Traverse.inWrite same
    rw [handed, State.tryComplete_waits _ tr.id tr' live' (by omega)] at run
    have channel : (m.handOver ch i true false).chan ch = (m.chan ch).modBuf i fun b => { b with state := .inWrite } := by
      rw [State.chan, channels, Four.get_set_self]
    obtain ⟨screen, pauseDue, state, traverse, claim⟩ :=
      (m.chan ch).silent_modBuf_keeps i fun b => { b with state := .inWrite }
    obtain ⟨filled, kept⟩ := (m.chan ch).buf_modBuf i fun b => { b with state := .inWrite }
    rw [← channel] at screen pauseDue state traverse claim filled kept
    rw [buf] at filled kept busy granted
    rw [store, s.time_congr m session] at granted
    rw [store] at busy
    refine ⟨_, tr', run, live', (congrArg Traverse.state same :), (congrArg Traverse.stored same :), inWrite,
      (congrArg Traverse.endTime same :), (congrArg Traverse.landmarks same :),
      screen.trans (congrArg Channel.screen silent :), pauseDue.trans (congrArg Channel.pauseDue silent :),
      state.trans (congrArg Channel.state silent :), traverse.trans (congrArg Channel.traverse silent :),
      claim.trans (congrArg Channel.claim silent :), filled, kept, fun taken => (busy taken).2.2,
      fun free empty page rest pool => ?_, fun k hk => ?_, by simpa using session, by simpa using cal,
      by simpa using comparisons, by simpa using config⟩
    · obtain ⟨port, pages, reservation, after, reserved, turn, lanes⟩ := granted free empty page rest pool
      exact ⟨pages, reservation, after, reserved, turn, lanes,
        port.trans (congrArg _ (pageImage_congr _ _ _ _ _ _ _ rfl rfl rfl rfl rfl))⟩
    · rw [State.chan, channels, Four.get_set_other _ _ _ _ hk]
      exact beside k hk
  · intro ch s tr u up hand own screening pulling a b writes lane
    obtain ⟨m, run, entry, store, silent, beside, session, cal, comparisons, config⟩ :=
      execPullEnd_does ch s tr u up hand screening pulling
    have bufA : (m.chan ch).bufA = (s.chan ch).bufA := (congrArg Channel.bufA silent :)
    have bufB : (m.chan ch).bufB = (s.chan ch).bufB := (congrArg Channel.bufB silent :)
    have marked := m.finalPage_marks ch tr.id false (by rw [bufA]; exact a) (by rw [bufB]; exact b)
    rw [(m.finalPage ch tr.id false).tryComplete_waits tr.id { tr with state := .finishing }
      (by rw [marked]; exact entry) writes, marked] at run
    refine ⟨_, markLast tr.id false lane, run, ?_, markLast_absent tr.id false lane, fun before e after split own' rest => ?_,
      (congrArg Channel.screen silent :), (congrArg Channel.pauseDue silent :), (congrArg Channel.state silent :),
      (congrArg Channel.traverse silent :), (congrArg Channel.claim silent :), bufA, bufB, beside, session, cal,
      comparisons, config⟩
    · simp only [State.modStore, store]
      rfl
    · rw [split, markLast_last tr.id false e after own' rest before, Bool.or_false]

end Sys2Proof.Machine
end

section
namespace Sys2Proof.Machine

/-! The pages of a channel's work ended, and its traverse aborted, whatever its state (R72). -/

/-- Every live traverse of `t` was live in `s`, on the same channel. -/
def State.ownersKept (s t : State) : Prop :=
  ∀ n u, t.trav? n = some u → ∃ v, s.trav? n = some v ∧ u.channel = v.channel

theorem State.ownersKept_of_store (s t : State) (h : t.store = s.store) : s.ownersKept t := fun n u hu =>
  ⟨u, (State.trav?_of_store s t h n).symm.trans hu, rfl⟩

theorem State.ownersKept_trans (s t u : State) (h : s.ownersKept t) (k : t.ownersKept u) : s.ownersKept u := by
  intro n w hw
  obtain ⟨v, hv, same⟩ := k n w hw
  obtain ⟨v', hv', same'⟩ := h n v hv
  exact ⟨v', hv', same.trans same'⟩

theorem State.ownersKept_modTrav (s : State) (id : Nat) (f : Traverse → Traverse) (ids : ∀ u, (f u).id = u.id)
    (channel : ∀ u, (f u).channel = u.channel) : s.ownersKept (s.modTrav id f) := by
  intro n u hu
  rw [s.trav?_modTrav id n f ids, Option.map_eq_some_iff] at hu
  obtain ⟨v, hv, rfl⟩ := hu
  refine ⟨v, hv, ?_⟩
  split
  · exact channel v
  · rfl

/-- A traverse that goes or stays leaves the owners of the others. -/
theorem State.ownersKept_of_goesOrStays (s t : State) (id : Nat) (tr : Traverse) (freed : Bool)
    (stays : Traverse → Prop) (live : s.trav? id = some tr) (channel : ∀ u, stays u → u.channel = tr.channel)
    (h : s.goesOrStays t id tr freed stays) : s.ownersKept t := by
  obtain ⟨others, _, goes, stay⟩ := h
  intro n u hu
  by_cases same : n = id
  · subst same
    cases freed with
    | true => exact absurd ((goes rfl).1.symm.trans hu) (by simp)
    | false =>
      obtain ⟨_, _, v, hv, kept⟩ := stay rfl
      obtain rfl := Option.some.inj (hv.symm.trans hu)
      exact ⟨tr, live, channel v kept⟩
  · exact ⟨u, (others n same).symm.trans hu, rfl⟩

theorem State.ownersKept_settle (s : State) (id : Nat) : s.ownersKept (s.settle id) := by
  cases live : s.trav? id with
  | none => exact s.ownersKept_of_store _ (by rw [s.settle_of_none id live])
  | some tr =>
    refine s.ownersKept_of_goesOrStays _ id tr _ _ live ?_ (s.settle_goesOrStays id tr live).1
    rintro u ⟨p, rfl, _⟩
    rfl

theorem State.ownersKept_finalPage (s : State) (ch : Chan) (id : Nat) (aborted : Bool) :
    s.ownersKept (s.finalPage ch id aborted) := by
  intro n u hu
  have entry := (s.finalPage_does ch id aborted).1 n
  rw [hu] at entry
  obtain ⟨v, hv, same⟩ := Option.map_eq_some_iff.1 entry.symm
  exact ⟨v, hv, (congrArg Traverse.channel same :).symm⟩

/-- What a release raises is news of the store. -/
theorem State.isStoreNews_releaseNews (s t : State) (id : Nat) (tr : Traverse) (freed : Bool) :
    ∀ e ∈ s.releaseNews t id tr freed, e.isStoreNews = true := by
  unfold State.releaseNews
  extract_lets v
  (repeat' split) <;> simp [Event.isStoreNews]

theorem State.settle_news (s : State) (id : Nat) :
    ∃ es, s.raised (s.settle id) es ∧ ∀ e ∈ es, e.isStoreNews = true := by
  cases live : s.trav? id with
  | none => exact ⟨[], by rw [s.settle_of_none id live]; exact s.raised_refl, by simp⟩
  | some tr => exact ⟨_, s.raised_settle id tr live, s.isStoreNews_releaseNews _ _ _ _⟩

/-- Whatever the state of a traverse, its abort leaves the owners and raises at most news of the store. -/
theorem State.abortTraverse_frame (s : State) (id : Nat) :
    s.ownersKept (s.abortTraverse id)
      ∧ ∃ es, s.raised (s.abortTraverse id) es ∧ ∀ e ∈ es, e.isStoreNews = true := by
  have nothing : s.ownersKept s ∧ ∃ es, s.raised s es ∧ ∀ e ∈ es, e.isStoreNews = true :=
    ⟨s.ownersKept_of_store s rfl, [], s.raised_refl, by simp⟩
  have settled : ∀ (m : State) (es : List Event), s.ownersKept m → s.raised m es →
      (∀ e ∈ es, e.isStoreNews = true) →
      s.ownersKept (m.settle id) ∧ ∃ es, s.raised (m.settle id) es ∧ ∀ e ∈ es, e.isStoreNews = true := by
    intro m es kept news all
    obtain ⟨fs, more, allMore⟩ := m.settle_news id
    refine ⟨State.ownersKept_trans _ _ _ kept (m.ownersKept_settle id), es ++ fs,
      State.raised_trans _ _ _ _ _ news more, fun e he => ?_⟩
    exact (List.mem_append.1 he).elim (all e) (allMore e)
  cases live : s.trav? id with
  | none =>
    have same : s.abortTraverse id = s := by simp only [State.abortTraverse, live]
    rw [same]
    exact nothing
  | some tr =>
    by_cases pull : tr.state = .recording ∨ tr.state = .paused ∨ tr.state = .finishing
    · let f : Traverse → Traverse := fun t => { t with state := .aborted, endTime := some s.time }
      let s1 := s.modTrav id f
      let waiting := ((s.store.lanes.get tr.channel).filter fun e => e.traverse == id).length
      have done : s.abortTraverse id = (s1.returnReservation id waiting).settle id := by
        simp only [State.abortTraverse, live]
        rcases pull with h | h | h <;> rw [h]
      have live1 : s1.trav? id = some (f tr) := s.trav_modTrav_self id f tr (fun _ => rfl) live
      obtain ⟨own, others, es, news, all⟩ := s1.returnReservation_does id waiting (f tr) live1
      rw [done]
      refine settled _ es (State.ownersKept_trans _ s1 _ (s.ownersKept_modTrav id f (fun _ => rfl) fun _ => rfl) ?_)
        (State.raised_after _ s1 _ _ (s.raised_of_eq _ rfl rfl rfl) news) all
      intro n u hu
      by_cases same : n = id
      · subst same
        obtain rfl := Option.some.inj (own.symm.trans hu)
        exact ⟨_, live1, rfl⟩
      · exact ⟨u, (others n same).symm.trans hu, rfl⟩
    · by_cases complete : tr.state = .complete ∧ tr.target.kind = .calibration
      · let f : Traverse → Traverse := fun t => { t with state := .aborted }
        have done : s.abortTraverse id = (s.modTrav id f).settle id := by
          simp only [State.abortTraverse, live, complete]
          rfl
        rw [done]
        exact settled _ [] (s.ownersKept_modTrav id f (fun _ => rfl) fun _ => rfl) (s.raised_of_eq _ rfl rfl rfl) (by simp)
      · have same : s.abortTraverse id = s := by
          simp only [State.abortTraverse, live]
          cases state : tr.state <;> simp_all
        rw [same]
        exact nothing

/-- A COMPLETE calibration traverse aborted keeps its end time, is settled, and is released where it was archived and
nothing keeps it (R72, R83, R84). -/
theorem State.abortTraverse_complete (s : State) (id : Nat) (tr : Traverse) (live : s.trav? id = some tr)
    (complete : tr.state = .complete) (kind : tr.target.kind = .calibration) :
    let t := s.abortTraverse id
    s.goesOrStays t id tr tr.freedBySettling (fun u =>
        u.state = .aborted ∧ u.endTime = tr.endTime ∧ tr.settledTo u)
      ∧ s.raised t (s.releaseNews t id tr tr.freedBySettling) := by
  intro t
  let f : Traverse → Traverse := fun t => { t with state := .aborted }
  let s1 := s.modTrav id f
  have done : t = s1.settle id := by
    simp only [t, State.abortTraverse, live, complete, kind]
    rfl
  have live1 : s1.trav? id = some (f tr) := s.trav_modTrav_self id f tr (fun _ => rfl) live
  obtain ⟨⟨others, reserved, goes, stays⟩, _⟩ := s1.settle_goesOrStays id (f tr) live1
  rw [done]
  refine ⟨⟨fun n hn => (others n hn).trans (s.trav_modTrav_other id n f (fun _ => rfl) hn), reserved, goes,
    fun kept => ?_⟩, State.raised_after _ s1 _ _ (s.raised_of_eq _ rfl rfl rfl) (s1.raised_settle id (f tr) live1)⟩
  obtain ⟨pool, low, u, hu, p, rfl, settled⟩ := stays kept
  exact ⟨pool, low, _, hu, rfl, rfl, settled⟩

/-- The pages of a channel's work ended and its traverse aborted. -/
def State.endPages (s : State) (ch : Chan) (id : Nat) : State := (s.finalPage ch id true).abortTraverse id

theorem State.endPages_frame (s : State) (ch : Chan) (id : Nat) :
    s.ownersKept (s.endPages ch id)
      ∧ (∃ es, s.raised (s.endPages ch id) es ∧ ∀ e ∈ es, e.isStoreNews = true)
      ∧ (∃ a b, (s.endPages ch id).channels = s.channels.set ch { s.chan ch with bufA := a, bufB := b })
      ∧ (s.endPages ch id).session = s.session ∧ (s.endPages ch id).cal = s.cal
      ∧ (s.endPages ch id).comparisons = s.comparisons ∧ (s.endPages ch id).config = s.config := by
  unfold State.endPages
  obtain ⟨_, stations, a, b, channels⟩ := s.finalPage_does ch id true
  obtain ⟨owners, es, news, all⟩ := (s.finalPage ch id true).abortTraverse_frame id
  refine ⟨State.ownersKept_trans _ _ _ (s.ownersKept_finalPage ch id true) owners, ⟨es, ?_, all⟩,
    ⟨a, b, (State.channels_abortTraverse _ id).trans channels⟩, by simp, by simp, by simp, by simp⟩
  exact State.raised_after _ _ _ _ (s.raised_of_eq _ stations (by simp) (by simp)) news

/-- The pages of a COMPLETE calibration traverse, with no sample of it left in a buffer. -/
theorem State.endPages_complete (s : State) (ch : Chan) (id : Nat) (tr : Traverse) (live : s.trav? id = some tr)
    (complete : tr.state = .complete) (kind : tr.target.kind = .calibration)
    (a : (s.chan ch).bufA.pendingFor id = false) (b : (s.chan ch).bufB.pendingFor id = false) :
    let t := s.endPages ch id
    s.goesOrStays t id tr tr.freedBySettling (fun u =>
        u.state = .aborted ∧ u.endTime = tr.endTime ∧ tr.settledTo u)
      ∧ s.raised t (s.releaseNews t id tr tr.freedBySettling) := by
  intro t
  let m := s.finalPage ch id true
  have marked := s.finalPage_marks ch id true a b
  have live1 : m.trav? id = some tr := by
    simp only [m, marked]
    exact live
  have done := m.abortTraverse_complete id tr live1 complete kind
  have quiet : s.raised m [] := by
    simp only [m, marked]
    exact s.raised_of_eq _ rfl rfl rfl
  simp only [m, marked] at done quiet
  obtain ⟨goes, news⟩ := done
  have same : t = _ := congrArg (State.abortTraverse · id) marked
  rw [same]
  exact ⟨goes, State.raised_after _ _ _ _ quiet news⟩

/-- The pages of a traverse that is FINISHING, or COMPLETE of a calibration, and not archived: it is ABORTED and
settled. -/
theorem State.endPages_aborts (s : State) (ch : Chan) (id : Nat) (tr : Traverse) (live : s.trav? id = some tr)
    (state : tr.state = .finishing ∨ tr.state = .complete ∧ tr.target.kind = .calibration)
    (kept : tr.archived = false) :
    ∃ u, (s.endPages ch id).trav? id = some u ∧ u.state = .aborted ∧ u.settled = true := by
  rcases state with finishing | ⟨complete, kind⟩
  · obtain ⟨⟨v, live1, entry⟩, _⟩ := s.abortPages_does ch id tr live (.inr (.inr finishing)) kept
    exact ⟨v, live1, (congrArg Traverse.state entry :), (congrArg Traverse.settled entry :)⟩
  · obtain ⟨v, live1, entry⟩ := s.finalPage_trav ch id true tr live
    have archived : v.archived = false := (congrArg Traverse.archived entry :).trans kept
    have freed : v.freedBySettling = false := by simp [Traverse.freedBySettling, archived]
    obtain ⟨⟨_, _, _, stays⟩, _⟩ := (s.finalPage ch id true).abortTraverse_complete id v live1
      ((congrArg Traverse.state entry :).trans complete)
      ((congrArg (fun t : Traverse => t.target.kind) entry :).trans kind)
    obtain ⟨_, _, u, hu, aborted, _, settled, _⟩ := stays freed
    exact ⟨u, hu, aborted, settled⟩

end Sys2Proof.Machine
end

section
namespace Sys2Proof.Machine

/-! What every end of a channel's work leaves (R55, R59, R60). -/

/-- What the end of a channel's work leaves of the channel. -/
structure Channel.leavesWork (c d : Channel) : Prop where
  state : d.state = c.state
  identity : d.identity = c.identity
  permit : d.permit = c.permit
  silence : d.silenceMs = c.silenceMs
  claimDue : c.claimDue = none → d.claimDue = none
  pauseDue : c.pauseDue = none → d.pauseDue = none
  reports : ∀ id ∈ d.reports, c.traverse = some id ∨ id ∈ c.reports
  sent : c.sent <+: d.sent
  quiet : c.state = .offline → d.sent = c.sent

/-- What the end of the work of channel `ch` leaves of the state. -/
structure State.endsWork (s t : State) (ch : Chan) : Prop where
  channel : (s.chan ch).leavesWork (t.chan ch)
  others : ∀ k, k ≠ ch → t.chan k = s.chan k
  attempts : ∀ k, k ≠ ch → t.attempt? k = s.attempt? k
  brackets : t.cal.brackets = s.cal.brackets
  log : t.cal.log = s.cal.log
  comparisons : t.comparisons = s.comparisons
  config : t.config = s.config
  owners : s.ownersKept t

theorem Channel.leavesWork_refl (c : Channel) : c.leavesWork c :=
  ⟨rfl, rfl, rfl, rfl, id, id, fun _ => .inr, List.prefix_refl _, fun _ => rfl⟩

theorem State.endsWork_refl (s : State) (ch : Chan) : s.endsWork s ch :=
  ⟨(s.chan ch).leavesWork_refl, fun _ _ => rfl, fun _ _ => rfl, rfl, rfl, rfl, rfl, s.ownersKept_of_store s rfl⟩

theorem State.attempt?_of_cal (s t : State) (h : t.cal = s.cal) (k : Chan) : t.attempt? k = s.attempt? k := by
  unfold State.attempt?
  rw [h]

theorem State.session_of_tube (s : State) (p : Pos) (e : TubeEntry) (h : s.tube? p = some e) :
    ∃ x, s.session = some x := by
  cases hx : s.session with
  | none => simp [State.tube?, State.tubes, hx] at h
  | some x => exact ⟨x, rfl⟩

/-! A claim before its pull (R26). -/

/-- The end of a claim, with or without a tube for it. -/
theorem State.endClaim_frame (s : State) (ch : Chan) (restriction : Bool) :
    s.endsWork (s.endClaim ch restriction) ch ∧ ∃ es, s.raised (s.endClaim ch restriction) es := by
  cases claim : (s.chan ch).claim with
  | none =>
    have same : s.endClaim ch restriction = s := by simp only [State.endClaim, claim]
    rw [same]
    exact ⟨s.endsWork_refl ch, [], s.raised_refl⟩
  | some p =>
    let back := if restriction then TubeState.restricted else ((s.tube? p).bind (·.preClaim)).getD .pending
    let s1 := s.moveTube p back fun t =>
      { t with preClaim := none, holder := none, cause := if back = .retest then t.cause else none }
    have done : s.endClaim ch restriction = s1.unreserve.modChan ch fun c =>
        { c with claim := none, claimDue := none } := by
      simp only [State.endClaim, claim]
      rfl
    have chan : ∀ k, s1.unreserve.chan k = s.chan k := fun k => by simp [s1, State.chan]
    let s2 := s1.modStore fun x =>
      { x with reservedSlots := x.reservedSlots - 1, reservedPages := x.reservedPages - Config.reservation }
    obtain ⟨es, news, _⟩ := s2.raised_watchStore
    have told : s1.raised s1.unreserve es := State.raised_after _ s2 _ _ (s1.raised_of_eq _ rfl rfl rfl) news
    rw [done]
    refine ⟨⟨?_, fun k hk => ?_, fun k _ => State.attempt?_of_cal _ _ (by simp [s1]) k, by simp [s1], by simp [s1],
      by simp [s1], by simp [s1], fun n u hu => ?_⟩, es, ?_⟩
    · rw [State.chan_modChan_self, chan]
      exact ⟨rfl, rfl, rfl, rfl, fun _ => rfl, id, fun _ => .inr, List.prefix_refl _, fun _ => rfl⟩
    · rw [State.chan_modChan_other _ _ _ _ hk, chan]
    · refine ⟨u, ?_, rfl⟩
      rw [← hu]
      unfold State.trav?
      rw [State.store_modChan, State.store_unreserve]
      simp [s1]
    · exact State.raised_before _ s1.unreserve _ _ (State.raised_after _ s1 _ _ (s.raised_moveTube p back _) told)
        (State.raised_modChan _ ch _)

/-- A claim ended as a release: the reservation returns and the tube is in its state of before (R26). -/
theorem State.endClaim_releases (s : State) (ch : Chan) (p : Pos) (e : TubeEntry) (old : TubeState)
    (hp : (s.chan ch).claim = some p) (he : s.tube? p = some e) (hold : e.preClaim = some old) :
    let t := s.endClaim ch false
    (t.chan ch).claim = none ∧ t.store.reservedSlots = s.store.reservedSlots - 1
      ∧ t.store.reservedPages = s.store.reservedPages - 1171
      ∧ ∃ e', t.tube? p = some e' ∧ e'.state = old ∧ e'.attempts = e.attempts := by
  intro t
  obtain ⟨x, hx⟩ := s.session_of_tube p e he
  let f : TubeEntry → TubeEntry := fun t =>
    { t with preClaim := none, holder := none, cause := if old = .retest then t.cause else none }
  have done : t = (s.moveTube p old f).unreserve.modChan ch fun c => { c with claim := none, claimDue := none } :=
    s.endClaim_eq ch false p e old hp he hold
  have entry := s.tube?_moveTube p old f x e hx he
  rw [done]
  refine ⟨by rw [State.chan_modChan_self], ?_, ?_, { f e with pos := p, state := old, changed := x.seconds }, ?_,
    rfl, rfl⟩
  · rw [State.store_modChan, State.store_unreserve]
    simp
  · rw [State.store_modChan, State.store_unreserve]
    simp
  · rw [← entry]
    exact State.tube?_of_session _ _ (by simp) p

/-! A pull (R30, R72). -/

/-- The tube of an aborted pull that is not restricted (R30). -/
theorem State.abortTube_retests (s : State) (p : Pos) (e : TubeEntry) (he : s.tube? p = some e) :
    let t := s.abortTube p false
    s.raised t [.tubeRetest p .abort e.attempts]
      ∧ ∃ e', t.tube? p = some e' ∧ e'.state = .retest ∧ e'.cause = some .abort := by
  intro t
  obtain ⟨x, hx⟩ := s.session_of_tube p e he
  obtain ⟨_, news⟩ := s.abortTube_does p false x e hx he
  let f : TubeEntry → TubeEntry := fun t => { t with preClaim := none, holder := none, cause := some RetestCause.abort }
  have entry := s.tube?_moveTube p .retest f x e hx he
  exact ⟨news, _, (State.tube?_of_session _ _ (State.session_raiseRetest _ p) p).trans entry, rfl, rfl⟩

theorem State.abortTube_news (s : State) (p : Pos) :
    ∃ es, s.raised (s.abortTube p false) es
      ∧ ∀ e, s.tube? p = some e → es = [.tubeRetest p .abort e.attempts] := by
  cases he : s.tube? p with
  | none =>
    have same : s.abortTube p false = s := by
      have still : s.moveTube p .retest (fun t =>
          { t with preClaim := none, holder := none, cause := some .abort }) = s := by
        simp only [State.moveTube, he]
      simp only [State.abortTube, Bool.false_eq_true, if_false, still, State.raiseRetest, he]
    exact ⟨[], by rw [same]; exact s.raised_refl, by simp⟩
  | some e =>
    refine ⟨_, (s.abortTube_retests p e he).1, fun e' he' => ?_⟩
    obtain rfl := Option.some.inj he'
    rfl

/-- The channel of an aborted pull, before it comes to rest, whether or not the abort is to be reported. -/
def Channel.leavePull (c : Channel) (id : Nat) (report : Bool) : Channel :=
  { c with claim := none, claimDue := none, pauseDue := none, traverse := none, expect := none
           pendingLost := false, screen := c.screen.discard id
           reports := if report then c.reports ++ [id] else c.reports }

theorem State.abortPull_eq (s : State) (ch : Chan) (restriction report : Bool) (id : Nat) (p : Pos)
    (has : (s.chan ch).traverse = some id) (hp : (s.chan ch).claim = some p) :
    s.abortPull ch restriction report =
      ((s.endPages ch id).modChan ch (·.leavePull id report)).abortTube p restriction := by
  simp only [State.abortPull, has, hp]
  rfl

/-- The channel and the tube of a pull whose pages have ended (R30). -/
theorem State.leavePull_frame (m : State) (ch : Chan) (p : Pos) (id : Nat) (report : Bool) :
    let t := (m.modChan ch (·.leavePull id report)).abortTube p false
    t.store = m.store ∧ t.channels = m.channels.set ch ((m.chan ch).leavePull id report) ∧ t.cal = m.cal
      ∧ t.comparisons = m.comparisons ∧ t.config = m.config
      ∧ ∃ es, m.raised t es ∧ ∀ e, m.tube? p = some e → es = [.tubeRetest p .abort e.attempts] := by
  intro t
  obtain ⟨es, told, which⟩ := (m.modChan ch (·.leavePull id report)).abortTube_news p
  refine ⟨by simp [t], by simp [t], by simp [t], by simp [t], by simp [t], es,
    State.raised_after _ _ _ _ (m.raised_modChan ch (·.leavePull id report)) told, which⟩

/-- An aborted pull, whatever is in hand (R30, R72). -/
theorem State.abortPull_frame (s : State) (ch : Chan) (report : Bool) :
    let t := s.abortPull ch false report
    s.endsWork t ch
      ∧ (∀ id, (s.chan ch).traverse = some id → (s.chan ch).claim ≠ none →
          t.store = (s.endPages ch id).store
          ∧ ∃ a b, t.chan ch = ({ s.chan ch with bufA := a, bufB := b } : Channel).leavePull id report)
      ∧ ∃ es, s.raised t es
          ∧ ∀ p e id, (s.chan ch).claim = some p → s.tube? p = some e → (s.chan ch).traverse = some id →
              es.filter Event.isRetest = [.tubeRetest p .abort e.attempts] := by
  intro t
  cases has : (s.chan ch).traverse with
  | none =>
    have same : t = s := by simp only [t, State.abortPull, has]
    rw [same]
    exact ⟨s.endsWork_refl ch, fun _ no => absurd no (by simp), [], s.raised_refl,
      fun _ _ _ _ _ no => absurd no (by simp)⟩
  | some id =>
    cases hp : (s.chan ch).claim with
    | none =>
      have same : t = s := by simp only [t, State.abortPull, has, hp]
      rw [same]
      exact ⟨s.endsWork_refl ch, fun _ _ no => absurd rfl no, [], s.raised_refl, fun _ _ _ no => absurd no (by simp)⟩
    | some p =>
      have done : t = _ := s.abortPull_eq ch false report id p has hp
      obtain ⟨owners, ⟨es, news, all⟩, ⟨a, b, channels⟩, session, cal, comparisons, config⟩ := s.endPages_frame ch id
      rw [done]
      have endPages : ∀ id', some id = some id' → (s.endPages ch id').store = (s.endPages ch id).store := by
        intro id' same
        rw [Option.some.inj same]
      generalize s.endPages ch id = m at *
      obtain ⟨store', channels', cal', comparisons', config', fs, told, which⟩ := m.leavePull_frame ch p id report
      generalize (m.modChan ch (·.leavePull id report)).abortTube p false = v at *
      have chanM : m.chan ch = { s.chan ch with bufA := a, bufB := b } := by rw [State.chan, channels, Four.get_set_self]
      have chan : v.chan ch = ({ s.chan ch with bufA := a, bufB := b } : Channel).leavePull id report := by
        rw [State.chan, channels', Four.get_set_self, chanM]
      have calV := cal'.trans cal
      refine ⟨⟨?_, fun k hk => ?_, fun k _ => State.attempt?_of_cal _ _ calV k, by rw [calV], by rw [calV],
        comparisons'.trans comparisons, config'.trans config,
        State.ownersKept_trans _ _ _ owners (m.ownersKept_of_store v store')⟩, ?_,
        es ++ fs, State.raised_trans _ m _ _ _ news told, ?_⟩
      · rw [chan]
        refine ⟨rfl, rfl, rfl, rfl, fun _ => rfl, fun _ => rfl, fun n hn => ?_, List.prefix_refl _, fun _ => rfl⟩
        cases report with
        | false => exact .inr hn
        | true => exact (List.mem_append.1 hn).elim .inr fun new => .inl (by rw [has, List.mem_singleton.1 new])
      · rw [State.chan, channels', Four.get_set_other _ _ _ _ hk, channels]
        exact Four.get_set_other _ _ _ _ hk
      · intro id' has' _
        obtain rfl := Option.some.inj has'
        exact ⟨store'.trans (endPages id rfl).symm, a, b, chan⟩
      · intro p' e id' hp' he _
        obtain rfl := Option.some.inj hp'
        rw [List.filter_append, filter_isRetest_storeNews es all,
          which e ((State.tube?_of_session s m session p).trans he)]
        rfl

/-- A pull in hand aborted: its traverse ABORTED, its tube in RETEST (R30, R72). -/
theorem State.abortPull_aborts (s : State) (ch : Chan) (report : Bool) (tr : Traverse) (p : Pos) (e : TubeEntry)
    (hand : s.inHand? ch = some tr) (hp : (s.chan ch).claim = some p) (he : s.tube? p = some e)
    (pull : tr.state = .recording ∨ tr.state = .paused ∨ tr.state = .finishing) (kept : tr.archived = false) :
    let t := s.abortPull ch false report
    (t.chan ch).claim = none ∧ (t.chan ch).traverse = none
      ∧ (t.chan ch).reports = (if report then (s.chan ch).reports ++ [tr.id] else (s.chan ch).reports)
      ∧ (∃ e', t.tube? p = some e' ∧ e'.state = .retest ∧ e'.cause = some .abort)
      ∧ ∃ tr', t.trav? tr.id = some tr'
          ∧ tr'.unpaged = tr.abortedAt s.time (if (s.chan ch).pendingFor tr.id = true then 1 else 0) := by
  intro t
  obtain ⟨id, has, live⟩ := Option.bind_eq_some_iff.1 hand
  obtain rfl := s.trav_id id tr live
  obtain ⟨_, leaves, _⟩ := s.abortPull_frame ch report
  obtain ⟨store, a, b, chan⟩ := leaves tr.id has (by simp [hp])
  obtain ⟨⟨v, live', entry⟩, _⟩ := s.abortPages_does ch tr.id tr live pull kept
  let m1 := (s.endPages ch tr.id).modChan ch (·.leavePull tr.id report)
  have session : m1.session = s.session := (s.endPages_frame ch tr.id).2.2.2.1
  obtain ⟨_, e', he', state, cause⟩ := m1.abortTube_retests p e ((State.tube?_of_session s m1 session p).trans he)
  refine ⟨by rw [chan]; rfl, by rw [chan]; rfl, by rw [chan]; rfl, ⟨e', ?_, state, cause⟩, v,
    (State.trav?_of_store _ t store _).trans live', entry⟩
  rw [← he']
  exact congrArg (State.tube? · p) (s.abortPull_eq ch false report tr.id p has hp)

/-! A calibration attempt (R129). -/

/-- A channel that sends a frame where its link is up (R43). -/
def Channel.told (c : Channel) (f : ProbeOut) : Channel :=
  if c.state = .offline then c else { c with sent := c.sent ++ [f], quietMs := 0 }

/-- The channel of an aborted attempt, before CAL_RESULT. -/
def Channel.leaveAttempt (c : Channel) (id : Nat) : Channel :=
  { c with screen := c.screen.discard id, traverse := none, expect := none, pendingLost := false
           linkLossMark := false }

theorem Channel.told_keeps (c : Channel) (f : ProbeOut) :
    (c.told f).traverse = c.traverse ∧ (c.told f).linkLossMark = c.linkLossMark ∧ (c.told f).reports = c.reports
      ∧ (c.state = .offline → (c.told f).sent = c.sent)
      ∧ (c.state ≠ .offline → (c.told f).sent = c.sent ++ [f]) := by
  unfold Channel.told
  split
  · next off => exact ⟨rfl, rfl, rfl, fun _ => rfl, fun up => absurd off up⟩
  · next up => exact ⟨rfl, rfl, rfl, fun off => absurd off up, fun _ => rfl⟩

theorem Channel.leavesWork_told (c d : Channel) (f : ProbeOut) (h : c.leavesWork d) : c.leavesWork (d.told f) := by
  unfold Channel.told
  split
  · exact h
  · next up =>
    exact ⟨h.state, h.identity, h.permit, h.silence, h.claimDue, h.pauseDue, h.reports,
      h.sent.trans (List.prefix_append _ _), fun off => absurd (h.state.trans off) up⟩

/-- An attempt ended as ABORTED, whatever the state of its channel and its traverse (R129). -/
theorem State.abortCalibration_frame (s : State) (ch : Chan) (a : Attempt) (ha : s.attempt? ch = some a) :
    let t := s.abortCalibration ch
    s.endsWork t ch ∧ t.store = (s.endPages ch a.traverse).store ∧ t.attempt? ch = none
      ∧ (∃ bufA bufB, t.chan ch = (({ s.chan ch with bufA := bufA, bufB := bufB } : Channel).leaveAttempt
          a.traverse).told (.calResult a.traverse (.rejected .aborted)))
      ∧ t.session = s.session
      ∧ ∀ es, s.raised (s.endPages ch a.traverse) es → s.raised t (es ++ [.calRejected ch a.traverse .aborted]) := by
  intro t
  obtain ⟨owners, _, ⟨bufA, bufB, channels⟩, session, cal, comparisons, config⟩ := s.endPages_frame ch a.traverse
  let m := s.endPages ch a.traverse
  let m1 := (m.modChan ch (·.leaveAttempt a.traverse)).setAttempt ch none
  let m2 := m1.sendProbe ch (.calResult a.traverse (.rejected .aborted))
  have done : t = m2.raise (.calRejected ch a.traverse .aborted) := by
    simp only [t, State.abortCalibration, ha]
    rfl
  have chan1 : m1.chan ch = ({ s.chan ch with bufA := bufA, bufB := bufB } : Channel).leaveAttempt a.traverse := by
    refine (m.chan_modChan_self ch (·.leaveAttempt a.traverse)).trans ?_
    rw [State.chan, channels, Four.get_set_self]
  have chan : t.chan ch = (m1.chan ch).told (.calResult a.traverse (.rejected .aborted)) := by
    rw [done, State.chan_raise]
    exact m1.chan_modChan_self ch _
  rw [chan1] at chan
  have attempts : t.cal = { m.cal with attempts := m.cal.attempts.set ch none } := by
    rw [done]
    rfl
  rw [cal] at attempts
  refine ⟨⟨?_, fun k hk => ?_, fun k hk => ?_, by rw [attempts], by rw [attempts], ?_, ?_, ?_⟩, ?_, ?_,
    ⟨bufA, bufB, chan⟩, ?_, fun es news => ?_⟩
  · rw [chan]
    exact Channel.leavesWork_told _ _ _ ⟨rfl, rfl, rfl, rfl, id, id, fun _ => .inr, List.prefix_refl _, fun _ => rfl⟩
  · rw [done, State.chan_raise, State.chan_sendProbe_other _ _ _ _ hk]
    refine (m.chan_modChan_other ch k (·.leaveAttempt a.traverse) hk).trans ?_
    rw [State.chan, channels]
    exact Four.get_set_other _ _ _ _ hk
  · unfold State.attempt?
    rw [attempts]
    exact Four.get_set_other _ _ _ _ hk
  · rw [done]
    exact comparisons
  · rw [done]
    exact config
  · exact State.ownersKept_trans _ m _ owners (m.ownersKept_of_store _ (by rw [done]; rfl))
  · rw [done]
    rfl
  · unfold State.attempt?
    rw [attempts]
    exact Four.get_set_self _ _ _
  · rw [done]
    exact session
  · rw [done]
    refine State.raised_trans _ m _ _ _ news (State.raised_after _ m2 _ _ ?_ (m2.raised_raise _))
    exact m.raised_of_eq _ rfl rfl rfl

end Sys2Proof.Machine
end

section
namespace Sys2Proof.Machine

/-! The loss of a probe link (R59). -/

/-- A channel whose link is lost, its work still in hand. -/
def Channel.dropLink (c : Channel) : Channel :=
  { c with state := .offline, silenceMs := 0, quietMs := 0, identity := none, permit := none
           claimDue := none, pauseDue := none }

/-- The state once a link is lost, before the work in hand is dealt with. -/
def State.linkDown (s : State) (ch : Chan) : State :=
  (s.modChan ch (·.dropLink)).raise (.channelChange ch .offline none)

theorem State.loseLink_eq (s : State) (ch : Chan) :
    s.loseLink ch = ((s.linkDown ch).loseWork ch (s.chan ch).state).setCalDue ch .link := rfl

theorem State.chan_linkDown (s : State) (ch : Chan) :
    (s.linkDown ch).chan ch = (s.chan ch).dropLink ∧ ∀ k, k ≠ ch → (s.linkDown ch).chan k = s.chan k :=
  ⟨s.chan_modChan_self ch (·.dropLink), fun k hk => s.chan_modChan_other ch k (·.dropLink) hk⟩

theorem State.raised_linkDown (s : State) (ch : Chan) : s.raised (s.linkDown ch) [.channelChange ch .offline none] :=
  State.raised_after _ _ _ _ (s.raised_modChan ch (·.dropLink)) (State.raised_raise _ _)

/-- The cal_due flag of a channel that is not READY (R49, R134). -/
theorem State.setCalDue_busy (s : State) (ch : Chan) (cause : CalDue) (busy : (s.chan ch).state ≠ .ready) :
    let t := s.setCalDue ch cause
    t.openBracket ch = (s.openBracket ch).map (fun b => { b with calDue := some (b.calDue.getD cause) })
      ∧ t.channels = s.channels ∧ t.cal.attempts = s.cal.attempts ∧ t.cal.log = s.cal.log ∧ s.raised t [] := by
  intro t
  cases opened : s.openBracket ch with
  | none =>
    have same : t = s := by simp only [t, State.setCalDue, opened]
    rw [same]
    exact ⟨opened, rfl, rfl, rfl, s.raised_refl⟩
  | some b =>
    cases flag : b.calDue with
    | some c =>
      have same : t = s := by
        simp only [t, State.setCalDue, opened, flag]
        rfl
      rw [same, opened, Option.map_some, flag, Option.getD_some, ← flag]
      exact ⟨rfl, rfl, rfl, rfl, s.raised_refl⟩
    | none =>
      let f : Bracket → Bracket := fun b => { b with calDue := some cause }
      have done : t = s.modBracket b.number f := by
        simp only [t, State.setCalDue, opened, flag]
        exact if_neg busy
      rw [done]
      refine ⟨?_, rfl, rfl, rfl, s.raised_modBracket _ _⟩
      rw [s.openBracket_modBracket b.number ch f (fun _ => rfl) (fun _ => rfl), opened, Option.map_some, if_pos rfl,
        Option.map_some, flag]
      rfl

/-- An evaluation goes on under the link-loss mark (R59). -/
theorem State.loseWork_evaluating (s : State) (ch : Chan) :
    s.loseWork ch .evaluating = s.modChan ch fun c => { c with linkLossMark := true, traverse := none } := rfl

/-- The work in hand at a link loss, whatever it is (R59). -/
theorem State.loseWork_frame (s : State) (ch : Chan) (was : ChanState) :
    let t := s.loseWork ch was
    s.endsWork t ch ∧ ∃ es, s.raised t es
      ∧ (was = .recording ∨ was = .paused → ∀ p e id, (s.chan ch).claim = some p → s.tube? p = some e →
          (s.chan ch).traverse = some id → es.filter Event.isRetest = [.tubeRetest p .abort e.attempts]) := by
  intro t
  have nothing : t = s → s.endsWork t ch ∧ ∃ es, s.raised t es := fun same => by
    rw [same]
    exact ⟨s.endsWork_refl ch, [], s.raised_refl⟩
  have quiet : ¬(was = .recording ∨ was = .paused) → (s.endsWork t ch ∧ ∃ es, s.raised t es) →
      s.endsWork t ch ∧ ∃ es, s.raised t es
        ∧ (was = .recording ∨ was = .paused → ∀ p e id, (s.chan ch).claim = some p → s.tube? p = some e →
          (s.chan ch).traverse = some id → es.filter Event.isRetest = [.tubeRetest p .abort e.attempts]) :=
    fun no ⟨ends, es, news⟩ => ⟨ends, es, news, fun yes => absurd yes no⟩
  have pull : t = s.abortPull ch false false → s.endsWork t ch ∧ ∃ es, s.raised t es
        ∧ (was = .recording ∨ was = .paused → ∀ p e id, (s.chan ch).claim = some p → s.tube? p = some e →
          (s.chan ch).traverse = some id → es.filter Event.isRetest = [.tubeRetest p .abort e.attempts]) := by
    intro same
    obtain ⟨ends, _, es, news, which⟩ := s.abortPull_frame ch false
    rw [same]
    exact ⟨ends, es, news, fun _ => which⟩
  cases was with
  | claimed => exact quiet (by simp) (s.endClaim_frame ch false)
  | recording => exact pull rfl
  | paused => exact pull rfl
  | calibrating =>
    refine quiet (by simp) ?_
    cases ha : s.attempt? ch with
    | none => exact nothing (by simp only [t, State.loseWork, State.abortCalibration, ha])
    | some a =>
      obtain ⟨ends, _, _, _, _, news⟩ := s.abortCalibration_frame ch a ha
      obtain ⟨_, ⟨es, told, _⟩, _⟩ := s.endPages_frame ch a.traverse
      exact ⟨ends, _, news es told⟩
  | evaluating =>
    refine quiet (by simp) ⟨⟨?_, fun k hk => s.chan_modChan_other ch k _ hk, fun _ _ => rfl, rfl, rfl, rfl, rfl,
      s.ownersKept_of_store _ rfl⟩, [], s.raised_modChan ch _⟩
    simp only [t, State.loseWork_evaluating, State.chan_modChan_self]
    exact ⟨rfl, rfl, rfl, rfl, id, id, fun _ => .inr, List.prefix_refl _, fun _ => rfl⟩
  | offline => exact quiet (by simp) (nothing rfl)
  | needsCal => exact quiet (by simp) (nothing rfl)
  | ready => exact quiet (by simp) (nothing rfl)
  | due => exact quiet (by simp) (nothing rfl)

/-- An act that changes nothing, in reset or not. -/
theorem State.act_same (s : State) (f : State → State) (h : f s = s) : s.act f = .next s := by
  unfold State.act
  split
  · rfl
  · rw [h]

theorem execProbeLinkLoss_up (ch : Chan) (s : State) (up : s.probeUp ch) :
    exec (.probeLinkLoss ch) s = .next (s.loseLink ch) := by
  simp only [exec, execProbeLinkLoss, s.act_awake _ up.1]
  rw [if_neg up.2]

theorem execProbeLinkLoss_offline (ch : Chan) (s : State) (off : (s.chan ch).state = .offline) :
    exec (.probeLinkLoss ch) s = .next s := by
  simp only [exec, execProbeLinkLoss]
  exact s.act_same _ (if_pos off)

theorem execProbeIdleSend_up (ch : Chan) (s : State) (up : s.probeUp ch) :
    exec (.probeIdleSend ch) s = .next (s.sentOn ch .idle) := by
  simp only [exec, execProbeIdleSend, s.act_awake _ up.1, s.sendProbe_up ch .idle up.2]

theorem execProbeIdleSend_offline (ch : Chan) (s : State) (off : (s.chan ch).state = .offline) :
    exec (.probeIdleSend ch) s = .next s := by
  simp only [exec, execProbeIdleSend]
  exact s.act_same _ (s.modChan_of_same ch _ (if_pos off))

/-- The loss of a link: what it leaves of the state, whatever the work in hand (R59). -/
theorem State.loseLink_frame (s : State) (ch : Chan) :
    let w := (s.linkDown ch).loseWork ch (s.chan ch).state
    let t := s.loseLink ch
    t.openBracket ch = (s.openBracket ch).map (fun b => { b with calDue := some (b.calDue.getD .link) })
      ∧ t.channels = w.channels ∧ t.store = w.store ∧ t.session = w.session ∧ t.cal.attempts = w.cal.attempts
      ∧ t.cal.log = s.cal.log ∧ t.comparisons = s.comparisons ∧ t.config = s.config
      ∧ (s.linkDown ch).endsWork w ch
      ∧ ∃ es, s.raised t (.channelChange ch .offline none :: es)
          ∧ ((s.chan ch).state = .recording ∨ (s.chan ch).state = .paused →
              ∀ p e id, (s.chan ch).claim = some p → s.tube? p = some e → (s.chan ch).traverse = some id →
                es.filter Event.isRetest = [.tubeRetest p .abort e.attempts]) := by
  intro w t
  let d := s.linkDown ch
  obtain ⟨ends, es, news, which⟩ := d.loseWork_frame ch (s.chan ch).state
  have down := (s.chan_linkDown ch).1
  have off : (w.chan ch).state = .offline := ends.channel.state.trans (by rw [down]; rfl)
  obtain ⟨opened, channels, attempts, log, quiet⟩ := w.setCalDue_busy ch .link (by rw [off]; decide)
  have brackets : w.openBracket ch = s.openBracket ch := by
    unfold State.openBracket
    rw [ends.brackets]
    rfl
  refine ⟨by rw [← brackets]; exact opened, channels, w.store_setCalDue ch .link, w.session_setCalDue ch .link,
    attempts, log.trans ends.log, (w.comparisons_setCalDue ch .link).trans ends.comparisons,
    (w.config_setCalDue ch .link).trans ends.config, ends, es, ?_, fun working p e id hp he has => ?_⟩
  · exact State.raised_before _ _ _ _ (State.raised_trans _ _ _ _ _ (s.raised_linkDown ch) news) quiet
  · exact which working p e id (by rw [down]; exact hp) he (by rw [down]; exact has)

/-- Settles O41: `State.loseLink_frame` for what every loss leaves, and the end of the work in hand by the state the
channel was in. -/
theorem linkLossTakesTheChannelOffline : Obligations.LinkLossTakesTheChannelOffline := by
  refine ⟨fun ch s up _ => ?_, fun ch s => ⟨fun up => execProbeIdleSend_up ch s up, fun off =>
    ⟨execProbeIdleSend_offline ch s off, execProbeLinkLoss_offline ch s off⟩⟩⟩
  obtain ⟨opened, channels, store, session, attempts, log, comparisons, config, ends, es, news, which⟩ :=
    s.loseLink_frame ch
  obtain ⟨down, others⟩ := s.chan_linkDown ch
  let d := s.linkDown ch
  let t := s.loseLink ch
  have chan : ∀ k, t.chan k = (d.loseWork ch (s.chan ch).state).chan k := fun k => congrArg (Four.get · k) channels
  have attempt : ∀ k, t.attempt? k = (d.loseWork ch (s.chan ch).state).attempt? k := fun k =>
    congrArg (Four.get · k) attempts
  have left := ends.channel
  rw [down, ← chan] at left
  refine ⟨t, execProbeLinkLoss_up ch s up, left.state, left.identity, left.permit, left.silence, left.claimDue rfl,
    left.pauseDue rfl, left.quiet rfl, opened, log, fun claimed p e old hp he _ hold => ?_,
    fun working p e tr hp he hand kept pull => ?_, fun calibrating => ?_, fun evaluating => ?_,
    ⟨_, news.1, rfl, fun working p e tr hp he hand _ _ => ?_⟩, fun k hk => ⟨?_, ?_⟩, comparisons, config⟩
  · rw [claimed] at chan store session
    obtain ⟨claim, _, pages, e', he', state, count⟩ := d.endClaim_releases ch p e old (by rw [down]; exact hp) he hold
    exact ⟨by rw [chan]; exact claim, by rw [store]; exact pages, e', (State.tube?_of_session _ t session p).trans he',
      state, count⟩
  · have lost : d.loseWork ch (s.chan ch).state = d.abortPull ch false false := by
      rcases working with h | h <;> rw [h] <;> rfl
    rw [lost] at chan store session
    obtain ⟨claim, traverse, reports, ⟨e', he', state, cause⟩, tr', live, entry⟩ :=
      d.abortPull_aborts ch false tr p e (by rw [State.inHand?, down]; exact hand) (by rw [down]; exact hp) he pull kept
    rw [down] at reports
    exact ⟨by rw [chan]; exact claim, by rw [chan]; exact reports, by rw [chan]; exact traverse,
      ⟨e', (State.tube?_of_session _ t session p).trans he', state, cause⟩,
      tr', (State.trav?_of_store _ t store _).trans live, (congrArg Traverse.state entry :),
      (congrArg Traverse.settled entry :)⟩
  · rw [attempt, calibrating]
    cases ha : d.attempt? ch with
    | none =>
      have same : d.abortCalibration ch = d := by simp only [State.abortCalibration, ha]
      exact (congrArg (State.attempt? · ch) same).trans ha
    | some a => exact (d.abortCalibration_frame ch a ha).2.2.1
  · rw [attempt, chan, evaluating, d.loseWork_evaluating, State.chan_modChan_self]
    exact ⟨rfl, rfl⟩
  · obtain ⟨id, has, _⟩ := Option.bind_eq_some_iff.1 hand
    exact which working p e id hp he has
  · rw [chan, ends.others k hk]
    exact others k hk
  · rw [attempt]
    exact ends.attempts k hk

end Sys2Proof.Machine
end

section
namespace Sys2Proof.Machine

/-! A bracket closed without a calibration (R138, R139). -/

/-- The bracket of number `n` as it closes (R137, R138). -/
def Bracket.closed (b : Bracket) (good : Bool) (cause : ClosingCause) (time : Nat) : Bracket :=
  { b with state := if good then .closedGood else .closedFail, cause := some cause, closedAt := some time
           sweep := .running, retests := some 0, toPresent := b.traverses }

theorem State.closeBracket_eq (s : State) (n : Nat) (good : Bool) (cause : ClosingCause) :
    s.closeBracket n good cause = s.modBracket n (·.closed good cause s.time) := rfl

/-- A channel whose open bracket is no longer open has none (R132). -/
theorem State.openBracket_shut (s : State) (ch : Chan) (b : Bracket) (f : Bracket → Bracket)
    (one : openBrackets s.cal.brackets ch ≤ 1) (hb : s.openBracket ch = some b)
    (shut : ∀ c, (f c).state ≠ .opened) : (s.modBracket b.number f).openBracket ch = none := by
  let isOpen : Bracket → Bool := fun c => decide (c.channel = ch ∧ c.state = .opened)
  obtain ⟨mem, channel, opened⟩ := s.openBracket_spec ch b hb
  have only : ∀ c ∈ s.cal.brackets, isOpen c = true → c = b := by
    intro c hc open_
    have memB : b ∈ s.cal.brackets.filter isOpen := List.mem_filter.2 ⟨mem, by simp [isOpen, channel, opened]⟩
    have memC : c ∈ s.cal.brackets.filter isOpen := List.mem_filter.2 ⟨hc, open_⟩
    obtain ⟨d, hd⟩ := List.length_eq_one_iff.1 (le_antisymm one (List.length_pos_of_mem memB))
    change s.cal.brackets.filter isOpen = [d] at hd
    rw [hd, List.mem_singleton] at memB memC
    rw [memB, memC]
  unfold State.openBracket
  refine List.find?_eq_none.2 fun c hc => ?_
  obtain ⟨c0, hc0, rfl⟩ := List.mem_map.1 hc
  by_cases same : c0.number = b.number
  · rw [if_pos same]
    simp [shut c0]
  · rw [if_neg same]
    intro open_
    exact same (by rw [only c0 hc0 open_])

/-- Two changes of a bracket that keep its number are one. -/
theorem State.modBracket_modBracket (s : State) (n : Nat) (f g : Bracket → Bracket)
    (hf : ∀ b, (f b).number = b.number) :
    (s.modBracket n f).modBracket n g = s.modBracket n fun b => g (f b) := by
  simp only [State.modBracket, State.modCal, List.map_map]
  congr 2
  refine List.map_congr_left fun b _ => ?_
  by_cases h : b.number = n
  · simp [h, hf]
  · simp [h]

/-- The bracket of a running sweep: DONE with no live traverse left, and carried past the dead ones else (R139). -/
theorem State.settleSweep_cases (s : State) (n : Nat) (b : Bracket) (hb : s.bracket? n = some b)
    (running : b.sweep = .running) :
    (b.toPresent.all fun r => (s.trav? r).isNone) = true
        ∧ s.settleSweep n = (s.modBracket n fun b => { b with sweep := .done, toPresent := [] }).raise
            (.bracketClosed b.channel n (b.state == .closedGood) (b.retests.getD 0))
      ∨ (b.toPresent.all fun r => (s.trav? r).isNone) = false
        ∧ ∃ left, s.settleSweep n = s.modBracket n fun b => { b with toPresent := left } := by
  have unfolded : s.settleSweep n = match s.sweepLeft b with
      | [] => (s.modBracket n fun b => { b with sweep := .done, toPresent := [] }).raise
          (.bracketClosed b.channel n (b.state == .closedGood) (b.retests.getD 0))
      | left => s.modBracket n fun b => { b with toPresent := left } := by
    simp only [State.settleSweep, hb, if_pos running] <;> rfl
  cases dead : b.toPresent.all fun r => (s.trav? r).isNone with
  | true =>
    have empty : s.sweepLeft b = [] := List.dropWhile_eq_nil_iff.2 fun r hr => List.all_eq_true.1 dead r hr
    rw [empty] at unfolded
    exact .inl ⟨rfl, unfolded⟩
  | false =>
    refine .inr ⟨rfl, s.sweepLeft b, ?_⟩
    cases left : s.sweepLeft b with
    | nil =>
      have all := List.all_eq_true.2 (List.dropWhile_eq_nil_iff.1 left)
      exact absurd (all.symm.trans dead) (by simp)
    | cons r rest =>
      rw [left] at unfolded
      exact unfolded

/-- A bracket closed and its sweep begun (R138, R139). -/
theorem State.closeAndSweep_does (s : State) (b : Bracket) (good : Bool) (cause : ClosingCause)
    (found : s.bracket? b.number = some b) :
    let t := (s.closeBracket b.number good cause).settleSweep b.number
    let dead := b.traverses.all fun n => (s.trav? n).isNone
    ∃ left, t.cal = (s.modBracket b.number fun c =>
          { c.closed good cause s.time with sweep := if dead then .done else .running, toPresent := left }).cal
      ∧ s.raised t (if dead then [.bracketClosed b.channel b.number good 0] else []) := by
  intro t dead
  let f : Bracket → Bracket := (·.closed good cause s.time)
  let m := s.modBracket b.number f
  have here : m.bracket? b.number = some (f b) := s.bracket?_modBracket_self b.number f b (fun _ => rfl) found
  have verdict : ((f b).state == .closedGood) = good := by cases good <;> rfl
  rcases m.settleSweep_cases b.number (f b) here rfl with ⟨all, done⟩ | ⟨some_, left, done⟩
  · have ended : dead = true := all
    have same : t = _ := done
    refine ⟨[], ?_, ?_⟩
    · rw [same, State.cal_raise, s.modBracket_modBracket b.number f _ fun _ => rfl, ended]
      rfl
    · rw [same, ended, verdict]
      exact State.raised_after _ m _ _ (s.raised_modBracket _ _)
        (State.raised_after _ _ _ _ (m.raised_modBracket _ _) (State.raised_raise _ _))
  · have ended : dead = false := some_
    have same : t = _ := done
    refine ⟨left, ?_, ?_⟩
    · rw [same, s.modBracket_modBracket b.number f _ fun _ => rfl, ended]
      rfl
    · rw [same, ended]
      exact State.raised_after _ m _ _ (s.raised_modBracket _ _) (m.raised_modBracket _ _)

/-- A channel's open bracket, if any, failed without a calibration (R138). -/
theorem State.failBracket_does (s : State) (ch : Chan) (cause : ClosingCause)
    (found : ∀ b, s.openBracket ch = some b → s.bracket? b.number = some b)
    (one : openBrackets s.cal.brackets ch ≤ 1) :
    let t := s.failBracket ch cause
    t.openBracket ch = none ∧ t.cal.attempts = s.cal.attempts ∧ t.cal.log = s.cal.log
      ∧ (∀ b, s.openBracket ch = some b →
          (∃ b', t.bracket? b.number = some b' ∧ b'.state = .closedFail ∧ b'.cause = some cause
            ∧ b'.closedAt = some s.time ∧ b'.traverses = b.traverses ∧ b'.sweep ≠ .none)
          ∧ ∀ n, n ≠ b.number → t.bracket? n = s.bracket? n)
      ∧ ∃ es, s.raised t es ∧ es.filter Event.isRetest = [] ∧ es.filter Event.isStoreNews = [] := by
  intro t
  cases opened : s.openBracket ch with
  | none =>
    have same : t = s := by simp only [t, State.failBracket, opened]
    rw [same]
    exact ⟨opened, rfl, rfl, nofun, [], s.raised_refl, rfl, rfl⟩
  | some b =>
    have done : t = (s.closeBracket b.number false cause).settleSweep b.number := by
      simp only [t, State.failBracket, opened]
    obtain ⟨left, cal, news⟩ := s.closeAndSweep_does b false cause (found b opened)
    rw [← done] at cal news
    let f : Bracket → Bracket := fun c => { c.closed false cause s.time with
      sweep := if b.traverses.all fun n => (s.trav? n).isNone then .done else .running, toPresent := left }
    have cal' : t.cal = (s.modBracket b.number f).cal := cal
    refine ⟨?_, by rw [cal']; rfl, by rw [cal']; rfl, fun c hc => ?_, _, news, by split <;> rfl, by split <;> rfl⟩
    · exact (State.openBracket_congr _ t ch cal').trans
        (s.openBracket_shut ch b f one opened fun c => by simp [f, Bracket.closed])
    · obtain rfl := Option.some.inj hc
      have read : ∀ n, t.bracket? n = (s.modBracket b.number f).bracket? n := fun n => by
        unfold State.bracket?
        rw [cal']
      refine ⟨⟨f b, (read _).trans (s.bracket?_modBracket_self b.number f b (fun _ => rfl) (found b opened)), rfl, rfl,
        rfl, rfl, ?_⟩, fun n hn => ?_⟩
      · simp only [f]
        split <;> simp
      · rw [read, s.bracket?_modBracket b.number n f fun _ => rfl]
        cases other : s.bracket? n with
        | none => rfl
        | some c =>
          have number := s.bracket_number n c other
          rw [Option.map_some, if_neg (by rw [number]; exact hn)]

end Sys2Proof.Machine
end

section
namespace Sys2Proof.Machine

/-! A probe failure (R60). -/

/-- The events of an ended attempt that are the store's: those of the release, where a COMPLETE traverse is settled
with no sample of it left (R83, R84). -/
theorem State.endPages_news (s : State) (ch : Chan) (id : Nat) :
    ∃ es, s.raised (s.endPages ch id) es ∧ (∀ e ∈ es, e.isStoreNews = true)
      ∧ ∀ tr, s.trav? id = some tr → tr.state = .complete → tr.target.kind = .calibration →
          (s.chan ch).bufA.pendingFor id = false → (s.chan ch).bufB.pendingFor id = false →
          es = s.releaseNews (s.endPages ch id) id tr tr.freedBySettling := by
  by_cases settles : ∃ tr, s.trav? id = some tr ∧ tr.state = .complete ∧ tr.target.kind = .calibration
      ∧ (s.chan ch).bufA.pendingFor id = false ∧ (s.chan ch).bufB.pendingFor id = false
  · obtain ⟨tr, live, complete, kind, a, b⟩ := settles
    refine ⟨_, (s.endPages_complete ch id tr live complete kind a b).2, s.isStoreNews_releaseNews _ _ _ _,
      fun u hu _ _ _ _ => ?_⟩
    rw [Option.some.inj (live.symm.trans hu)]
  · obtain ⟨_, ⟨es, news, all⟩, _⟩ := s.endPages_frame ch id
    exact ⟨es, news, all, fun tr live complete kind a b => absurd ⟨tr, live, complete, kind, a, b⟩ settles⟩

/-- An evaluation in hand is the attempt of its channel. -/
theorem State.attempt_of_evaluation (s : State) (ch : Chan) (a : Attempt) (h : s.evaluationInHand ch = some a) :
    s.attempt? ch = some a := by
  unfold State.evaluationInHand at h
  cases ha : s.attempt? ch with
  | none => simp [ha] at h
  | some c =>
    rw [ha] at h
    dsimp only at h
    split at h
    · exact h
    · split at h
      · exact h
      · exact absurd h (by simp)

/-- Among the events of a pull's abort stands one TUBE_RETEST, of its tube with cause ABORT (R30). -/
def State.retestTold (s : State) (ch : Chan) (es : List Event) : Prop :=
  ∀ p e id, (s.chan ch).claim = some p → s.tube? p = some e → (s.chan ch).traverse = some id →
    es.filter Event.isRetest = [.tubeRetest p .abort e.attempts]

/-- Among the events of an evaluation's end, the store's are those of the release of its traverse (R83, R84). -/
def State.releaseTold (s t : State) (ch : Chan) (es : List Event) : Prop :=
  ∀ a tr, s.evaluationInHand ch = some a → s.trav? a.traverse = some tr → tr.state = .complete →
    tr.target.kind = .calibration → (s.chan ch).bufA.pendingFor a.traverse = false →
    (s.chan ch).bufB.pendingFor a.traverse = false →
    es.filter Event.isStoreNews = s.releaseNews t a.traverse tr tr.freedBySettling

/-- An attempt ended, with what its end raises. -/
theorem State.abortCalibration_news (s : State) (ch : Chan) (a : Attempt) (ha : s.attempt? ch = some a) :
    ∃ es, s.raised (s.abortCalibration ch) es
      ∧ ∀ tr, s.trav? a.traverse = some tr → tr.state = .complete → tr.target.kind = .calibration →
          (s.chan ch).bufA.pendingFor a.traverse = false → (s.chan ch).bufB.pendingFor a.traverse = false →
          es.filter Event.isStoreNews
            = s.releaseNews (s.abortCalibration ch) a.traverse tr tr.freedBySettling := by
  obtain ⟨_, store, _, _, _, told⟩ := s.abortCalibration_frame ch a ha
  obtain ⟨es, news, all, which⟩ := s.endPages_news ch a.traverse
  refine ⟨_, told es news, fun tr live complete kind bufA bufB => ?_⟩
  rw [s.releaseNews_congr s (s.endPages ch a.traverse) (s.abortCalibration ch) a.traverse tr _ rfl store,
    ← which tr live complete kind bufA bufB, List.filter_append, List.filter_eq_self.2 all]
  exact List.append_nil es

/-- An evaluation in hand, if any, ended (R60). -/
theorem State.dropEvaluation_frame (s : State) (ch : Chan) :
    let t := if (s.evaluationInHand ch).isSome then s.abortCalibration ch else s
    s.endsWork t ch ∧ ∃ es, s.raised t es ∧ s.releaseTold t ch es := by
  unfold State.releaseTold
  cases he : s.evaluationInHand ch with
  | none => exact ⟨s.endsWork_refl ch, [], s.raised_refl, fun _ _ no => absurd no (by simp)⟩
  | some a =>
    obtain ⟨es, news, which⟩ := s.abortCalibration_news ch a (s.attempt_of_evaluation ch a he)
    refine ⟨(s.abortCalibration_frame ch a (s.attempt_of_evaluation ch a he)).1, es, news, fun a' tr ha' => ?_⟩
    obtain rfl := Option.some.inj ha'
    exact which tr

/-- The work in hand at a probe failure, whatever it is (R60). -/
theorem State.failWork_frame (s : State) (ch : Chan) :
    let t := s.failWork ch
    s.endsWork t ch ∧ ∃ es, s.raised t es
      ∧ ((s.chan ch).state = .recording ∨ (s.chan ch).state = .paused → s.retestTold ch es)
      ∧ ((s.chan ch).state = .evaluating ∨ (s.chan ch).state = .offline → s.releaseTold t ch es) := by
  intro t
  have idle : t = s → s.endsWork t ch ∧ ∃ es, s.raised t es := fun same => by
    rw [same]
    exact ⟨s.endsWork_refl ch, [], s.raised_refl⟩
  have attempt : t = s.abortCalibration ch → s.endsWork t ch ∧ ∃ es, s.raised t es := fun same => by
    cases ha : s.attempt? ch with
    | none => exact idle (same.trans (by simp only [State.abortCalibration, ha]))
    | some a =>
      obtain ⟨es, news, _⟩ := s.abortCalibration_news ch a ha
      rw [same]
      exact ⟨(s.abortCalibration_frame ch a ha).1, es, news⟩
  cases state : (s.chan ch).state with
  | claimed =>
    have done : t = s.endClaim ch false := by simp only [t, State.failWork, state]
    obtain ⟨ends, es, news⟩ := s.endClaim_frame ch false
    rw [done]
    exact ⟨ends, es, news, by simp, by simp⟩
  | recording | paused =>
    have done : t = s.abortPull ch false true := by simp only [t, State.failWork, state]
    obtain ⟨ends, _, es, news, which⟩ := s.abortPull_frame ch true
    rw [done]
    exact ⟨ends, es, news, fun _ => which, by simp⟩
  | calibrating =>
    obtain ⟨ends, es, news⟩ := attempt (by simp only [t, State.failWork, state])
    exact ⟨ends, es, news, by simp, by simp⟩
  | evaluating | offline =>
    have done : t = if (s.evaluationInHand ch).isSome then s.abortCalibration ch else s := by
      simp only [t, State.failWork, state]
    obtain ⟨ends, es, news, which⟩ := s.dropEvaluation_frame ch
    rw [done]
    exact ⟨ends, es, news, by simp, fun _ => which⟩
  | needsCal | ready | due =>
    obtain ⟨ends, es, news⟩ := idle (by simp only [t, State.failWork, state])
    exact ⟨ends, es, news, by simp, by simp⟩

/-- Aborts reported add to what a channel has sent (R43, R72). -/
theorem State.sent_reportAbort (s : State) (id : Nat) (k : Chan) :
    (s.chan k).sent <+: ((s.reportAbort id).chan k).sent := by
  unfold State.reportAbort
  split
  · exact List.prefix_refl _
  · next tr _ =>
    split
    · by_cases same : k = tr.channel
      · subst same
        rw [State.sendProbe, State.chan_modChan_self, State.chan_modChan_self]
        split
        · exact List.prefix_refl _
        · exact List.prefix_append _ _
      · rw [State.chan_sendProbe_other _ _ _ _ same, State.chan_modChan_other _ _ _ _ same]
    · exact List.prefix_refl _

theorem State.sent_reportAborts (s : State) (ch : Chan) :
    (s.chan ch).sent <+: ((s.reportAborts ch).chan ch).sent := by
  unfold State.reportAborts
  generalize (s.chan ch).reports = ids
  induction ids generalizing s with
  | nil => exact List.prefix_refl _
  | cons id rest ih => exact (s.sent_reportAbort id ch).trans (ih _)

end Sys2Proof.Machine
end

section
namespace Sys2Proof.Machine

/-- A channel moved raises at most its CHANNEL_CHANGE. -/
theorem State.moveChan_news (s : State) (ch : Chan) (new : ChanState) :
    ∃ es, s.raised (s.moveChan ch new) es ∧ es.filter Event.isRetest = [] ∧ es.filter Event.isStoreNews = [] := by
  by_cases still : (s.chan ch).state = new
  · have same : s.moveChan ch new = s.refreshPermit ch := by rw [State.moveChan, State.setChan, if_pos still]
    exact ⟨[], by rw [same]; exact State.raised_refreshPermit s ch, rfl, rfl⟩
  · exact ⟨_, s.raised_moveChan ch new still, rfl, rfl⟩

/-- What a channel has sent stays when it moves to an up state, and its reports do. -/
theorem State.moveChan_keeps (s : State) (ch : Chan) (new : ChanState) (up : new ≠ .offline) :
    let c := (s.moveChan ch new).chan ch
    c.state = new ∧ c.claim = (s.chan ch).claim ∧ c.traverse = (s.chan ch).traverse
      ∧ c.linkLossMark = (s.chan ch).linkLossMark ∧ c.reports = (s.chan ch).reports
      ∧ (s.chan ch).sent <+: c.sent := by
  obtain ⟨silent, _⟩ := s.moveChan_chan ch new
  exact ⟨(congrArg Channel.state silent :), (congrArg Channel.claim silent :), (congrArg Channel.traverse silent :),
    (congrArg Channel.linkLossMark silent :), (congrArg Channel.reports silent :), s.sent_moveChan ch new up⟩

/-- An up channel whose work and bracket have ended at a probe failure: NEEDS_CAL, its ended aborts reported. -/
theorem State.failed_does (m : State) (ch : Chan)
    (own : ∀ id ∈ (m.chan ch).reports, ∀ v, m.trav? id = some v → v.channel = ch) :
    let t := (m.moveChan ch .needsCal).reportAborts ch
    (t.chan ch).state = .needsCal ∧ t.store = m.store ∧ t.session = m.session ∧ t.cal = m.cal
      ∧ (t.chan ch).claim = (m.chan ch).claim ∧ (t.chan ch).traverse = (m.chan ch).traverse
      ∧ (t.chan ch).linkLossMark = (m.chan ch).linkLossMark ∧ (m.chan ch).sent <+: (t.chan ch).sent
      ∧ (∀ id v, id ∈ (m.chan ch).reports → m.trav? id = some v →
          (v.state = .aborted → v.inWrite = 0 → v.abortFrame ∈ (t.chan ch).sent)
          ∧ (v.inWrite ≠ 0 → id ∈ (t.chan ch).reports))
      ∧ (∀ k, k ≠ ch → t.chan k = m.chan k) ∧ t.comparisons = m.comparisons ∧ t.config = m.config
      ∧ ∃ es, m.raised t es ∧ es.filter Event.isRetest = [] ∧ es.filter Event.isStoreNews = [] := by
  intro t
  let n := m.moveChan ch .needsCal
  obtain ⟨state, claim, traverse, mark, reports, sent⟩ := m.moveChan_keeps ch .needsCal (by decide)
  have trav : ∀ id, n.trav? id = m.trav? id := fun id => State.trav?_of_store m n (m.store_moveChan ch _) id
  have reported : n.reportsOn t ch (n.chan ch).reports := n.reportAborts_does ch
    (fun id mem v live => own id (reports ▸ mem) v ((trav id).symm.trans live)) (by rw [state]; decide)
  have rest : (t.chan ch).unreported = (n.chan ch).unreported := reported.rest
  obtain ⟨es, news, retests, releases⟩ := m.moveChan_news ch .needsCal
  have told : n.raised t [] := n.raised_of_eq t (by simp [t, n]) (by simp [t, n]) (by simp [t, n])
  refine ⟨(congrArg Channel.state rest :).trans state, reported.store.trans (m.store_moveChan ch _),
    (n.session_reportAborts ch).trans (m.session_moveChan ch _), (n.cal_reportAborts ch).trans (m.cal_moveChan ch _),
    (congrArg Channel.claim rest :).trans claim, (congrArg Channel.traverse rest :).trans traverse,
    (congrArg Channel.linkLossMark rest :).trans mark, sent.trans (n.sent_reportAborts ch), fun id v mem live => ?_,
    fun k hk => (reported.others k hk).trans (m.chan_moveChan_other ch k _ hk),
    (n.comparisons_reportAborts ch).trans (m.comparisons_moveChan ch _),
    (n.config_reportAborts ch).trans (m.config_moveChan ch _), es, State.raised_before _ n _ _ news told, retests, releases⟩
  have mem' : id ∈ (n.chan ch).reports := by rw [reports]; exact mem
  exact ⟨reported.told id v mem' mem' ((trav id).trans live), reported.waits id v mem' ((trav id).trans live)⟩

/-- What a probe failure does to its channel, its bracket and its work, which `State.failWork` has ended (R60). -/
theorem State.failProbe_does (s : State) (ch : Chan) (law : s.calLaw) (owns : s.ownsWork ch = true) :
    let w := s.failWork ch
    let t := s.failProbe ch
    (t.chan ch).state = (if (s.chan ch).state = .offline then .offline else .needsCal)
      ∧ t.store = w.store ∧ t.session = w.session ∧ t.openBracket ch = none
      ∧ t.cal.attempts = w.cal.attempts ∧ t.cal.log = s.cal.log
      ∧ (∀ b, s.openBracket ch = some b → ∃ b', t.bracket? b.number = some b'
          ∧ b'.state = .closedFail ∧ b'.cause = some .probeFailed ∧ b'.closedAt = some s.time
          ∧ b'.traverses = b.traverses ∧ b'.sweep ≠ .none)
      ∧ (t.chan ch).claim = (w.chan ch).claim ∧ (t.chan ch).traverse = (w.chan ch).traverse
      ∧ (t.chan ch).linkLossMark = (w.chan ch).linkLossMark ∧ (w.chan ch).sent <+: (t.chan ch).sent
      ∧ ((s.chan ch).state = .offline → (t.chan ch).sent = (s.chan ch).sent)
      ∧ ((s.chan ch).state ≠ .offline → ∀ id v, id ∈ (w.chan ch).reports → w.trav? id = some v →
          (v.state = .aborted → v.inWrite = 0 → v.abortFrame ∈ (t.chan ch).sent)
          ∧ (v.inWrite ≠ 0 → id ∈ (t.chan ch).reports))
      ∧ (∀ k, k ≠ ch → t.chan k = s.chan k ∧ t.attempt? k = s.attempt? k)
      ∧ t.comparisons = s.comparisons ∧ t.config = s.config
      ∧ ∃ es, s.raised t es
          ∧ ((s.chan ch).state = .recording ∨ (s.chan ch).state = .paused → s.retestTold ch es)
          ∧ ((s.chan ch).state = .evaluating ∨ (s.chan ch).state = .offline → s.releaseTold t ch es) := by
  intro w t
  obtain ⟨ends, es, news, retests, releases⟩ := s.failWork_frame ch
  have time : w.time = s.time := congrArg (Option.getD · 0) news.2.2.2
  have opened : w.openBracket ch = s.openBracket ch := by
    unfold State.openBracket
    rw [ends.brackets]
  have found : ∀ b, w.openBracket ch = some b → w.bracket? b.number = some b := fun b hb => by
    unfold State.bracket?
    rw [ends.brackets]
    exact s.bracket?_of_open ch b law (opened.symm.trans hb)
  have one : openBrackets w.cal.brackets ch ≤ 1 := by
    rw [ends.brackets]
    obtain ⟨_, _, _, atMostOne, _⟩ := law
    exact atMostOne ch
  obtain ⟨none_, attempts, log, closes, fs, told, noRetest, noRelease⟩ := w.failBracket_does ch .probeFailed found one
  let m := w.failBracket ch .probeFailed
  have chan : ∀ k, m.chan k = w.chan k := fun k => by simp [m, State.chan]
  have store : m.store = w.store := w.store_failBracket ch _
  have session : m.session = w.session := w.session_failBracket ch _
  have closed : ∀ b, s.openBracket ch = some b → ∃ b', m.bracket? b.number = some b'
      ∧ b'.state = .closedFail ∧ b'.cause = some .probeFailed ∧ b'.closedAt = some s.time
      ∧ b'.traverses = b.traverses ∧ b'.sweep ≠ .none := fun b hb => by
    rw [← time]
    exact (closes b (opened.trans hb)).1
  have retestsFor : ∀ gs : List Event, gs.filter Event.isRetest = [] →
      (s.chan ch).state = .recording ∨ (s.chan ch).state = .paused → s.retestTold ch (es ++ fs ++ gs) := by
    intro gs none_ working p e id hp he has
    rw [List.filter_append, List.filter_append, noRetest, none_, List.append_nil, List.append_nil]
    exact retests working p e id hp he has
  have releasesFor : ∀ (v : State) (gs : List Event), v.store = w.store → gs.filter Event.isStoreNews = [] →
      (s.chan ch).state = .evaluating ∨ (s.chan ch).state = .offline → s.releaseTold v ch (es ++ fs ++ gs) := by
    intro v gs same none_ working a tr ha live complete kind bufA bufB
    rw [List.filter_append, List.filter_append, noRelease, none_, List.append_nil, List.append_nil,
      s.releaseNews_congr s w v a.traverse tr _ rfl same]
    exact releases working a tr ha live complete kind bufA bufB
  have state : (m.chan ch).state = (s.chan ch).state := by rw [chan]; exact ends.channel.state
  by_cases off : (s.chan ch).state = .offline
  · have done : t = m := if_pos (state.trans off)
    rw [done, if_pos off]
    refine ⟨state.trans off, store, session, none_, attempts, log.trans ends.log, closed, by rw [chan], by rw [chan],
      by rw [chan], by rw [chan], fun _ => by rw [chan]; exact ends.channel.quiet off, fun up => absurd off up,
      fun k hk => ⟨by rw [chan]; exact ends.others k hk, ?_⟩, ?_, ?_, es ++ fs ++ [], ?_, retestsFor [] rfl,
      releasesFor m [] store rfl⟩
    · exact (congrArg (Four.get · k) attempts).trans (ends.attempts k hk)
    · exact (w.comparisons_failBracket ch _).trans ends.comparisons
    · exact (w.config_failBracket ch _).trans ends.config
    · rw [List.append_nil]
      exact State.raised_trans _ w _ _ _ news told
  · have done : t = (m.moveChan ch .needsCal).reportAborts ch := if_neg fun h => off (state.symm.trans h)
    have own : ∀ id ∈ (m.chan ch).reports, ∀ v, m.trav? id = some v → v.channel = ch := by
      intro id mem v live
      obtain ⟨u, hu, same⟩ := ends.owners id v ((State.trav?_of_store w m store id).symm.trans live)
      rw [chan] at mem
      exact same.trans (s.ownsWork_channel ch owns id u (ends.channel.reports id mem) hu)
    obtain ⟨needsCal, store', session', cal', claim, traverse, mark, sent, reported, others, comparisons, config, gs,
      more, retests', releases'⟩ := m.failed_does ch own
    rw [← done] at needsCal store' session' cal' claim traverse mark sent reported others comparisons config more
    rw [chan] at claim traverse mark sent reported
    refine ⟨by rw [if_neg off]; exact needsCal, store'.trans store, session'.trans session,
      (State.openBracket_congr m t ch cal').trans none_, by rw [cal']; exact attempts,
      by rw [cal']; exact log.trans ends.log, fun b hb => ?_, claim, traverse, mark, sent, fun h => absurd h off,
      fun _ id v mem live => reported id v mem ((State.trav?_of_store w m store id).trans live),
      fun k hk => ⟨(others k hk).trans ((chan k).trans (ends.others k hk)), ?_⟩, ?_, ?_, es ++ fs ++ gs,
      State.raised_trans _ m _ _ _ (State.raised_trans _ w _ _ _ news told) more, retestsFor gs retests',
      releasesFor t gs (store'.trans store) releases'⟩
    · unfold State.bracket?
      rw [cal']
      exact closed b hb
    · rw [State.attempt?_of_cal m t cal' k]
      exact (congrArg (Four.get · k) attempts).trans (ends.attempts k hk)
    · exact comparisons.trans ((w.comparisons_failBracket ch _).trans ends.comparisons)
    · exact config.trans ((w.config_failBracket ch _).trans ends.config)

end Sys2Proof.Machine
end

section
namespace Sys2Proof.Machine

/-- The state with another time on a channel's silence timer and the station links as given. -/
def State.heardOn (s : State) (ch : Chan) (ms : Nat) (links : Three StationLink) : State :=
  { s.silentFor ch ms with stations := links }

theorem State.chan_heardOn (s : State) (ch : Chan) (ms : Nat) (links : Three StationLink) :
    (s.heardOn ch ms links).chan ch = { s.chan ch with silenceMs := ms }
      ∧ ∀ k, k ≠ ch → (s.heardOn ch ms links).chan k = s.chan k :=
  ⟨s.chan_silentFor_self ch ms, fun k hk => s.chan_silentFor_other ch k ms hk⟩

/-- The answer to a request depends on the links alone. -/
theorem State.stations_answered (s t : State) (st : Stn) (tag name : Nat) (r : Status) (c : Content)
    (h : t.stations = s.stations) :
    (t.answered st tag name r c).stations = (s.answered st tag name r c).stations := by
  simp only [State.answered, h]

/-- The two commands of a probe failure, with what each makes of the station links. -/
theorem exec_failsProbe (ch : Chan) (s : State) (c : Instr)
    (how : c = .probeFailed ch ∧ s.probeUp ch
      ∨ ∃ st tag, c = .declareProbeFailed st tag ch.val ∧ s.leadBegins st tag (.declareProbeFailed ch.val)) :
    ∃ ms links sts, exec c s = .next { (s.heardOn ch ms links).failProbe ch with stations := sts }
      ∧ ∀ es, (s.heardOn ch ms links).raised ((s.heardOn ch ms links).failProbe ch) es →
          (c = .probeFailed ch → sts = (s.raiseAll es).stations)
          ∧ ∀ st tag, c = .declareProbeFailed st tag ch.val → sts =
              (((s.begun st).raiseAll es).answered st tag 17 .ok
                (.probeFailed (((s.heardOn ch ms links).failProbe ch).chan ch).state
                  ((s.openBracket ch).map (·.number)))).stations := by
  rcases how with ⟨rfl, up⟩ | ⟨st, tag, rfl, begins⟩
  · let u := s.heardOn ch 0 s.stations
    refine ⟨0, s.stations, (u.failProbe ch).stations, s.probeFrame_up ch (fun s => s.failProbe ch) up,
      fun es news => ⟨fun _ => ?_, nofun⟩⟩
    exact (State.raised_after s u _ es (s.raised_of_eq u rfl rfl rfl) news).1
  · let u := s.heardOn ch (s.chan ch).silenceMs (s.begun st).stations
    have same : u = s.begun st := by
      simp only [u, State.heardOn, s.silentFor_self]
      rfl
    let reply : Content := .probeFailed ((u.failProbe ch).chan ch).state ((s.openBracket ch).map (·.number))
    refine ⟨(s.chan ch).silenceMs, (s.begun st).stations, ((u.failProbe ch).answered st tag 17 .ok reply).stations, ?_,
      fun es news => ⟨nofun, fun st' tag' he => ?_⟩⟩
    · refine (s.leadRequest_answer st tag (.declareProbeFailed ch.val) _ (u.failProbe ch) .ok reply begins ?_).trans rfl
      simp only [chanOf_val]
      rw [← same]
      rfl
    · obtain ⟨rfl, rfl⟩ : st = st' ∧ tag = tag' := by
        injection he with h1 h2
        exact ⟨h1, h2⟩
      rw [← same]
      exact State.stations_answered _ _ st tag 17 .ok reply news.1

/-- DECLARE_PROBE_FAILED of a channel above 3 (R171). -/
theorem exec_declareProbeFailed_badChannel (st : Stn) (tag ch : Nat) (s : State) (high : 4 ≤ ch)
    (begins : s.leadBegins st tag (.declareProbeFailed ch)) :
    exec (.declareProbeFailed st tag ch) s = .next ((s.begun st).answered st tag 17 .badArgument .none) := by
  refine (s.leadRequest_answer st tag (.declareProbeFailed ch) _ (s.begun st) .badArgument .none begins ?_).trans rfl
  simp only [chanOf_none ch high]
  rfl

/-- Settles O40: `State.failProbe_does` for what every failure does, and the end of the work in hand by the state of the
channel. -/
theorem probeFailureEndsWorkAndBracket : Obligations.ProbeFailureEndsWorkAndBracket := by
  refine ⟨fun ch s c law owns how => ?_, exec_declareProbeFailed_badChannel⟩
  obtain ⟨ms, links, sts, run, told⟩ := exec_failsProbe ch s c how
  let u := s.heardOn ch ms links
  obtain ⟨heard, besides⟩ := s.chan_heardOn ch ms links
  have owns_u : u.ownsWork ch = true := by
    rw [← owns]
    unfold State.ownsWork
    rw [heard]
    rfl
  obtain ⟨state, store, session, none_, attempts, log, closes, claim, traverse, mark, sent, quiet, reported, others,
    comparisons, config, es, news, retests, releases⟩ := u.failProbe_does ch law owns_u
  obtain ⟨stations, answered⟩ := told es news
  have hand : ∀ tr, s.inHand? ch = some tr → u.inHand? ch = some tr := fun tr h => by
    rw [State.inHand?, heard]
    exact h
  have trav : ∀ id, (u.failProbe ch).trav? id = (u.failWork ch).trav? id :=
    State.trav?_of_store _ _ store
  rw [heard] at state quiet reported retests releases
  refine ⟨_, run, state, none_, log, closes, fun claimed p e old hp he _ hold => ?_,
    fun working p e tr hp he inHand kept pull => ?_, fun calibrating => ?_, fun evaluating a tr ha live ending => ?_,
    ⟨es, stations, answered, ?_, ?_⟩, fun k hk => ⟨(others k hk).1.trans (besides k hk), (others k hk).2⟩,
    comparisons, config⟩
  · have work : u.failWork ch = u.endClaim ch false := by
      rw [State.failWork, heard, claimed]
    rw [work] at store session claim
    obtain ⟨gone, slots, _, e', he', back, count⟩ := u.endClaim_releases ch p e old (by rw [heard]; exact hp) he hold
    exact ⟨claim.trans gone, (congrArg Store.reservedSlots store).trans slots, e',
      (State.tube?_of_session _ _ session p).trans he', back, count⟩
  · have work : u.failWork ch = u.abortPull ch false true := by
      rw [State.failWork, heard]
      rcases working with h | h <;> rw [h]
    have up : (s.chan ch).state ≠ .offline := by rcases working with h | h <;> rw [h] <;> decide
    rw [work] at trav session claim traverse reported
    obtain ⟨noClaim, noTraverse, reports, ⟨e', he', back, cause⟩, v, live, entry⟩ :=
      u.abortPull_aborts ch true tr p e (hand tr inHand) (by rw [heard]; exact hp) he pull kept
    have mine : tr.id ∈ ((u.abortPull ch false true).chan ch).reports := by
      rw [reports]
      simp
    have inWrite : v.inWrite = tr.inWrite + if (s.chan ch).pendingFor tr.id = true then 1 else 0 := by
      have := (congrArg Traverse.inWrite entry :)
      rw [heard] at this
      exact this
    have frame : v.abortFrame = .traverseDone tr.id tr.stored tr.lost tr.flags true :=
      (congrArg Traverse.abortFrame entry :)
    obtain ⟨sends, waits⟩ := reported up tr.id v mine live
    refine ⟨claim.trans noClaim, traverse.trans noTraverse,
      ⟨e', (State.tube?_of_session _ _ session p).trans he', back, cause⟩,
      ⟨v, (trav _).trans live, (congrArg Traverse.state entry :), (congrArg Traverse.settled entry :)⟩,
      fun clear noA noB => ?_, fun busy => waits ?_⟩
    · rw [← frame]
      refine sends (congrArg Traverse.state entry :) ?_
      rw [inWrite, clear]
      simp [Channel.pendingFor, noA, noB]
    · rw [inWrite]
      rcases busy with busy | busy | busy
      · omega
      · simp [Channel.pendingFor, busy]
      · simp [Channel.pendingFor, busy]
  · have work : u.failWork ch = u.abortCalibration ch := by
      rw [State.failWork, heard, calibrating]
    rw [work] at attempts
    refine (congrArg (Four.get · ch) attempts).trans ?_
    cases ha : u.attempt? ch with
    | none =>
      have same : u.abortCalibration ch = u := by simp only [State.abortCalibration, ha]
      exact (congrArg (State.attempt? · ch) same).trans ha
    | some a => exact (u.abortCalibration_frame ch a ha).2.2.1
  · have work : u.failWork ch = u.abortCalibration ch := by
      have some_ : (u.evaluationInHand ch).isSome = true := by
        rw [show u.evaluationInHand ch = some a from ha]
        rfl
      rw [State.failWork, heard]
      rcases evaluating with h | h <;> rw [h] <;> exact if_pos some_
    have attempt := u.attempt_of_evaluation ch a ha
    obtain ⟨_, storeM, ended, ⟨bufA, bufB, chan⟩, _⟩ := u.abortCalibration_frame ch a attempt
    obtain ⟨keepsTraverse, keepsMark, _, _, sends⟩ := Channel.told_keeps
      (({ u.chan ch with bufA := bufA, bufB := bufB } : Channel).leaveAttempt a.traverse)
      (.calResult a.traverse (.rejected .aborted))
    rw [work] at attempts traverse mark sent
    rw [← chan] at keepsTraverse keepsMark sends
    have storeT : (u.failProbe ch).store = (u.endPages ch a.traverse).store := by
      rw [store, work, storeM]
    refine ⟨(congrArg (Four.get · ch) attempts).trans ended, traverse.trans keepsTraverse, mark.trans keepsMark,
      fun kept => ?_, fun complete noA noB => ?_, fun up => ?_, quiet⟩
    · obtain ⟨v, hv, aborted, settled⟩ := u.endPages_aborts ch a.traverse tr live ending kept
      exact ⟨v, (State.trav?_of_store _ _ storeT _).trans hv, aborted, settled⟩
    · have kind : tr.target.kind = .calibration := by
        rcases ending with h | ⟨_, h⟩
        · exact absurd (complete.symm.trans h) (by decide)
        · exact h
      obtain ⟨goes, _⟩ := u.endPages_complete ch a.traverse tr live complete kind (by rw [heard]; exact noA)
        (by rw [heard]; exact noB)
      exact State.goesOrStays_congr s u _ (u.endPages ch a.traverse) _ _ _ _ rfl storeT.symm goes
    · have all := sends (by
        rw [heard]
        change (s.chan ch).state ≠ .offline
        rw [up]
        decide)
      rw [all, heard] at sent
      exact sent
  · intro working p e tr hp he inHand _ _
    obtain ⟨id, has, _⟩ := Option.bind_eq_some_iff.1 inHand
    exact retests working p e id (by rw [heard]; exact hp) he (by rw [heard]; exact has)
  · intro working a tr ha live complete kind noA noB
    exact releases working a tr ha live complete kind (by rw [heard]; exact noA) (by rw [heard]; exact noB)

end Sys2Proof.Machine
end

section
namespace Sys2Proof.Machine

/-! HELLO (R45, R46). -/

/-- The first state of a channel whose link comes up with an identity (R45, R46). -/
def State.helloState (s : State) (ch : Chan) (id : ProbeId) : ChanState :=
  if s.evaluationChanged ch id || s.bracketChanged ch id then .needsCal else s.linkUpState ch

/-- A channel whose identity is recorded, before the identity is checked (R45). -/
def State.identified (s : State) (ch : Chan) (id : Identity) (new : ChanState) : State :=
  s.modChan ch fun c =>
    { c with state := new, identity := some id, silenceMs := 0, quietMs := 0
             traverse := if new = .evaluating then (s.evaluationInHand ch).map (·.traverse) else none }

/-- The end of a HELLO (R45): CHANNEL_CHANGE is raised, and the permit is sent whatever its values. -/
def State.comeUp (s : State) (ch : Chan) (new : ChanState) (p : Permit) : State :=
  ((s.raise (.channelChange ch new (some p))).modChan ch fun c => { c with permit := some p }).sendProbe ch (.permit p)

theorem State.linkUp_eq (s : State) (ch : Chan) (id : Identity) :
    s.linkUp ch id =
      let s2 := (s.identified ch id (s.helloState ch id.probe)).checkIdentity ch id.probe
      s2.comeUp ch (s.helloState ch id.probe) (permitOf s2.session (s.helloState ch id.probe)) := rfl

theorem State.comeUp_eq (s : State) (ch : Chan) (new : ChanState) (p : Permit) (up : (s.chan ch).state ≠ .offline) :
    s.comeUp ch new p =
      (s.modChan ch fun c => { c with permit := some p, sent := c.sent ++ [.permit p], quietMs := 0 }).raise
        (.channelChange ch new (some p)) := by
  let s1 := s.raise (.channelChange ch new (some p))
  have one : s.comeUp ch new p = s1.modChan ch fun c => ({ c with permit := some p } : Channel).told (.permit p) :=
    s1.modChan_modChan ch (fun c => { c with permit := some p }) (·.told (.permit p))
  rw [one, s1.modChan_congr ch _ (fun c => { c with permit := some p, sent := c.sent ++ [.permit p], quietMs := 0 })]
  · rfl
  · exact if_neg up

/-- What the end of a HELLO leaves (R45). -/
theorem State.comeUp_does (s : State) (ch : Chan) (new : ChanState) (p : Permit) (up : (s.chan ch).state ≠ .offline) :
    let t := s.comeUp ch new p
    t.chan ch = { s.chan ch with permit := some p, sent := (s.chan ch).sent ++ [.permit p], quietMs := 0 }
      ∧ (∀ k, k ≠ ch → t.chan k = s.chan k) ∧ t.store = s.store ∧ t.session = s.session ∧ t.cal = s.cal
      ∧ t.comparisons = s.comparisons ∧ t.config = s.config ∧ s.raised t [.channelChange ch new (some p)] := by
  intro t
  let f : Channel → Channel := fun c => { c with permit := some p, sent := c.sent ++ [.permit p], quietMs := 0 }
  have done : t = (s.modChan ch f).raise (.channelChange ch new (some p)) := s.comeUp_eq ch new p up
  rw [done]
  exact ⟨s.chan_modChan_self ch f, fun k hk => s.chan_modChan_other ch k f hk, rfl, rfl, rfl, rfl, rfl,
    State.raised_after _ _ _ _ (s.raised_modChan ch f) (State.raised_raise _ _)⟩

/-- The identity check of a HELLO does not read the channel. -/
theorem State.checkIdentity_identified (s : State) (ch : Chan) (id : Identity) (new : ChanState) :
    let s1 := s.identified ch id new
    s1.checkIdentity ch id.probe =
      let s2 := if (s.evaluationChanged ch id.probe || s.bracketChanged ch id.probe) && (s.evaluationInHand ch).isSome then
        s1.abortCalibration ch else s1
      if s.bracketChanged ch id.probe then s2.failBracket ch .probeChanged else s2 := rfl

theorem execHello_offline (ch : Chan) (id : Identity) (s : State) (awake : s.awake)
    (off : (s.chan ch).state = .offline) : exec (.hello ch id) s = .next (s.linkUp ch id) := by
  simp only [exec, execHello, s.act_awake _ awake]
  rw [if_pos off]

theorem execHello_up (ch : Chan) (id : Identity) (s : State) (up : s.probeUp ch) :
    exec (.hello ch id) s = .next ((s.loseLink ch).linkUp ch id) := by
  simp only [exec, execHello, s.act_awake _ up.1]
  rw [if_neg up.2]

/-- A HELLO on an up link is the loss of the link and then the HELLO. -/
theorem execHello_afterLoss (ch : Chan) (id : Identity) (s : State) (up : s.probeUp ch) :
    ∃ t, exec (.probeLinkLoss ch) s = .next t ∧ (t.chan ch).state = .offline
      ∧ exec (.hello ch id) s = exec (.hello ch id) t := by
  obtain ⟨_, channels, _, _, _, _, _, config, ends, _⟩ := s.loseLink_frame ch
  have off : ((s.loseLink ch).chan ch).state = .offline := by
    rw [State.chan, channels]
    exact ends.channel.state.trans (by rw [(s.chan_linkDown ch).1]; rfl)
  have awake : (s.loseLink ch).awake := by
    unfold State.awake
    rw [config]
    exact up.1
  exact ⟨_, execProbeLinkLoss_up ch s up, off,
    (execHello_up ch id s up).trans (execHello_offline ch id _ awake off).symm⟩

/-- A HELLO that changes no identity (R45). -/
theorem execHello_unchanged (ch : Chan) (id : Identity) (s : State) (awake : s.awake)
    (off : (s.chan ch).state = .offline) (evaluation : s.evaluationChanged ch id.probe = false)
    (bracket : s.bracketChanged ch id.probe = false) :
    let new := s.linkUpState ch
    let p := permitOf s.session new
    let c := s.chan ch
    exec (.hello ch id) s = .next
      (State.raise
        { s with
          channels := s.channels.set ch
            { c with state := new, identity := some id, silenceMs := 0, quietMs := 0
                     permit := some p, sent := c.sent ++ [.permit p]
                     traverse := if new = .evaluating then
                       (s.evaluationInHand ch).map (·.traverse) else none } }
        (.channelChange ch new (some p))) := by
  intro new p c
  have state : s.helloState ch id.probe = new := by
    simp [State.helloState, evaluation, bracket, new]
  have checked : (s.identified ch id new).checkIdentity ch id.probe = s.identified ch id new := by
    rw [s.checkIdentity_identified, evaluation, bracket]
    rfl
  have up : ((s.identified ch id new).chan ch).state ≠ .offline := by
    rw [State.identified, State.chan_modChan_self]
    exact s.linkUpState_ne_offline ch
  rw [execHello_offline ch id s awake off, s.linkUp_eq, state, checked]
  refine congrArg Host.Outcome.next (((s.identified ch id new).comeUp_eq ch new p up).trans ?_)
  rw [State.identified, State.modChan_modChan]
  rfl

end Sys2Proof.Machine
end

section
namespace Sys2Proof.Machine

/-- The channel of a HELLO whose identity is recorded. -/
theorem State.chan_identified (s : State) (ch : Chan) (id : Identity) (new : ChanState) :
    (s.identified ch id new).chan ch = { s.chan ch with
        state := new, identity := some id, silenceMs := 0, quietMs := 0
        traverse := if new = .evaluating then (s.evaluationInHand ch).map (·.traverse) else none }
      ∧ ∀ k, k ≠ ch → (s.identified ch id new).chan k = s.chan k :=
  ⟨s.chan_modChan_self ch _, fun k hk => s.chan_modChan_other ch k _ hk⟩

/-- The open brackets of a state whose brackets are those of one that keeps the law. -/
theorem State.openBracket_lawful (s w : State) (ch : Chan) (law : s.calLaw) (same : w.cal.brackets = s.cal.brackets) :
    w.openBracket ch = s.openBracket ch ∧ (∀ n, w.bracket? n = s.bracket? n)
      ∧ (∀ b, w.openBracket ch = some b → w.bracket? b.number = some b) ∧ openBrackets w.cal.brackets ch ≤ 1 := by
  have opened : w.openBracket ch = s.openBracket ch := by
    unfold State.openBracket
    rw [same]
  have found : ∀ n, w.bracket? n = s.bracket? n := fun n => by
    unfold State.bracket?
    rw [same]
  obtain ⟨_, _, _, atMostOne, _⟩ := id law
  exact ⟨opened, found, fun b hb => (found _).trans (s.bracket?_of_open ch b law (opened.symm.trans hb)),
    by rw [same]; exact atMostOne ch⟩

/-- A HELLO of another probe than the open bracket's, with no evaluation in hand (R46). -/
theorem execHello_failsBracket (ch : Chan) (id : Identity) (s : State) (b : Bracket) (x : Session) (awake : s.awake)
    (off : (s.chan ch).state = .offline) (hx : s.session = some x) (law : s.calLaw)
    (idle : s.evaluationInHand ch = none) (hb : s.openBracket ch = some b)
    (changed : s.bracketChanged ch id.probe = true) :
    ∃ t, exec (.hello ch id) s = .next t
      ∧ (t.chan ch).state = .needsCal ∧ (t.chan ch).identity = some id
      ∧ (∀ c, c ≠ ch → t.chan c = s.chan c) ∧ t.openBracket ch = none
      ∧ (∃ b', t.bracket? b.number = some b' ∧ b'.state = .closedFail ∧ b'.cause = some .probeChanged
          ∧ b'.closedAt = some x.seconds ∧ b'.traverses = b.traverses ∧ b'.sweep ≠ .none)
      ∧ (∀ n, n ≠ b.number → t.bracket? n = s.bracket? n)
      ∧ t.cal.log = s.cal.log ∧ t.session = s.session ∧ t.store = s.store
      ∧ t.comparisons = s.comparisons ∧ t.config = s.config := by
  have state : s.helloState ch id.probe = .needsCal := by simp [State.helloState, changed]
  let s1 := s.identified ch id .needsCal
  have checked : s1.checkIdentity ch id.probe = s1.failBracket ch .probeChanged := by
    simp only [s1, s.checkIdentity_identified, changed, idle, Option.isSome_none, Bool.and_false, Bool.false_eq_true,
      if_false, if_true]
  obtain ⟨opened, _, found, one⟩ := s.openBracket_lawful s1 ch law rfl
  obtain ⟨none_, _, log, closes, _⟩ := s1.failBracket_does ch .probeChanged found one
  obtain ⟨⟨b', hb', closedFail, cause, closedAt, rest⟩, others⟩ := closes b (opened.trans hb)
  let s2 := s1.failBracket ch .probeChanged
  have chan : ∀ k, s2.chan k = s1.chan k := fun k => by simp [s2, State.chan]
  obtain ⟨own, besides⟩ := s.chan_identified ch id .needsCal
  have needsCal : (s2.chan ch).state = .needsCal := by rw [chan, own]
  have run := execHello_offline ch id s awake off
  rw [s.linkUp_eq, state, checked] at run
  obtain ⟨chanT, othersT, store, session, cal, comparisons, config, _⟩ :=
    s2.comeUp_does ch .needsCal (permitOf s2.session .needsCal) (by rw [needsCal]; decide)
  have time : s1.time = x.seconds := by simp [State.time, State.time?, s1, State.identified, hx]
  have read : ∀ n, (s2.comeUp ch .needsCal (permitOf s2.session .needsCal)).bracket? n = s2.bracket? n := fun n => by
    unfold State.bracket?
    rw [cal]
  refine ⟨_, run, by rw [chanT]; exact needsCal, ?_, fun k hk => (othersT k hk).trans ((chan k).trans (besides k hk)),
    (State.openBracket_congr s2 _ ch cal).trans none_,
    ⟨b', (read _).trans hb', closedFail, cause, by rw [closedAt, time], rest⟩,
    fun n hn => (read n).trans (others n hn), by rw [cal]; exact log, ?_, ?_, ?_, ?_⟩
  · rw [chanT, chan, own]
  · exact session.trans (s1.session_failBracket ch _)
  · exact store.trans (s1.store_failBracket ch _)
  · exact comparisons.trans (s1.comparisons_failBracket ch _)
  · exact config.trans (s1.config_failBracket ch _)

/-- The open bracket of a HELLO's channel, failed where its probe differs (R46). -/
theorem State.bracketChecked_does (s w : State) (ch : Chan) (failing : Bool) (law : s.calLaw)
    (same : w.cal.brackets = s.cal.brackets) :
    let t := if failing then w.failBracket ch .probeChanged else w
    t.channels = w.channels ∧ t.store = w.store ∧ t.session = w.session ∧ t.comparisons = w.comparisons
      ∧ t.config = w.config ∧ t.cal.attempts = w.cal.attempts ∧ t.cal.log = w.cal.log
      ∧ (failing = false → t.cal.brackets = s.cal.brackets)
      ∧ (failing = true → ∀ b, s.openBracket ch = some b → t.openBracket ch = none
          ∧ ∃ b', t.bracket? b.number = some b' ∧ b'.state = .closedFail ∧ b'.cause = some .probeChanged)
      ∧ ∃ es, w.raised t es ∧ es.filter Event.isStoreNews = [] := by
  intro t
  cases failing with
  | false => exact ⟨rfl, rfl, rfl, rfl, rfl, rfl, rfl, fun _ => same, nofun, [], w.raised_refl, rfl⟩
  | true =>
    obtain ⟨opened, _, found, one⟩ := s.openBracket_lawful w ch law same
    obtain ⟨none_, attempts, log, closes, es, news, _, quiet⟩ := w.failBracket_does ch .probeChanged found one
    refine ⟨w.channels_failBracket ch _, w.store_failBracket ch _, w.session_failBracket ch _,
      w.comparisons_failBracket ch _, w.config_failBracket ch _, attempts, log, nofun, fun _ b hb => ⟨none_, ?_⟩, es,
      news, quiet⟩
    obtain ⟨⟨b', hb', closedFail, cause, _⟩, _⟩ := closes b (opened.trans hb)
    exact ⟨b', hb', closedFail, cause⟩

/-- A HELLO of another probe than that of the evaluation in hand or the open bracket's (R46). -/
theorem execHello_abandons (ch : Chan) (id : Identity) (s : State) (a : Attempt) (tr : Traverse) (awake : s.awake)
    (off : (s.chan ch).state = .offline) (law : s.calLaw) (ha : s.evaluationInHand ch = some a)
    (live : s.trav? a.traverse = some tr)
    (ending : tr.state = .finishing ∨ tr.state = .complete ∧ tr.target.kind = .calibration)
    (changed : s.evaluationChanged ch id.probe = true ∨ s.bracketChanged ch id.probe = true) :
    ∃ t, exec (.hello ch id) s = .next t ∧ t.attempt? ch = none
      ∧ (tr.archived = false → ∃ tr', t.trav? a.traverse = some tr' ∧ tr'.state = .aborted ∧ tr'.settled = true)
      ∧ (tr.state = .complete → (s.chan ch).bufA.pendingFor a.traverse = false →
          (s.chan ch).bufB.pendingFor a.traverse = false →
          s.goesOrStays t a.traverse tr tr.freedBySettling (fun u =>
            u.state = .aborted ∧ u.endTime = tr.endTime ∧ tr.settledTo u)
          ∧ ∃ es, t.stations = (s.raiseAll es).stations ∧ es.filter Event.isStoreNews
              = s.releaseNews t a.traverse tr tr.freedBySettling)
      ∧ (t.chan ch).state = .needsCal ∧ (t.chan ch).identity = some id
      ∧ (t.chan ch).linkLossMark = false
      ∧ (s.chan ch).sent ++ [.calResult a.traverse (.rejected .aborted)] <+: (t.chan ch).sent
      ∧ (s.bracketChanged ch id.probe = false → t.cal.brackets = s.cal.brackets)
      ∧ (s.bracketChanged ch id.probe = true → ∀ b, s.openBracket ch = some b →
          t.openBracket ch = none ∧ ∃ b', t.bracket? b.number = some b'
            ∧ b'.state = .closedFail ∧ b'.cause = some .probeChanged)
      ∧ (∀ c, c ≠ ch → t.chan c = s.chan c ∧ t.attempt? c = s.attempt? c)
      ∧ t.cal.log = s.cal.log ∧ t.session = s.session ∧ t.comparisons = s.comparisons
      ∧ t.config = s.config := by
  have either : (s.evaluationChanged ch id.probe || s.bracketChanged ch id.probe) = true := by simpa using changed
  have state : s.helloState ch id.probe = .needsCal := if_pos either
  let s1 := s.identified ch id .needsCal
  obtain ⟨own, besides⟩ := s.chan_identified ch id .needsCal
  have attempt : s1.attempt? ch = some a := s.attempt_of_evaluation ch a ha
  let w := s1.abortCalibration ch
  let v := if s.bracketChanged ch id.probe then w.failBracket ch .probeChanged else w
  have checked : s1.checkIdentity ch id.probe = v := by
    simp only [s1, s.checkIdentity_identified, either, ha, Option.isSome_some, Bool.and_self, if_true]
    rfl
  obtain ⟨ends, storeW, ended, ⟨bufA, bufB, chanW⟩, sessionW, _⟩ := s1.abortCalibration_frame ch a attempt
  obtain ⟨es, news, releases⟩ := s1.abortCalibration_news ch a attempt
  obtain ⟨channelsV, storeV, sessionV, comparisonsV, configV, attemptsV, logV, kept, failed, fs, told, quiet⟩ :=
    s.bracketChecked_does w ch (s.bracketChanged ch id.probe) law ends.brackets
  have chanV : ∀ k, v.chan k = w.chan k := fun k => congrArg (Four.get · k) channelsV
  have needsCal : (v.chan ch).state = .needsCal := by rw [chanV, ends.channel.state, own]
  let t := v.comeUp ch .needsCal (permitOf v.session .needsCal)
  have run : exec (.hello ch id) s = .next t := by
    rw [execHello_offline ch id s awake off, s.linkUp_eq, state, checked]
  obtain ⟨chanT, othersT, storeT, sessionT, calT, comparisonsT, configT, up⟩ :=
    v.comeUp_does ch .needsCal (permitOf v.session .needsCal) (by rw [needsCal]; decide)
  have attempts : ∀ k, t.attempt? k = w.attempt? k := fun k =>
    (State.attempt?_of_cal v t calT k).trans (congrArg (Four.get · k) attemptsV)
  have store : t.store = (s1.endPages ch a.traverse).store := storeT.trans (storeV.trans storeW)
  obtain ⟨_, keepsMark, _, _, sends⟩ := Channel.told_keeps
    (({ s1.chan ch with bufA := bufA, bufB := bufB } : Channel).leaveAttempt a.traverse)
    (.calResult a.traverse (.rejected .aborted))
  rw [← chanW] at keepsMark sends
  refine ⟨t, run, (attempts ch).trans ended, fun open_ => ?_, fun complete noA noB => ?_, ?_, ?_, ?_, ?_, fun no => ?_,
    fun yes b hb => ?_, fun k hk => ⟨?_, (attempts k).trans (ends.attempts k hk)⟩, ?_, ?_, ?_, ?_⟩
  · obtain ⟨u, hu, aborted, settled⟩ := s1.endPages_aborts ch a.traverse tr live ending open_
    exact ⟨u, (State.trav?_of_store _ t store _).trans hu, aborted, settled⟩
  · have kind : tr.target.kind = .calibration := by
      rcases ending with h | ⟨_, h⟩
      · exact absurd (complete.symm.trans h) (by decide)
      · exact h
    obtain ⟨goes, _⟩ := s1.endPages_complete ch a.traverse tr live complete kind (by rw [own]; exact noA)
      (by rw [own]; exact noB)
    refine ⟨State.goesOrStays_congr s s1 t (s1.endPages ch a.traverse) _ _ _ _ rfl store.symm goes,
      es ++ fs ++ [.channelChange ch .needsCal (some (permitOf v.session .needsCal))], ?_, ?_⟩
    · exact (State.raised_after s s1 t _ (s.raised_of_eq _ rfl rfl rfl)
        (State.raised_trans _ v _ _ _ (State.raised_trans _ w _ _ _ news told) up)).1
    · rw [List.filter_append, List.filter_append, quiet,
        releases tr live complete kind (by rw [own]; exact noA) (by rw [own]; exact noB), List.append_nil]
      refine (List.append_nil _).trans ?_
      exact s.releaseNews_congr s1 t w a.traverse tr _ rfl (storeW.trans store.symm)
  · rw [chanT]
    exact needsCal
  · rw [chanT, chanV]
    exact ends.channel.identity.trans (by rw [own])
  · rw [chanT, chanV]
    exact keepsMark
  · rw [chanT, chanV, sends (by rw [own]; exact nofun), own]
    exact List.prefix_append _ _
  · rw [calT]
    exact kept no
  · obtain ⟨none_, b', hb', closed⟩ := failed yes b hb
    refine ⟨(State.openBracket_congr v t ch calT).trans none_, b', ?_, closed⟩
    unfold State.bracket?
    rw [calT]
    exact hb'
  · exact (othersT k hk).trans ((chanV k).trans ((ends.others k hk).trans (besides k hk)))
  · rw [calT, logV]
    exact ends.log
  · exact sessionT.trans (sessionV.trans sessionW)
  · exact comparisonsT.trans (comparisonsV.trans ends.comparisons)
  · exact configT.trans (configV.trans ends.config)

/-- Settles O28: a HELLO by its three cases on an OFFLINE link, and on an up link after the loss. -/
theorem helloBringsTheLinkUp : Obligations.HelloBringsTheLinkUp :=
  ⟨execHello_unchanged, execHello_failsBracket, execHello_afterLoss, execHello_abandons⟩

end Sys2Proof.Machine
end

section
namespace Sys2Proof.Machine

/-! The end of an evaluation (R58). -/

/-- An event that tells of a channel's state. -/
def Event.isChannelChange : Event → Bool
  | .channelChange _ _ _ => true
  | _ => false

/-- Events that tell of channels' states only. -/
def onlyChannelChanges (es : List Event) : Prop := ∀ e ∈ es, e.isChannelChange = true

theorem filter_isStoreNews_channelChanges (es : List Event) (h : onlyChannelChanges es) :
    es.filter Event.isStoreNews = [] := by
  refine List.filter_eq_nil_iff.2 fun e he => ?_
  have change := h e he
  cases e <;> simp_all [Event.isStoreNews, Event.isChannelChange]

/-- Channel changes are none of the other events. -/
theorem count_channelChanges (es : List Event) (e : Event) (h : onlyChannelChanges es)
    (other : e.isChannelChange = false) : es.count e = 0 :=
  List.count_eq_zero.2 fun mem => Bool.false_ne_true (other.symm.trans (h e mem))

theorem State.moveChan_changes (s : State) (ch : Chan) (new : ChanState) :
    ∃ es, s.raised (s.moveChan ch new) es ∧ onlyChannelChanges es := by
  by_cases still : (s.chan ch).state = new
  · have same : s.moveChan ch new = s.refreshPermit ch := by rw [State.moveChan, State.setChan, if_pos still]
    exact ⟨[], by rw [same]; exact State.raised_refreshPermit s ch, nofun⟩
  · exact ⟨_, s.raised_moveChan ch new still, by simp [onlyChannelChanges, Event.isChannelChange]⟩

/-- The cal_due flag of a channel in any state (R49, R134). -/
theorem State.setCalDue_frame (s : State) (ch : Chan) (cause : CalDue) :
    let t := s.setCalDue ch cause
    t.openBracket ch = (s.openBracket ch).map (fun b => { b with calDue := some (b.calDue.getD cause) })
      ∧ (∀ n, (∀ b, s.openBracket ch = some b → b.number ≠ n) → t.bracket? n = s.bracket? n)
      ∧ t.cal.attempts = s.cal.attempts ∧ t.cal.log = s.cal.log
      ∧ ((s.chan ch).state ≠ .ready → t.chan ch = s.chan ch) ∧ (∀ k, k ≠ ch → t.chan k = s.chan k)
      ∧ ∃ es, s.raised t es ∧ onlyChannelChanges es := by
  intro t
  cases opened : s.openBracket ch with
  | none =>
    have same : t = s := by simp only [t, State.setCalDue, opened]
    rw [same]
    exact ⟨opened, fun _ _ => rfl, rfl, rfl, fun _ => rfl, fun _ _ => rfl, [], s.raised_refl, nofun⟩
  | some b =>
    cases flag : b.calDue with
    | some c =>
      have same : t = s := by
        simp only [t, State.setCalDue, opened, flag]
        rfl
      rw [same, opened, Option.map_some, flag, Option.getD_some, ← flag]
      exact ⟨rfl, fun _ _ => rfl, rfl, rfl, fun _ => rfl, fun _ _ => rfl, [], s.raised_refl, nofun⟩
    | none =>
      let f : Bracket → Bracket := fun b => { b with calDue := some cause }
      let m := s.modBracket b.number f
      have done : t = if (s.chan ch).state = .ready then m.moveChan ch .due else m := by
        simp only [t, State.setCalDue, opened, flag]
        rfl
      have opened' : m.openBracket ch = some (f b) := by
        rw [s.openBracket_modBracket b.number ch f (fun _ => rfl) (fun _ => rfl), opened, Option.map_some, if_pos rfl]
      have others : ∀ n, (∀ c, some b = some c → c.number ≠ n) → m.bracket? n = s.bracket? n := by
        intro n differ
        rw [s.bracket?_modBracket b.number n f fun _ => rfl]
        cases other : s.bracket? n with
        | none => rfl
        | some c => rw [Option.map_some, if_neg fun h => differ b rfl (h.symm.trans (s.bracket_number n c other))]
      rw [Option.map_some, flag]
      by_cases ready : (s.chan ch).state = .ready
      · have moved : t = m.moveChan ch .due := done.trans (if_pos ready)
        have cal : t.cal = m.cal := by rw [moved]; exact m.cal_moveChan ch _
        obtain ⟨es, news, only⟩ := m.moveChan_changes ch .due
        refine ⟨(State.openBracket_congr m t ch cal).trans opened', fun n differ => ?_, by rw [cal]; rfl,
          by rw [cal]; rfl, fun no => absurd ready no, fun k hk => ?_, es, ?_, only⟩
        · rw [← others n differ]
          unfold State.bracket?
          rw [cal]
        · rw [moved]
          exact m.chan_moveChan_other ch k _ hk
        · rw [moved]
          exact State.raised_after _ m _ _ (s.raised_modBracket _ _) news
      · have still : t = m := done.trans (if_neg ready)
        rw [still]
        exact ⟨opened', others, rfl, rfl, fun _ => rfl, fun _ _ => rfl, [], s.raised_modBracket _ _, nofun⟩

/-- The state of an evaluation that ends, its attempt gone and its link-loss mark applied (R58). -/
def State.markApplied (s : State) (ch : Chan) : State :=
  let s1 := s.setAttempt ch none
  (if (s1.chan ch).linkLossMark then s1.setCalDue ch .link else s1).modChan ch fun c => { c with linkLossMark := false }

/-- A link-loss mark as it shows on the open bracket (R58, R59). -/
def Bracket.marked (b : Bracket) (mark : Bool) : Bracket :=
  if mark then { b with calDue := some (b.calDue.getD .link) } else b

theorem State.markApplied_does (s : State) (ch : Chan) :
    let t := s.markApplied ch
    t.openBracket ch = (s.openBracket ch).map (·.marked (s.chan ch).linkLossMark)
      ∧ (∀ n, (∀ b, s.openBracket ch = some b → b.number ≠ n) → t.bracket? n = s.bracket? n)
      ∧ ((s.chan ch).linkLossMark = false → t.cal.brackets = s.cal.brackets)
      ∧ t.cal.attempts = s.cal.attempts.set ch none ∧ t.cal.log = s.cal.log
      ∧ (t.chan ch).linkLossMark = false
      ∧ ((s.chan ch).state ≠ .ready → t.chan ch = { s.chan ch with linkLossMark := false })
      ∧ (∀ k, k ≠ ch → t.chan k = s.chan k) ∧ t.store = s.store ∧ t.session = s.session
      ∧ t.comparisons = s.comparisons ∧ t.config = s.config
      ∧ ∃ es, s.raised t es ∧ onlyChannelChanges es := by
  intro t
  let clear : Channel → Channel := fun c => { c with linkLossMark := false }
  let s1 := s.setAttempt ch none
  have quiet : s.raised s1 [] := s.raised_of_eq _ rfl rfl rfl
  cases mark : (s.chan ch).linkLossMark with
  | false =>
    have done : t = s1.modChan ch clear := by
      have no : (s1.chan ch).linkLossMark = false := mark
      simp only [t, State.markApplied]
      rw [if_neg (by simp [s1, no] : ¬(s.setAttempt ch none |>.chan ch).linkLossMark = true)]
    rw [done]
    refine ⟨?_, fun _ _ => rfl, fun _ => rfl, rfl, rfl, ?_, fun _ => s1.chan_modChan_self ch clear,
      fun k hk => s1.chan_modChan_other ch k clear hk, rfl, rfl, rfl, rfl, [],
      State.raised_after _ _ _ _ quiet (s1.raised_modChan ch clear), nofun⟩
    · change s.openBracket ch = _
      cases s.openBracket ch <;> rfl
    · rw [State.chan_modChan_self]
  | true =>
    let s2 := s1.setCalDue ch .link
    have done : t = s2.modChan ch clear := by
      have yes : (s1.chan ch).linkLossMark = true := mark
      simp only [t, State.markApplied]
      rw [if_pos (by simp [s1, yes] : (s.setAttempt ch none |>.chan ch).linkLossMark = true)]
    obtain ⟨opened, others, attempts, log, own, besides, es, news, only⟩ := s1.setCalDue_frame ch .link
    rw [done]
    refine ⟨opened, others, nofun, attempts, log, ?_, fun busy => ?_, fun k hk => ?_, s1.store_setCalDue ch _,
      s1.session_setCalDue ch _, s1.comparisons_setCalDue ch _, s1.config_setCalDue ch _, es,
      State.raised_before _ s2 _ _ (State.raised_after _ s1 _ _ quiet news) (s2.raised_modChan ch clear), only⟩
    · rw [State.chan_modChan_self]
    · rw [State.chan_modChan_self]
      exact congrArg clear (own busy)
    · rw [State.chan_modChan_other _ _ _ _ hk]
      exact besides k hk

end Sys2Proof.Machine
end

section
namespace Sys2Proof.Machine

/-- A channel whose verdict is sent and which comes to rest (R58). -/
def State.verdictSent (s : State) (ch : Chan) (f : ProbeOut) : State :=
  let s4 := (s.sendProbe ch f).modChan ch fun c => { c with traverse := none }
  s4.moveChan ch (s4.restState ch)

theorem State.endEvaluation_eq (s : State) (ch : Chan) (id : Nat) (v : CalVerdict) :
    s.endEvaluation ch id v =
      if ((s.markApplied ch).chan ch).state = .evaluating then (s.markApplied ch).verdictSent ch (.calResult id v)
      else s.markApplied ch := rfl

/-- A verdict sent, and its channel at rest. -/
theorem State.verdictSent_does (s : State) (ch : Chan) (f : ProbeOut) (evaluating : (s.chan ch).state = .evaluating) :
    let t := s.verdictSent ch f
    (t.chan ch).state = s.restState ch ∧ (t.chan ch).traverse = none
      ∧ (t.chan ch).linkLossMark = (s.chan ch).linkLossMark ∧ (s.chan ch).sent ++ [f] <+: (t.chan ch).sent
      ∧ (∀ k, k ≠ ch → t.chan k = s.chan k) ∧ t.store = s.store ∧ t.session = s.session ∧ t.cal = s.cal
      ∧ t.comparisons = s.comparisons ∧ t.config = s.config
      ∧ s.raised t [.channelChange ch (t.chan ch).state (t.permitNow ch)] := by
  intro t
  let drop : Channel → Channel := fun c => { c with traverse := none }
  let m := (s.sendProbe ch f).modChan ch drop
  have own : m.chan ch = drop ((s.chan ch).told f) := by
    rw [State.chan_modChan_self]
    exact congrArg drop (s.chan_modChan_self ch (·.told f))
  obtain ⟨_, keepsMark, _, _, sends⟩ := Channel.told_keeps (s.chan ch) f
  have rest : m.restState ch = s.restState ch := rfl
  obtain ⟨notCalibrating, up⟩ := s.restState_ne ch
  have leaves : (m.chan ch).state ≠ s.restState ch := by
    have still : (m.chan ch).state = .evaluating := by
      rw [own]
      exact (Channel.leavesWork_told _ _ f (s.chan ch).leavesWork_refl).state.trans evaluating
    rw [still]
    unfold State.restState
    split
    · nofun
    · split <;> nofun
  obtain ⟨state, _, traverse, mark, _, sent⟩ := m.moveChan_keeps ch (s.restState ch) up
  rw [own] at traverse mark sent
  have news := m.raised_moveChan ch (s.restState ch) leaves
  have done : t = m.moveChan ch (s.restState ch) := rfl
  rw [done, state]
  refine ⟨rfl, traverse, mark.trans keepsMark, ?_, fun k hk => ?_, m.store_moveChan ch _, m.session_moveChan ch _,
    m.cal_moveChan ch _, m.comparisons_moveChan ch _, m.config_moveChan ch _,
    State.raised_after _ m _ _ (s.raised_of_eq _ rfl rfl rfl) news⟩
  · rw [← sends (by rw [evaluating]; decide)]
    exact sent
  · rw [State.chan_moveChan_other _ _ _ _ hk, State.chan_modChan_other _ _ _ _ hk, State.chan_sendProbe_other _ _ _ _ hk]

/-- The end of an evaluation, whatever the verdict and the state of the channel (R58). -/
theorem State.endEvaluation_does (s : State) (ch : Chan) (id : Nat) (v : CalVerdict) :
    let t := s.endEvaluation ch id v
    t.openBracket ch = (s.openBracket ch).map (·.marked (s.chan ch).linkLossMark)
      ∧ (∀ n, (∀ b, s.openBracket ch = some b → b.number ≠ n) → t.bracket? n = s.bracket? n)
      ∧ ((s.chan ch).linkLossMark = false → t.cal.brackets = s.cal.brackets)
      ∧ t.cal.attempts = s.cal.attempts.set ch none ∧ t.cal.log = s.cal.log
      ∧ (t.chan ch).linkLossMark = false
      ∧ ((s.chan ch).state = .offline → (t.chan ch).state = .offline ∧ (t.chan ch).sent = (s.chan ch).sent)
      ∧ ((s.chan ch).state = .evaluating → (t.chan ch).traverse = none
          ∧ (t.chan ch).state = t.restState ch ∧ (s.chan ch).sent ++ [.calResult id v] <+: (t.chan ch).sent)
      ∧ (∀ k, k ≠ ch → t.chan k = s.chan k) ∧ t.store = s.store ∧ t.session = s.session
      ∧ t.comparisons = s.comparisons ∧ t.config = s.config
      ∧ ∃ es, s.raised t es ∧ onlyChannelChanges es
          ∧ ((s.chan ch).state = .evaluating → .channelChange ch (t.chan ch).state (t.permitNow ch) ∈ es) := by
  intro t
  let m := s.markApplied ch
  obtain ⟨opened, found, brackets, attempts, log, mark, own, others, store, session, comparisons, config, es, news,
    only⟩ := s.markApplied_does ch
  by_cases evaluating : (m.chan ch).state = .evaluating
  · have done : t = m.verdictSent ch (.calResult id v) := (s.endEvaluation_eq ch id v).trans (if_pos evaluating)
    obtain ⟨state, traverse, mark', sent, others', store', session', cal', comparisons', config', told⟩ :=
      m.verdictSent_does ch (.calResult id v) evaluating
    rw [← done] at state traverse mark' sent others' store' session' cal' comparisons' config' told
    refine ⟨(State.openBracket_congr m t ch cal').trans opened, fun n differ => ?_, fun no => ?_, ?_, ?_,
      mark'.trans mark, fun off => ?_, fun was => ⟨traverse, ?_, ?_⟩, fun k hk => (others' k hk).trans (others k hk),
      store'.trans store, session'.trans session, comparisons'.trans comparisons, config'.trans config,
      es ++ [.channelChange ch (t.chan ch).state (t.permitNow ch)], State.raised_trans _ m _ _ _ news told,
      fun e he => ?_, fun _ => List.mem_append_right _ (List.mem_singleton_self _)⟩
    · rw [← found n differ]
      unfold State.bracket?
      rw [cal']
    · rw [cal']
      exact brackets no
    · rw [cal']
      exact attempts
    · rw [cal']
      exact log
    · have off' : (m.chan ch).state = .offline := by rw [own (by rw [off]; decide)]; exact off
      exact absurd (off'.symm.trans evaluating) (by decide)
    · rw [state]
      unfold State.restState
      rw [State.openBracket_congr m t ch cal']
    · rw [own (by rw [was]; decide)] at sent
      exact sent
    · rcases List.mem_append.1 he with old | new
      · exact only e old
      · rw [List.mem_singleton.1 new]
        rfl
  · have done : t = m := (s.endEvaluation_eq ch id v).trans (if_neg evaluating)
    have absent : (s.chan ch).state ≠ .evaluating := fun was =>
      evaluating (by rw [own (by rw [was]; decide)]; exact was)
    rw [done]
    refine ⟨opened, found, brackets, attempts, log, mark, fun off => ?_, fun was => absurd was absent, others, store,
      session, comparisons, config, es, news, only, fun was => absurd was absent⟩
    rw [own (by rw [off]; decide)]
    exact ⟨off, rfl⟩

end Sys2Proof.Machine
end

section
namespace Sys2Proof.Machine

/-! The verdict of an evaluation (R127, R128). -/

theorem execCalibrationVerdict_evaluating (ch : Chan) (s : State) (a : Attempt) (tr : Traverse) (std : Standard)
    (awake : s.awake) (ha : s.attempt? ch = some a) (stage : a.stage = .evaluating)
    (live : s.trav? a.traverse = some tr) (hstd : s.standard? a.standard = some std) :
    exec (.calibrationVerdict ch) s = .next (match evaluate std tr with
      | .error r => s.rejectCalibration ch a r
      | .ok f => s.acceptCalibration ch a f) := by
  simp only [exec, execCalibrationVerdict, s.act_awake _ awake, ha, stage, live, hstd] <;> rfl

/-- The events of a release tell of nothing but the store. -/
theorem State.count_releaseNews (s t : State) (id : Nat) (tr : Traverse) (freed : Bool) (e : Event)
    (other : e.isStoreNews = false) : (s.releaseNews t id tr freed).count e = 0 :=
  List.count_eq_zero.2 fun mem => Bool.false_ne_true (other.symm.trans (s.isStoreNews_releaseNews t id tr freed e mem))

/-- A REJECTED verdict: the traverse is settled and the evaluation ends (R127). -/
theorem State.rejectCalibration_does (s : State) (ch : Chan) (a : Attempt) (r : CalReject) (tr : Traverse)
    (live : s.trav? a.traverse = some tr) :
    let t := s.rejectCalibration ch a r
    t.cal.attempts = s.cal.attempts.set ch none ∧ (t.chan ch).linkLossMark = false
      ∧ t.cal.log = s.cal.log
      ∧ s.goesOrStays t a.traverse tr tr.freedBySettling (fun u =>
          u.bracket = tr.bracket ∧ u.state = tr.state ∧ tr.settledTo u)
      ∧ ((s.chan ch).linkLossMark = false → t.cal.brackets = s.cal.brackets)
      ∧ (∃ es, t.stations = (s.raiseAll es).stations
          ∧ es.count (.calRejected ch a.traverse r) = 1
          ∧ es.filter Event.isStoreNews = s.releaseNews t a.traverse tr tr.freedBySettling
          ∧ ((s.chan ch).state = .evaluating → .channelChange ch (t.chan ch).state (t.permitNow ch) ∈ es))
      ∧ ((s.chan ch).state = .evaluating → (t.chan ch).traverse = none
          ∧ (s.chan ch).sent ++ [.calResult a.traverse (.rejected r)] <+: (t.chan ch).sent
          ∧ ((s.chan ch).linkLossMark = false → (t.chan ch).state =
              match s.openBracket ch with
              | none => .needsCal
              | some b => if b.calDue.isSome then .due else .ready))
      ∧ ((s.chan ch).state = .offline → (t.chan ch).state = .offline ∧ (t.chan ch).sent = (s.chan ch).sent)
      ∧ (∀ k, k ≠ ch → t.chan k = s.chan k)
      ∧ t.session = s.session ∧ t.comparisons = s.comparisons ∧ t.config = s.config := by
  intro t
  let s1 := s.settle a.traverse
  let s2 := s1.endEvaluation ch a.traverse (.rejected r)
  have done : t = s2.raise (.calRejected ch a.traverse r) := rfl
  have chan : ∀ k, s1.chan k = s.chan k := fun k => by simp [s1, State.chan]
  have cal : s1.cal = s.cal := by simp [s1]
  obtain ⟨goes, _⟩ := s.settle_goesOrStays a.traverse tr live
  have news := s.raised_settle a.traverse tr live
  obtain ⟨opened, _, brackets, attempts, log, mark, offline, evaluating, others, store, session, comparisons, config, es,
    told, only, change⟩ := s1.endEvaluation_does ch a.traverse (.rejected r)
  rw [chan] at opened brackets offline evaluating change
  have storeT : t.store = s1.store := store
  refine ⟨attempts.trans (by rw [cal]), mark, log.trans (by rw [cal]), ?_,
    fun no => (brackets no).trans (by rw [cal]),
    ⟨s.releaseNews s1 a.traverse tr tr.freedBySettling ++ es ++ [.calRejected ch a.traverse r], ?_, ?_, ?_,
      fun was => ?_⟩, fun was => ?_, offline,
    fun k hk => (others k hk).trans (chan k), ?_, ?_, ?_⟩
  · refine State.goesOrStays_congr s s t s1 _ _ _ _ rfl storeT.symm (State.goesOrStays_imp _ _ _ _ _ _ _ ?_ goes)
    rintro u ⟨p, rfl, settled⟩
    exact ⟨rfl, rfl, settled⟩
  · exact (State.raised_trans s s2 t _ _ (State.raised_trans s s1 s2 _ _ news told)
      (State.raised_raise s2 (.calRejected ch a.traverse r))).1
  · rw [List.count_append, List.count_append, s.count_releaseNews _ _ _ _ (.calRejected ch a.traverse r) rfl,
      count_channelChanges es (.calRejected ch a.traverse r) only rfl, List.count_singleton_self]
  · rw [List.filter_append, List.filter_append, filter_isStoreNews_channelChanges es only,
      List.filter_eq_self.2 (s.isStoreNews_releaseNews _ _ _ _), List.append_nil]
    refine (List.append_nil _).trans ?_
    exact s.releaseNews_congr s t s1 a.traverse tr _ rfl storeT.symm
  · exact List.mem_append_left _ (List.mem_append_right _ (change was))
  · obtain ⟨traverse, state, sent⟩ := evaluating was
    refine ⟨traverse, sent, fun no => ?_⟩
    refine state.trans ?_
    have same : s2.openBracket ch = s.openBracket ch := by
      unfold State.openBracket
      rw [show s2.cal.brackets = s1.cal.brackets from brackets no, cal]
    unfold State.restState
    rw [show (s1.endEvaluation ch a.traverse (.rejected r)).openBracket ch = s.openBracket ch from same] <;> rfl
  · exact session.trans (by simp [s1])
  · exact comparisons.trans (by simp [s1])
  · exact config.trans (by simp [s1])

end Sys2Proof.Machine
end

section
namespace Sys2Proof.Machine

/-! An ACCEPTED verdict (R128): the log entry, the bracket that it closes and the one that it opens. -/

/-- The Calibration Unit once an accepted calibration is in the log, before its traverse is dealt with. -/
def State.calibrationLogged (s : State) (ch : Chan) (a : Attempt) (f : Figures) : State :=
  let e := s.newLogEntry ch a f
  let s1 := s.modCal fun x => { x with log := x.log ++ [e] }
  let s2 := match e.closed with
    | none => s1
    | some i => s1.closeBracket i.number i.good (.calibration e.number)
  s2.modCal fun x => { x with brackets := x.brackets ++ [newBracket e s.limits.capacity] }

/-- The outcome that CAL_RESULT names (R128). -/
def ClosedInfo.outcome : Option ClosedInfo → BracketOutcome
  | none => .opened
  | some i => .closed i.number i.good

/-- The sweep of a bracket that a calibration has closed (R139). -/
def State.sweptFor (s : State) : Option ClosedInfo → State
  | none => s
  | some i => s.settleSweep i.number

theorem State.acceptCalibration_eq (s : State) (ch : Chan) (a : Attempt) (f : Figures) :
    s.acceptCalibration ch a f =
      let e := s.newLogEntry ch a f
      let m := (s.calibrationLogged ch a f).modTrav a.traverse fun t => { t with bracket := some e.number }
      (((m.settle a.traverse).endEvaluation ch a.traverse (.accepted e.number (ClosedInfo.outcome e.closed))).raise
        (.calAccepted ch a.traverse e.number)).sweptFor e.closed := by
  unfold State.acceptCalibration
  simp only
  cases h : (s.newLogEntry ch a f).closed <;> simp only [State.calibrationLogged, h] <;> rfl

/-- What the log and the brackets leave of the rest of the state. -/
theorem State.calibrationLogged_keeps (s : State) (ch : Chan) (a : Attempt) (f : Figures) :
    let t := s.calibrationLogged ch a f
    t.store = s.store ∧ t.channels = s.channels ∧ t.session = s.session ∧ t.stations = s.stations
      ∧ t.comparisons = s.comparisons ∧ t.config = s.config ∧ t.cal.attempts = s.cal.attempts
      ∧ t.cal.log = s.cal.log ++ [s.newLogEntry ch a f] := by
  intro t
  simp only [t, State.calibrationLogged]
  cases (s.newLogEntry ch a f).closed <;> exact ⟨rfl, rfl, rfl, rfl, rfl, rfl, rfl, rfl⟩

/-- The closing comparison of a new entry, with no bracket open (R131). -/
theorem State.newLogEntry_opens (s : State) (ch : Chan) (a : Attempt) (f : Figures) (hb : s.openBracket ch = none) :
    (s.newLogEntry ch a f).closed = none := by
  simp only [State.newLogEntry, hb, Option.map_none]

/-- Every bracket's opening entry is in the log (R131, R132). -/
theorem State.openingEntry (s : State) (law : s.calLaw) (b : Bracket) (mem : b ∈ s.cal.brackets) :
    ∃ o, s.logEntry? b.openingLog = some o := by
  obtain ⟨_, numbers, opening, _⟩ := law
  have logged : b.number ∈ s.cal.log.map (·.number) := numbers ▸ List.mem_map_of_mem mem
  obtain ⟨o, ho, same⟩ := List.mem_map.1 logged
  refine Option.isSome_iff_exists.1 (List.find?_isSome.2 ⟨o, ho, ?_⟩)
  rw [opening b mem, ← same]
  exact beq_self_eq_true _

/-- Brackets are numbered no higher than the log is long (R131, R132). -/
theorem State.bracket_number_le (s : State) (law : s.calLaw) (b : Bracket) (mem : b ∈ s.cal.brackets) :
    b.number ≤ s.cal.log.length := by
  obtain ⟨order, numbers, _⟩ := law
  have logged : b.number ∈ List.range' 1 s.cal.log.length := order ▸ numbers ▸ List.mem_map_of_mem mem
  have := (List.mem_range'_1.1 logged).2
  omega

/-- The closing comparison of a new entry, with a bracket open (R131, R136). -/
theorem State.newLogEntry_closes (s : State) (ch : Chan) (a : Attempt) (f : Figures) (law : s.calLaw) (old : Bracket)
    (hb : s.openBracket ch = some old) :
    ∃ o, s.logEntry? old.openingLog = some o
      ∧ (s.newLogEntry ch a f).closed = some (closingComparison old.number o.rho o.flaws f.flaws) := by
  obtain ⟨mem, _, _⟩ := s.openBracket_spec ch old hb
  obtain ⟨o, ho⟩ := s.openingEntry law old mem
  refine ⟨o, ho, ?_⟩
  simp only [State.newLogEntry, hb, Option.map_some, ho, Option.getD_some]

/-- A bracket appended to those of a channel with none open is its open one. -/
theorem State.openBracket_append (s : State) (ch : Chan) (b : Bracket) (none_ : s.openBracket ch = none)
    (channel : b.channel = ch) (opened : b.state = .opened) :
    (s.modCal fun x => { x with brackets := x.brackets ++ [b] }).openBracket ch = some b := by
  unfold State.openBracket at none_ ⊢
  refine (List.find?_append ..).trans ?_
  rw [none_]
  simp [channel, opened]

/-- A bracket appended is not found under another number. -/
theorem State.bracket?_append (s : State) (n : Nat) (b : Bracket) (other : b.number ≠ n) :
    (s.modCal fun x => { x with brackets := x.brackets ++ [b] }).bracket? n = s.bracket? n := by
  unfold State.bracket?
  refine (List.find?_append ..).trans ?_
  simp [other]

/-- The brackets once an accepted calibration is in the log (R128, R132, R137). -/
theorem State.calibrationLogged_brackets (s : State) (ch : Chan) (a : Attempt) (f : Figures) (law : s.calLaw) :
    let e := s.newLogEntry ch a f
    let t := s.calibrationLogged ch a f
    t.openBracket ch = some (newBracket e s.limits.capacity)
      ∧ ∀ old info, s.openBracket ch = some old → e.closed = some info →
          t.bracket? info.number = some (old.closed info.good (.calibration e.number) s.time)
            ∧ info.number = old.number ∧ e.number ≠ info.number := by
  intro e t
  let s1 := s.modCal fun x => { x with log := x.log ++ [e] }
  let new := newBracket e s.limits.capacity
  cases hb : s.openBracket ch with
  | none =>
    have closed : e.closed = none := s.newLogEntry_opens ch a f hb
    have done : t = s1.modCal fun x => { x with brackets := x.brackets ++ [new] } := by
      simp only [t, State.calibrationLogged]
      rw [show (s.newLogEntry ch a f).closed = none from closed]
    rw [done]
    exact ⟨s1.openBracket_append ch new hb rfl rfl, nofun⟩
  | some old =>
    obtain ⟨o, _, closed⟩ := s.newLogEntry_closes ch a f law old hb
    obtain ⟨mem, _, _⟩ := s.openBracket_spec ch old hb
    let i := closingComparison old.number o.rho o.flaws f.flaws
    let g : Bracket → Bracket := (·.closed i.good (.calibration e.number) s.time)
    have done : t = (s1.modBracket old.number g).modCal fun x => { x with brackets := x.brackets ++ [new] } := by
      simp only [t, State.calibrationLogged]
      rw [show (s.newLogEntry ch a f).closed = some i from closed]
      rfl
    obtain ⟨_, _, _, atMostOne, _⟩ := id law
    have shut : (s1.modBracket old.number g).openBracket ch = none :=
      s1.openBracket_shut ch old g (atMostOne ch) hb fun c => by
        simp only [g, Bracket.closed]
        split <;> nofun
    have later : e.number ≠ old.number := by
      have := s.bracket_number_le law old mem
      change s.cal.log.length + 1 ≠ old.number
      omega
    rw [done]
    refine ⟨State.openBracket_append _ ch new shut rfl rfl, fun old' info hold hinfo => ?_⟩
    obtain rfl := Option.some.inj hold
    obtain rfl : i = info := Option.some.inj (closed.symm.trans hinfo)
    exact ⟨(State.bracket?_append _ old.number new later).trans
      (s1.bracket?_modBracket_self old.number g old (fun _ => rfl) (s.bracket?_of_open ch old law hb)), rfl, later⟩

/-- The sweep of a closed bracket begun (R139). -/
theorem State.settleSweep_running (s : State) (n : Nat) (c : Bracket) (hc : s.bracket? n = some c)
    (running : c.sweep = .running) :
    let t := s.settleSweep n
    let dead := c.toPresent.all fun r => (s.trav? r).isNone
    ∃ left, t.cal = (s.modBracket n fun b =>
          { b with sweep := if dead then .done else b.sweep, toPresent := left }).cal
      ∧ s.raised t (if dead then [.bracketClosed c.channel n (c.state == .closedGood) (c.retests.getD 0)] else []) := by
  intro t dead
  rcases s.settleSweep_cases n c hc running with ⟨all, done⟩ | ⟨some_, left, done⟩
  · have ended : dead = true := all
    have same : t = _ := done
    refine ⟨[], ?_, ?_⟩
    · rw [same, ended]
      rfl
    · rw [same, ended]
      exact State.raised_after _ _ _ _ (s.raised_modBracket _ _) (State.raised_raise _ _)
  · have ended : dead = false := some_
    have same : t = _ := done
    refine ⟨left, ?_, ?_⟩
    · rw [same, ended]
      rfl
    · rw [same, ended]
      exact s.raised_modBracket _ _

end Sys2Proof.Machine
end

section
namespace Sys2Proof.Machine

/-- What a release tells of a traverse is read off the flag before it, its target and its pages. -/
theorem State.releaseNews_entry (s m t : State) (id : Nat) (tr u : Traverse) (freed : Bool)
    (store : m.store.low = s.store.low) (target : u.target = tr.target) (pages : u.pages = tr.pages) :
    m.releaseNews t id u freed = s.releaseNews t id tr freed := by
  simp only [State.releaseNews, store, target, pages]

/-- The traverse of an accepted calibration joins its bracket and is settled (R128, R83). -/
theorem State.joinsAndSettles (s m : State) (id n : Nat) (tr : Traverse) (live : s.trav? id = some tr)
    (store : m.store = s.store) :
    let t := (m.modTrav id fun t => { t with bracket := some n }).settle id
    s.goesOrStays t id tr tr.freedBySettling (fun u =>
        u.bracket = some n ∧ u.state = tr.state ∧ tr.settledTo u)
      ∧ m.raised t (s.releaseNews t id tr tr.freedBySettling) := by
  intro t
  let f : Traverse → Traverse := fun t => { t with bracket := some n }
  let m1 := m.modTrav id f
  have liveM : m.trav? id = some tr := (State.trav?_of_store s m store id).trans live
  have live1 : m1.trav? id = some (f tr) := m.trav_modTrav_self id f tr (fun _ => rfl) liveM
  obtain ⟨⟨others, reserved, goes, stays⟩, _⟩ := m1.settle_goesOrStays id (f tr) live1
  have news := m1.raised_settle id (f tr) live1
  have pool : m1.store.pool = s.store.pool := (congrArg Store.pool store :)
  have low : m1.store.low = s.store.low := (congrArg Store.low store :)
  have pages : m1.store.reservedPages = s.store.reservedPages := (congrArg Store.reservedPages store :)
  rw [s.releaseNews_entry m1 _ id tr (f tr) _ low rfl rfl] at news
  rw [pool, low] at goes stays
  refine ⟨⟨fun n hn => ?_, reserved.trans pages, goes, fun kept => ?_⟩,
    State.raised_after _ m1 _ _ (m.raised_of_eq _ rfl rfl rfl) news⟩
  · exact (others n hn).trans ((m.trav_modTrav_other id n f (fun _ => rfl) hn).trans (State.trav?_of_store s m store n))
  · obtain ⟨samePool, sameLow, u, hu, p, rfl, settled⟩ := stays kept
    exact ⟨samePool, sameLow, _, hu, rfl, rfl, settled⟩

/-- A mark shows on a bracket's cal_due only. -/
theorem Bracket.marked_eq (b : Bracket) (mark : Bool) (clear : b.calDue = none) :
    b.marked mark = { b with calDue := if mark then some .link else none } := by
  cases mark with
  | false =>
    rw [← clear]
    rfl
  | true => simp [Bracket.marked, clear]

/-- The sweep that an accepted calibration begins leaves all but brackets and links. -/
theorem State.sweptFor_keeps (s : State) (closed : Option ClosedInfo) :
    let t := s.sweptFor closed
    t.store = s.store ∧ t.channels = s.channels ∧ t.session = s.session ∧ t.comparisons = s.comparisons
      ∧ t.config = s.config ∧ t.cal.log = s.cal.log := by
  intro t
  cases closed with
  | none => exact ⟨rfl, rfl, rfl, rfl, rfl, rfl⟩
  | some i =>
    exact ⟨s.store_settleSweep _, s.channels_settleSweep _, s.session_settleSweep _, s.comparisons_settleSweep _,
      s.config_settleSweep _, s.log_settleSweep _⟩

/-- What the sweep of the bracket `old` that a calibration has closed tells at once (R139). -/
def State.sweepNews (s : State) (old : ClosedInfo → Bracket) : Option ClosedInfo → List Event
  | none => []
  | some i =>
    if (old i).toPresent.all fun r => (s.trav? r).isNone then
      [.bracketClosed (old i).channel i.number ((old i).state == .closedGood) ((old i).retests.getD 0)]
    else []

theorem State.mem_sweepNews (s : State) (old : ClosedInfo → Bracket) (closed : Option ClosedInfo) (e : Event)
    (h : e ∈ s.sweepNews old closed) : ∃ c n good retests, e = .bracketClosed c n good retests := by
  cases closed with
  | none => exact absurd h List.not_mem_nil
  | some i =>
    simp only [State.sweepNews] at h
    split at h
    · exact ⟨_, _, _, _, List.mem_singleton.1 h⟩
    · exact absurd h List.not_mem_nil

/-- The sweep that an accepted calibration begins on the bracket that it closes (R139). -/
theorem State.sweptFor_does (s : State) (ch : Chan) (closed : Option ClosedInfo) (new : Bracket)
    (opened : s.openBracket ch = some new) (old : ClosedInfo → Bracket)
    (found : ∀ i, closed = some i → s.bracket? i.number = some (old i) ∧ (old i).sweep = .running
      ∧ new.number ≠ i.number) :
    let t := s.sweptFor closed
    let dead : ClosedInfo → Bool := fun i => (old i).toPresent.all fun r => (s.trav? r).isNone
    t.openBracket ch = some new ∧ t.cal.attempts = s.cal.attempts
      ∧ (∀ i, closed = some i → ∃ left, t.bracket? i.number = some
          { old i with sweep := if dead i then .done else .running, toPresent := left })
      ∧ s.raised t (s.sweepNews old closed) := by
  intro t dead
  cases closed with
  | none => exact ⟨opened, rfl, nofun, s.raised_refl⟩
  | some i =>
    obtain ⟨here, running, differ⟩ := found i rfl
    obtain ⟨left, cal, news⟩ := s.settleSweep_running i.number (old i) here running
    let g : Bracket → Bracket := fun b => { b with sweep := if dead i then .done else b.sweep, toPresent := left }
    have calT : t.cal = (s.modBracket i.number g).cal := cal
    refine ⟨?_, by rw [calT]; rfl, fun j hj => ⟨left, ?_⟩, news⟩
    · refine (State.openBracket_congr (s.modBracket i.number g) t ch calT).trans ?_
      rw [s.openBracket_modBracket i.number ch g (fun _ => rfl) (fun _ => rfl), opened, Option.map_some, if_neg differ]
    · obtain rfl := Option.some.inj hj
      have read : t.bracket? i.number = (s.modBracket i.number g).bracket? i.number := by
        unfold State.bracket?
        rw [calT]
      rw [read, s.bracket?_modBracket_self i.number g (old i) (fun _ => rfl) here]
      simp only [g, running]

end Sys2Proof.Machine
end

section
namespace Sys2Proof.Machine

@[simp] theorem Bracket.number_marked (b : Bracket) (mark : Bool) : (b.marked mark).number = b.number := by
  cases mark <;> rfl

/-- An accepted calibration up to the sweep that it begins: the log entry, the traverse, the new bracket, the one that it
closes, and the channel (R128). -/
theorem State.acceptance_does (s : State) (ch : Chan) (a : Attempt) (f : Figures) (tr : Traverse) (law : s.calLaw)
    (live : s.trav? a.traverse = some tr) :
    let e := s.newLogEntry ch a f
    let m := (s.calibrationLogged ch a f).modTrav a.traverse fun t => { t with bracket := some e.number }
    let v := CalVerdict.accepted e.number (ClosedInfo.outcome e.closed)
    let t := ((m.settle a.traverse).endEvaluation ch a.traverse v).raise (.calAccepted ch a.traverse e.number)
    t.openBracket ch = some ((newBracket e s.limits.capacity).marked (s.chan ch).linkLossMark)
      ∧ (∀ old info, s.openBracket ch = some old → e.closed = some info →
          t.bracket? info.number = some (old.closed info.good (.calibration e.number) s.time)
            ∧ info.number = old.number ∧ e.number ≠ info.number)
      ∧ t.cal.attempts = s.cal.attempts.set ch none ∧ t.cal.log = s.cal.log ++ [e]
      ∧ (t.chan ch).linkLossMark = false
      ∧ s.goesOrStays t a.traverse tr tr.freedBySettling (fun u =>
          u.bracket = some e.number ∧ u.state = tr.state ∧ tr.settledTo u)
      ∧ ((s.chan ch).state = .offline → (t.chan ch).state = .offline ∧ (t.chan ch).sent = (s.chan ch).sent)
      ∧ ((s.chan ch).state = .evaluating → (t.chan ch).traverse = none
          ∧ (t.chan ch).state = t.restState ch ∧ (s.chan ch).sent ++ [.calResult a.traverse v] <+: (t.chan ch).sent)
      ∧ (∀ k, k ≠ ch → t.chan k = s.chan k) ∧ t.session = s.session ∧ t.comparisons = s.comparisons
      ∧ t.config = s.config
      ∧ ∃ es, s.raised t (s.releaseNews t a.traverse tr tr.freedBySettling ++ es
            ++ [.calAccepted ch a.traverse e.number])
          ∧ onlyChannelChanges es
          ∧ ((s.chan ch).state = .evaluating → .channelChange ch (t.chan ch).state (t.permitNow ch) ∈ es) := by
  intro e m v t
  let l := s.calibrationLogged ch a f
  let s4 := m.settle a.traverse
  obtain ⟨storeL, channelsL, sessionL, stationsL, comparisonsL, configL, attemptsL, logL⟩ := s.calibrationLogged_keeps ch a f
  obtain ⟨openedL, closedL⟩ := s.calibrationLogged_brackets ch a f law
  have cal : s4.cal = l.cal := (by simp [s4] : s4.cal = m.cal).trans rfl
  have chan : ∀ k, s4.chan k = s.chan k := fun k =>
    (by simp [s4, State.chan] : s4.chan k = m.chan k).trans (congrArg (Four.get · k) channelsL)
  obtain ⟨goes, news⟩ := s.joinsAndSettles l a.traverse e.number tr live storeL
  have quiet : s.raised l [] := s.raised_of_eq _ stationsL sessionL configL
  obtain ⟨opened, found, _, attempts, log, mark, offline, evaluating, others, store, session, comparisons, config, es,
    told, only, change⟩ := s4.endEvaluation_does ch a.traverse v
  rw [State.openBracket_congr l s4 ch cal] at opened found
  rw [chan] at opened offline evaluating change
  have storeT : t.store = s4.store := store
  refine ⟨opened.trans (by rw [openedL]; rfl), fun old info hold hinfo => ?_, attempts.trans (by rw [cal, attemptsL]),
    log.trans (by rw [cal, logL]), mark, State.goesOrStays_congr s s t s4 _ _ _ _ rfl storeT.symm goes, offline,
    evaluating, fun k hk => (others k hk).trans (chan k), session.trans ?_, comparisons.trans ?_, config.trans ?_,
    es, ?_, only, change⟩
  · obtain ⟨here, same, differ⟩ := closedL old info hold hinfo
    refine ⟨(found info.number fun b hb => ?_).trans ?_, same, differ⟩
    · obtain rfl := Option.some.inj (openedL.symm.trans hb)
      exact differ
    · refine Eq.trans ?_ here
      unfold State.bracket?
      rw [cal]
  · exact (by simp [s4] : s4.session = m.session).trans sessionL
  · exact (by simp [s4] : s4.comparisons = m.comparisons).trans comparisonsL
  · exact (by simp [s4] : s4.config = m.config).trans configL
  · rw [s.releaseNews_congr s t s4 a.traverse tr _ rfl storeT.symm] at news
    exact State.raised_trans s _ t _ _ (State.raised_trans s s4 _ _ _ (State.raised_after s l s4 _ quiet news) told)
      (State.raised_raise _ _)

end Sys2Proof.Machine
end

section
namespace Sys2Proof.Machine

/-- The rest of a channel whose open bracket was opened without a cal_due flag (R58, R59). -/
theorem State.restState_marked (s : State) (ch : Chan) (b : Bracket) (mark : Bool) (opened : s.openBracket ch = some b)
    (calDue : b.calDue = if mark then some .link else none) :
    s.restState ch = if mark then .due else .ready := by
  unfold State.restState
  rw [opened]
  simp only [calDue]
  cases mark <;> rfl

/-- An ACCEPTED verdict: the entry, the bracket that it closes with its sweep, the one that it opens, and the channel
(R128, R131, R137). -/
theorem State.acceptCalibration_does (s : State) (ch : Chan) (a : Attempt) (f : Figures) (tr : Traverse) (law : s.calLaw)
    (live : s.trav? a.traverse = some tr) :
    let t := s.acceptCalibration ch a f
    let e := s.newLogEntry ch a f
    let mark := (s.chan ch).linkLossMark
    let dead := fun (old : Bracket) => old.traverses.all fun n => (t.trav? n).isNone
    t.cal.attempts = s.cal.attempts.set ch none ∧ (t.chan ch).linkLossMark = false
      ∧ t.cal.log = s.cal.log ++ [e]
      ∧ t.openBracket ch = some { newBracket e s.limits.capacity with calDue := if mark then some .link else none }
      ∧ s.goesOrStays t a.traverse tr tr.freedBySettling (fun u =>
          u.bracket = some e.number ∧ u.state = tr.state ∧ tr.settledTo u)
      ∧ (∀ old info, s.openBracket ch = some old → e.closed = some info →
          info.number = old.number ∧ ∃ left, t.bracket? old.number = some
            { old.closed info.good (.calibration e.number) s.time with
              sweep := if dead old then .done else .running, toPresent := left })
      ∧ (∃ es, t.stations = (s.raiseAll es).stations
          ∧ es.count (.calAccepted ch a.traverse e.number) = 1
          ∧ es.filter Event.isStoreNews = s.releaseNews t a.traverse tr tr.freedBySettling
          ∧ ((s.chan ch).state = .evaluating → .channelChange ch (t.chan ch).state (t.permitNow ch) ∈ es)
          ∧ (∀ old info, s.openBracket ch = some old → e.closed = some info →
              es.count (.bracketClosed ch old.number info.good 0) = if dead old then 1 else 0))
      ∧ ((s.chan ch).state = .evaluating → (t.chan ch).traverse = none
          ∧ (t.chan ch).state = (if mark then .due else .ready)
          ∧ (s.chan ch).sent ++ [.calResult a.traverse (.accepted e.number (ClosedInfo.outcome e.closed))]
              <+: (t.chan ch).sent)
      ∧ ((s.chan ch).state = .offline → (t.chan ch).state = .offline ∧ (t.chan ch).sent = (s.chan ch).sent)
      ∧ (∀ k, k ≠ ch → t.chan k = s.chan k)
      ∧ t.session = s.session ∧ t.comparisons = s.comparisons ∧ t.config = s.config := by
  intro t e mark dead
  let m := (s.calibrationLogged ch a f).modTrav a.traverse fun t => { t with bracket := some e.number }
  let u := ((m.settle a.traverse).endEvaluation ch a.traverse (.accepted e.number (ClosedInfo.outcome e.closed))).raise
    (.calAccepted ch a.traverse e.number)
  have done : t = u.sweptFor e.closed := s.acceptCalibration_eq ch a f
  obtain ⟨openedU, closedU, attemptsU, logU, markU, goesU, offlineU, evaluatingU, othersU, sessionU, comparisonsU, configU,
    changes, newsU, only, change⟩ := s.acceptance_does ch a f tr law live
  let new := (newBracket e s.limits.capacity).marked mark
  let old : ClosedInfo → Bracket := fun i =>
    ((s.openBracket ch).getD new).closed i.good (.calibration e.number) s.time
  have closes : ∀ i, e.closed = some i → ∃ b, s.openBracket ch = some b := by
    intro i hi
    cases hb : s.openBracket ch with
    | none => exact absurd ((s.newLogEntry_opens ch a f hb).symm.trans hi) nofun
    | some b => exact ⟨b, rfl⟩
  have found : ∀ i, e.closed = some i → u.bracket? i.number = some (old i) ∧ (old i).sweep = .running
      ∧ new.number ≠ i.number := by
    intro i hi
    obtain ⟨b, hb⟩ := closes i hi
    obtain ⟨here, _, differ⟩ := closedU b i hb hi
    refine ⟨by simp only [old, hb]; exact here, rfl, ?_⟩
    rw [Bracket.number_marked]
    exact differ
  obtain ⟨openedT, attemptsT, sweeps, newsT⟩ := u.sweptFor_does ch e.closed new openedU old found
  obtain ⟨storeT, channelsT, sessionT, comparisonsT, configT, logT⟩ := u.sweptFor_keeps e.closed
  let sweepNews := u.sweepNews old e.closed
  rw [← done] at openedT attemptsT sweeps newsT storeT channelsT sessionT comparisonsT configT logT
  have chan : ∀ k, t.chan k = u.chan k := fun k => congrArg (Four.get · k) channelsT
  have sameDead : ∀ b : Bracket, (b.traverses.all fun r => (u.trav? r).isNone) = dead b := fun b => by
    simp only [dead, State.trav?_of_store u t storeT]
  have permit : t.permitNow ch = u.permitNow ch := State.permitNow_congr u t ch sessionT (by rw [chan])
  have newEq : new = { newBracket e s.limits.capacity with calDue := if mark then some .link else none } :=
    Bracket.marked_eq _ mark rfl
  have release : s.releaseNews t a.traverse tr tr.freedBySettling = s.releaseNews u a.traverse tr tr.freedBySettling :=
    s.releaseNews_congr s t u a.traverse tr _ rfl storeT.symm |>.symm
  rw [← newEq]
  refine ⟨attemptsT.trans attemptsU, by rw [chan]; exact markU, logT.trans logU, openedT,
    State.goesOrStays_congr s s t u _ _ _ _ rfl storeT.symm goesU, fun b i hb hi => ?_,
    ⟨s.releaseNews u a.traverse tr tr.freedBySettling ++ changes ++ [.calAccepted ch a.traverse e.number] ++ sweepNews,
      (State.raised_trans s u t _ _ newsU newsT).1, ?_, ?_, fun was => ?_, fun b i hb hi => ?_⟩, fun was => ?_,
    fun off => ?_, fun k hk => (chan k).trans (othersU k hk), sessionT.trans sessionU, comparisonsT.trans comparisonsU,
    configT.trans configU⟩
  · obtain ⟨_, same, _⟩ := closedU b i hb hi
    obtain ⟨left, here⟩ := sweeps i hi
    refine ⟨same, left, ?_⟩
    rw [← same, here]
    simp only [old, hb, Option.getD_some]
    rw [show ((b.closed i.good (.calibration e.number) s.time).toPresent.all fun r => (u.trav? r).isNone) = dead b from
      sameDead b]
  · have none_ : sweepNews.count (.calAccepted ch a.traverse e.number) = 0 := List.count_eq_zero.2 fun mem => by
      obtain ⟨_, _, _, _, same⟩ := u.mem_sweepNews old e.closed _ mem
      exact absurd same nofun
    rw [List.count_append, List.count_append, List.count_append, none_,
      s.count_releaseNews _ _ _ _ (.calAccepted ch a.traverse e.number) rfl,
      count_channelChanges changes (.calAccepted ch a.traverse e.number) only rfl, List.count_singleton_self]
  · have none_ : sweepNews.filter Event.isStoreNews = [] := List.filter_eq_nil_iff.2 fun x hx => by
      obtain ⟨_, _, _, _, rfl⟩ := u.mem_sweepNews old e.closed x hx
      exact Bool.false_ne_true
    rw [List.filter_append, List.filter_append, List.filter_append, none_, filter_isStoreNews_channelChanges changes only,
      List.filter_eq_self.2 (s.isStoreNews_releaseNews _ _ _ _), release, List.append_nil, List.append_nil]
    exact List.append_nil _
  · rw [chan, permit]
    exact List.mem_append_left _ (List.mem_append_left _ (List.mem_append_right _ (change was)))
  · obtain ⟨_, same, _⟩ := closedU b i hb hi
    obtain ⟨_, channel, _⟩ := s.openBracket_spec ch b hb
    have swept : sweepNews = if dead b then [.bracketClosed ch b.number i.good 0] else [] := by
      have isDead : ((old i).toPresent.all fun r => (u.trav? r).isNone) = dead b := by
        simp only [old, hb, Option.getD_some]
        exact sameDead b
      have verdict : ((old i).state == .closedGood) = i.good := by
        simp only [old, Bracket.closed]
        cases i.good <;> rfl
      have channel' : (old i).channel = ch := by
        simp only [old, hb, Option.getD_some]
        exact channel
      simp only [sweepNews, State.sweepNews, hi, isDead, verdict, channel', same]
      rfl
    rw [List.count_append, List.count_append, List.count_append,
      s.count_releaseNews _ _ _ _ (.bracketClosed ch b.number i.good 0) rfl,
      count_channelChanges changes (.bracketClosed ch b.number i.good 0) only rfl, swept]
    cases dead b <;> simp
  · obtain ⟨traverse, state, sent⟩ := evaluatingU was
    rw [chan]
    refine ⟨traverse, state.trans ?_, sent⟩
    exact u.restState_marked ch new mark openedU (by rw [newEq])
  · rw [chan]
    exact offlineU off

end Sys2Proof.Machine
end

section
namespace Sys2Proof.Machine

/-- A flaw passes at a drift of at most 50 in phase and a tenth in amplitude (R136). -/
theorem driftOf_passes (rho : Nat) (o c : Flaw) : (driftOf rho o c).passes = true ↔
    circularDiff ((c.phase + rho) % 3600) o.theta ≤ 50 ∧ ((c.amp : Int) - o.amp).natAbs * 10 ≤ o.amp := by
  have change : (c.amp - o.amp) + (o.amp - c.amp) = ((c.amp : Int) - o.amp).natAbs := by omega
  simp only [Drift.passes, driftOf, rotate, Config.phaseDriftLimit, decide_eq_true_eq, change]

/-- A closing comparison is good where every flaw passes (R136). -/
theorem closingComparison_good (number rho : Nat) (opening closing : List Flaw) :
    (closingComparison number rho opening closing).good = true ↔
      ∀ o c, (o, c) ∈ opening.zip closing →
        circularDiff ((c.phase + rho) % 3600) o.theta ≤ 50 ∧ ((c.amp : Int) - o.amp).natAbs * 10 ≤ o.amp := by
  simp only [closingComparison, List.all_map, List.all_eq_true, Prod.forall, Function.comp_apply, driftOf_passes]

/-- The attempts after that of one channel is dropped. -/
theorem State.attempt?_dropped (s t : State) (ch : Chan) (h : t.cal.attempts = s.cal.attempts.set ch none) :
    t.attempt? ch = none ∧ ∀ k, k ≠ ch → t.attempt? k = s.attempt? k :=
  ⟨(congrArg (Four.get · ch) h :).trans (Four.get_set_self ..),
    fun k hk => (congrArg (Four.get · k) h :).trans (Four.get_set_other _ _ _ _ hk)⟩

/-- Settles O44: the two verdicts through what the rejection and the acceptance do, and the closing comparison flaw by
flaw. -/
theorem verdictEndsTheEvaluation : Obligations.VerdictEndsTheEvaluation := by
  refine ⟨fun ch s a tr std x awake hx law ha stage live hstd => ?_, closingComparison_good⟩
  rw [execCalibrationVerdict_evaluating ch s a tr std awake ha stage live hstd]
  cases verdict : evaluate std tr with
  | error r =>
    obtain ⟨attempts, mark, log, goes, brackets, news, evaluating, offline, others, session, comparisons, config⟩ :=
      s.rejectCalibration_does ch a r tr live
    obtain ⟨gone, kept⟩ := State.attempt?_dropped s _ ch attempts
    refine ⟨s.rejectCalibration ch a r, rfl, gone, mark, fun r' hr => ?_, nofun, offline,
      fun k hk => ⟨others k hk, kept k hk⟩, session, comparisons, config⟩
    obtain rfl := Except.error.inj hr
    exact ⟨log, goes, brackets, news, evaluating⟩
  | ok f =>
    have time : s.time = x.seconds := by simp [State.time, State.time?, hx]
    have capacity : s.limits.capacity = x.plan.limits.capacity := by simp [State.limits, hx]
    obtain ⟨attempts, mark, log, opened, goes, closed, news, evaluating, offline, others, session, comparisons, config⟩ :=
      s.acceptCalibration_does ch a f tr law live
    obtain ⟨gone, kept⟩ := State.attempt?_dropped s _ ch attempts
    refine ⟨s.acceptCalibration ch a f, rfl, gone, mark, nofun, fun f' hf => ?_, offline,
      fun k hk => ⟨others k hk, kept k hk⟩, session, comparisons, config⟩
    obtain rfl := Except.ok.inj hf
    refine ⟨s.newLogEntry ch a f, _, log, rfl, rfl, rfl, rfl, time, rfl, rfl, rfl, rfl, s.newLogEntry_opens ch a f,
      fun old hb => s.newLogEntry_closes ch a f law old hb, opened, rfl, rfl, rfl, time, capacity, rfl, rfl, goes,
      fun old info hb hi => ?_, news, fun was => ?_⟩
    · obtain ⟨_, left, here⟩ := closed old info hb hi
      exact ⟨_, here, rfl, rfl, congrArg some time, rfl, rfl⟩
    · obtain ⟨traverse, state, sent⟩ := evaluating was
      refine ⟨traverse, state, fun none_ => ?_, fun old info hb hi => ?_⟩
      · rw [s.newLogEntry_opens ch a f none_] at sent
        exact sent
      · obtain ⟨same, _⟩ := closed old info hb hi
        rw [hi] at sent
        simp only [ClosedInfo.outcome, same] at sent
        exact sent

end Sys2Proof.Machine
end

section
namespace Sys2Proof.Machine

/-! The free page pool as a queue (R74, R79, R84). -/

@[simp] theorem poolPages_push (page : Nat) (pool : List PageRun) :
    poolPages (poolPush page pool) = poolPages pool ++ [page] := by
  fun_induction poolPush page pool with
  | case1 => rfl
  | case2 r next => simp [poolPages, List.range'_concat, next]
  | case3 r apart => simp [poolPages]
  | case4 r q rest ih =>
    simp only [poolPages, List.flatMap_cons] at ih ⊢
    rw [ih]
    simp

@[simp] theorem poolPages_append (pool : List PageRun) (pages : List Nat) :
    poolPages (poolAppend pool pages) = poolPages pool ++ pages := by
  unfold poolAppend
  induction pages generalizing pool with
  | nil => simp
  | cons n rest ih => rw [List.foldl_cons, ih, poolPages_push, List.append_assoc, List.singleton_append]

/-- The page taken is the head of the queue. -/
theorem poolPages_pop (pool rest : List PageRun) (page : Nat) (h : poolPop pool = some (page, rest)) :
    poolPages pool = page :: poolPages rest := by
  induction pool with
  | nil => exact nomatch h
  | cons r tail ih =>
    obtain ⟨first, count⟩ := r
    match count with
    | 0 => simpa [poolPages] using ih h
    | 1 =>
      cases h
      simp [poolPages]
    | n + 2 =>
      cases h
      simp [poolPages, List.range'_succ]

theorem poolCount_eq (pool : List PageRun) : poolCount pool = (poolPages pool).length := by
  induction pool with
  | nil => rfl
  | cons r rest ih => simp [poolCount, ih, poolPages]

/-! The live traverses by their ids (R67). -/

/-- The ids of the live traverses. -/
def Store.ids (x : Store) : List Nat := x.directory.map (·.id)

/-- Where ids are given once, the entry found is the one that bears the id. -/
theorem State.trav?_unique (s : State) (once : s.store.ids.Nodup) (t u : Traverse) (ht : t ∈ s.store.directory)
    (hu : s.trav? t.id = some u) : t = u :=
  List.inj_on_of_nodup_map once ht (List.mem_of_find?_eq_some hu) (State.trav_id s t.id u hu).symm

/-- The directory, its entry `t` first. -/
theorem directory_perm (l : List Traverse) (t : Traverse) (once : (l.map (·.id)).Nodup) (ht : t ∈ l) :
    l.Perm (t :: l.filter fun u => u.id != t.id) := by
  have other : l.filter (fun u => u.id != t.id) = l.erase t := by
    rw [(List.Nodup.of_map _ once).erase_eq_filter]
    refine List.filter_congr fun u hu => ?_
    by_cases same : u = t
    · simp [same]
    · have ids : u.id ≠ t.id := fun e => same (List.inj_on_of_nodup_map once hu ht e)
      rw [bne_iff_ne.2 ids, bne_iff_ne.2 same]
  rw [other]
  exact List.perm_cons_erase ht

/-- The directory with the entry `t` replaced, that entry first. -/
theorem directory_map_perm (l : List Traverse) (t : Traverse) (f : Traverse → Traverse)
    (once : (l.map (·.id)).Nodup) (ht : t ∈ l) :
    (l.map fun u => if u.id = t.id then f u else u).Perm (f t :: l.filter fun u => u.id != t.id) := by
  refine ((directory_perm l t once ht).map _).trans ?_
  rw [List.map_cons, if_pos rfl]
  refine List.Perm.of_eq (congrArg _ ?_)
  refine (List.map_congr_left fun u hu => ?_).trans (List.map_id _)
  have other : u.id ≠ t.id := by simpa using (List.mem_filter.1 hu).2
  rw [if_neg other]
  rfl

/-! What the second and the ninth law ask of a store, and what every act but the end of a page write
leaves (R62, R74, R81). -/

/-- The page numbers that the pool and the page lists of the live traverses hold (R74). -/
def Store.pagesHeld (x : Store) : List Nat := poolPages x.pool ++ x.directory.flatMap (·.pages)

/-- Every live traverse keeps the ninth law (R62). -/
def Store.sampled (x : Store) : Prop := ∀ t ∈ x.directory, t.sampleLaw = true

/-- What the second and the ninth law ask of a live traverse. -/
def Traverse.cargo (t : Traverse) : Nat × List Nat × Nat × Bool := (t.id, t.pages, t.stored, t.flags.truncated)

theorem Traverse.sampleLaw_of_cargo (t u : Traverse) (h : t.cargo = u.cargo) : t.sampleLaw = u.sampleLaw := by
  simp only [Traverse.cargo, Prod.mk.injEq] at h
  obtain ⟨_, _, stored, truncated⟩ := h
  simp [Traverse.sampleLaw, stored, truncated]

/-- An act from `x` to `y` leaves the DDR store, begins no traverse, and while ids are given once it moves
pages without loss and keeps the ninth law. -/
structure Store.Conserves (x y : Store) : Prop where
  ddr : y.ddr = x.ddr
  ids : y.ids.Sublist x.ids
  pages : x.ids.Nodup → y.pagesHeld.Perm x.pagesHeld
  samples : x.ids.Nodup → x.sampled → y.sampled

theorem Store.Conserves.refl (x : Store) : Store.Conserves x x :=
  ⟨rfl, List.Sublist.refl _, fun _ => List.Perm.refl _, fun _ law => law⟩

theorem Store.Conserves.trans {x y z : Store} (h : Store.Conserves x y) (k : Store.Conserves y z) :
    Store.Conserves x z :=
  ⟨k.ddr.trans h.ddr, k.ids.trans h.ids, fun once => (k.pages (h.ids.nodup once)).trans (h.pages once),
    fun once law => k.samples (h.ids.nodup once) (h.samples once law)⟩

/-- An act that leaves the directory and the pool. -/
theorem Store.conserves_apart (x y : Store) (ddr : y.ddr = x.ddr) (directory : y.directory = x.directory)
    (pool : y.pool = x.pool) : Store.Conserves x y :=
  ⟨ddr, by rw [Store.ids, directory, Store.ids],
    fun _ => by rw [Store.pagesHeld, pool, directory, Store.pagesHeld],
    fun _ law => by rwa [Store.sampled, directory]⟩

/-- A change of an entry that leaves its id, its pages and its samples. -/
theorem Store.conserves_updTrav (x : Store) (id : Nat) (f : Traverse → Traverse)
    (cargo : ∀ t, (f t).cargo = t.cargo) : Store.Conserves x (x.updTrav id f) := by
  have same : ∀ t, (if t.id = id then f t else t).cargo = t.cargo := by
    intro t
    split
    · exact cargo t
    · rfl
  have ids : (x.updTrav id f).ids = x.ids := by
    simp only [Store.ids, Store.updTrav, List.map_map]
    exact List.map_congr_left fun t _ => congrArg Prod.fst (same t)
  have pages : (x.updTrav id f).directory.flatMap (·.pages) = x.directory.flatMap (·.pages) := by
    simp only [Store.updTrav, List.flatMap_map]
    exact List.flatMap_congr fun t _ => congrArg (fun c => c.2.1) (same t)
  refine ⟨rfl, by rw [ids], fun _ => ?_, fun _ law t ht => ?_⟩
  · rw [Store.pagesHeld, pages, Store.pagesHeld]
    exact List.Perm.refl _
  · obtain ⟨u, hu, rfl⟩ := List.mem_map.1 ht
    rw [Traverse.sampleLaw_of_cargo _ _ (same u)]
    exact law u hu

/-- A release puts the pages of its traverse at the tail of the pool (R84). -/
theorem Store.conserves_without (x : Store) (t : Traverse) (ht : t ∈ x.directory) :
    Store.Conserves x (x.without t) := by
  refine ⟨rfl, List.filter_sublist.map _, fun once => ?_, fun _ law u hu => law u (List.mem_filter.1 hu).1⟩
  have split := (directory_perm x.directory t once ht).flatMap_right (·.pages)
  unfold Store.pagesHeld
  simp only [Store.without, poolPages_append, List.append_assoc]
  exact (split.symm.append_left (poolPages x.pool)).trans (List.Perm.refl _)

end Sys2Proof.Machine
end

section
namespace Sys2Proof.Machine

/-! Acts that conserve: what every act but those that begin a traverse, open or close a session, end a page
write, or concern the configuration leaves of the part. -/

/-- An act from `s` to `t` that leaves the queue of commands, the configuration memory, the DDR store and the
roles of the stations, and conserves pages and samples. -/
structure State.Conserves (s t : State) : Prop where
  pending : t.pending = s.pending
  config : t.config = s.config
  roles : ∀ k, (t.stn k).role = (s.stn k).role
  store : Store.Conserves s.store t.store

theorem State.Conserves.refl (s : State) : State.Conserves s s :=
  ⟨rfl, rfl, fun _ => rfl, Store.Conserves.refl _⟩

theorem State.Conserves.trans {s t u : State} (h : State.Conserves s t) (k : State.Conserves t u) :
    State.Conserves s u :=
  ⟨k.pending.trans h.pending, k.config.trans h.config, fun st => (k.roles st).trans (h.roles st),
    h.store.trans k.store⟩

section Conserves
variable {s u : State}

/-! The elementary acts. -/

/-- An act on the session, the channels, the Calibration Unit and the comparisons only. -/
theorem State.Conserves.apart (h : State.Conserves s u) (t : State) (pending : t.pending = u.pending)
    (config : t.config = u.config) (stations : t.stations = u.stations) (store : t.store = u.store) :
    State.Conserves s t :=
  h.trans ⟨pending, config, fun k => by rw [State.stn, stations, State.stn], by
    rw [store]
    exact Store.Conserves.refl _⟩

theorem State.Conserves.modChan (h : State.Conserves s u) {ch : Chan} {f : Channel → Channel} :
    State.Conserves s (u.modChan ch f) := h.apart _ rfl rfl rfl rfl

theorem State.Conserves.modSession (h : State.Conserves s u) {f : Session → Session} :
    State.Conserves s (u.modSession f) := h.apart _ rfl rfl rfl rfl

theorem State.Conserves.modTube (h : State.Conserves s u) {p : Pos} {f : TubeEntry → TubeEntry} :
    State.Conserves s (u.modTube p f) := h.modSession

theorem State.Conserves.moveTube (h : State.Conserves s u) {p : Pos} {new : TubeState}
    {f : TubeEntry → TubeEntry} : State.Conserves s (u.moveTube p new f) :=
  h.apart _ (by simp) (by simp) (by simp) (by simp)

theorem State.Conserves.modCal (h : State.Conserves s u) {f : Calibration → Calibration} :
    State.Conserves s (u.modCal f) := h.apart _ rfl rfl rfl rfl

theorem State.Conserves.modBracket (h : State.Conserves s u) {n : Nat} {f : Bracket → Bracket} :
    State.Conserves s (u.modBracket n f) := h.modCal

theorem State.Conserves.setAttempt (h : State.Conserves s u) {ch : Chan} {a : Option Attempt} :
    State.Conserves s (u.setAttempt ch a) := h.modCal

theorem State.Conserves.sendProbe (h : State.Conserves s u) {ch : Chan} {f : ProbeOut} :
    State.Conserves s (u.sendProbe ch f) := h.modChan

theorem State.Conserves.refreshPermit (h : State.Conserves s u) {ch : Chan} :
    State.Conserves s (u.refreshPermit ch) := h.apart _ (by simp) (by simp) (by simp) (by simp)

/-- An act on one station link that leaves its role. -/
theorem State.Conserves.modStn (h : State.Conserves s u) {st : Stn} {f : StationLink → StationLink}
    (role : ∀ x, (f x).role = x.role := by intro x; rfl) : State.Conserves s (u.modStn st f) := by
  refine h.trans ⟨rfl, rfl, fun k => ?_, Store.Conserves.refl _⟩
  rw [State.stn_modStn]
  split
  · exact role _
  · rfl

theorem State.Conserves.raise (h : State.Conserves s u) {e : Event} : State.Conserves s (u.raise e) :=
  h.trans ⟨rfl, rfl, fun k => StationLink.role_eq_of_unheard _ _ (u.unheard_raise e k), Store.Conserves.refl _⟩

theorem State.Conserves.ofStore (h : State.Conserves s u) {f : Store → Store}
    (conserves : Store.Conserves u.store (f u.store)) : State.Conserves s (u.modStore f) :=
  h.trans ⟨rfl, rfl, fun _ => rfl, conserves⟩

/-- An act on the Traverse Store Controller that leaves the directory, the pool and the DDR store. -/
theorem State.Conserves.modStore (h : State.Conserves s u) {f : Store → Store}
    (ddr : ∀ x, (f x).ddr = x.ddr := by intro x; rfl)
    (directory : ∀ x, (f x).directory = x.directory := by intro x; rfl)
    (pool : ∀ x, (f x).pool = x.pool := by intro x; rfl) : State.Conserves s (u.modStore f) :=
  h.ofStore (Store.conserves_apart _ _ (ddr _) (directory _) (pool _))

theorem State.Conserves.modTrav (h : State.Conserves s u) {id : Nat} {f : Traverse → Traverse}
    (cargo : ∀ t, (f t).cargo = t.cargo := by intro t; rfl) : State.Conserves s (u.modTrav id f) :=
  h.ofStore (u.store.conserves_updTrav id f cargo)

theorem State.Conserves.setChan (h : State.Conserves s u) {ch : Chan} {new : ChanState} :
    State.Conserves s (u.setChan ch new) := by
  unfold State.setChan
  split
  · exact h
  · exact h.modChan.raise

theorem State.Conserves.moveChan (h : State.Conserves s u) {ch : Chan} {new : ChanState} :
    State.Conserves s (u.moveChan ch new) := h.setChan.refreshPermit

theorem State.Conserves.setCalDue (h : State.Conserves s u) {ch : Chan} {cause : CalDue} :
    State.Conserves s (u.setCalDue ch cause) := by
  unfold State.setCalDue
  cases u.openBracket ch with
  | none => exact h
  | some b =>
    dsimp only
    (repeat' split)
    · exact h
    · exact h.modBracket.moveChan
    · exact h.modBracket

/-! The store and its arbiter (R74 to R86). -/

theorem State.Conserves.watchStore (h : State.Conserves s u) : State.Conserves s u.watchStore := by
  unfold State.watchStore
  extract_lets v
  (repeat' split)
  · exact h.modStore.raise
  · exact h.modStore.raise
  · exact h

theorem State.Conserves.reserve (h : State.Conserves s u) : State.Conserves s u.reserve :=
  h.modStore.watchStore

theorem State.Conserves.unreserve (h : State.Conserves s u) : State.Conserves s u.unreserve :=
  h.modStore.watchStore

theorem State.Conserves.returnReservation (h : State.Conserves s u) {id keep : Nat} :
    State.Conserves s (u.returnReservation id keep) := by
  unfold State.returnReservation
  split
  · exact h
  · exact h.modTrav.modStore.watchStore

/-- A release of a live traverse (R84). -/
theorem State.Conserves.release (h : State.Conserves s u) {t : Traverse} (live : t ∈ u.store.directory) :
    State.Conserves s (u.release t) := by
  have freed := (Store.conserves_without u.store t live).trans
    (Store.conserves_apart _ { u.store.without t with low := u.store.low } rfl rfl rfl)
  exact (h.ofStore (f := fun x => { x.without t with low := x.low }) freed).raise.watchStore

theorem State.Conserves.testRelease (h : State.Conserves s u) {id : Nat} :
    State.Conserves s (u.testRelease id) := by
  unfold State.testRelease
  split
  · exact h
  · next t live =>
    (repeat' split)
    · exact h.release (List.mem_of_find?_eq_some live)
    · exact h.modTrav
    · exact h

theorem State.Conserves.settle (h : State.Conserves s u) {id : Nat} : State.Conserves s (u.settle id) := by
  unfold State.settle
  (repeat' split)
  · exact h
  · exact h
  · exact h.modTrav.testRelease

theorem State.Conserves.invalidate (h : State.Conserves s u) {id : Nat} :
    State.Conserves s (u.invalidate id) := by
  unfold State.invalidate
  (repeat' split)
  · exact h
  · exact h.modTrav.settle
  · exact h

/-- A granted page goes from the head of the pool to the page list of its traverse (R79). -/
theorem Store.conserves_grant (x : Store) (t : Traverse) (page : Nat) (pool : List PageRun) (f : Traverse → Traverse)
    (y : Store) (live : t ∈ x.directory) (head : poolPop x.pool = some (page, pool))
    (cargo : ∀ u, (f u).cargo = (u.id, u.pages ++ [page], u.stored, u.flags.truncated)) (ddr : y.ddr = x.ddr)
    (directory : y.directory = (x.updTrav t.id f).directory) (rest : y.pool = pool) : Store.Conserves x y := by
  have ids : y.ids = x.ids := by
    simp only [Store.ids, directory, Store.updTrav, List.map_map]
    refine List.map_congr_left fun u _ => ?_
    simp only [Function.comp_apply]
    split
    · exact congrArg Prod.fst (cargo u)
    · rfl
  refine ⟨ddr, by rw [ids], fun once => ?_, fun _ law v hv => ?_⟩
  · have before := (directory_perm x.directory t once live).flatMap_right (·.pages)
    have after := (directory_map_perm x.directory t f once live).flatMap_right (·.pages)
    have pages : (f t).pages = t.pages ++ [page] := congrArg (fun c => c.2.1) (cargo t)
    simp only [List.flatMap_cons, pages] at before after
    unfold Store.pagesHeld
    rw [directory, rest, poolPages_pop _ _ _ head]
    have joins : (poolPages pool ++ (t.pages ++ [page]
          ++ (x.directory.filter fun u => u.id != t.id).flatMap (·.pages))).Perm
        (page :: (poolPages pool ++ (t.pages
          ++ (x.directory.filter fun u => u.id != t.id).flatMap (·.pages)))) := by
      rw [List.append_assoc t.pages, List.singleton_append]
      exact (List.perm_middle.append_left _).trans List.perm_middle
    exact ((after.append_left _).trans joins).trans ((before.symm.append_left _).cons _)
  · rw [directory] at hv
    obtain ⟨u, hu, rfl⟩ := List.mem_map.1 hv
    have held := law u hu
    split
    · have stored : (f u).stored = u.stored := congrArg (fun c => c.2.2.1) (cargo u)
      have truncated : (f u).flags.truncated = u.flags.truncated := congrArg (fun c => c.2.2.2) (cargo u)
      simpa [Traverse.sampleLaw, stored, truncated] using held
    · exact held

theorem State.Conserves.grantWrite (h : State.Conserves s u) {ch : Chan} :
    State.Conserves s (u.grantWrite ch) := by
  unfold State.grantWrite
  split
  · exact h
  · next e rest _ =>
    split
    · next page pool t head live =>
      have named := State.trav_id u e.traverse t live
      refine h.trans ⟨rfl, rfl, fun _ => rfl, u.store.conserves_grant t page pool
        (fun t => { t with pages := t.pages ++ [page], reservation := t.reservation - 1 }) _
        (List.mem_of_find?_eq_some live) head (fun _ => rfl) rfl ?_ rfl⟩
      rw [named]
      rfl
    · exact h

theorem State.Conserves.modStream (h : State.Conserves s u) {st : Stn} {f : Stream → Stream} :
    State.Conserves s (u.modStream st f) := h.modStn

theorem State.Conserves.grantFetch (h : State.Conserves s u) {st : Stn} :
    State.Conserves s (u.grantFetch st) := by
  unfold State.grantFetch
  split
  · exact h
  · exact h.modStream.modStore

theorem State.Conserves.arbitrate (h : State.Conserves s u) : State.Conserves s u.arbitrate := by
  unfold State.arbitrate
  (repeat' split)
  · exact h.grantWrite
  · exact h.grantFetch
  · exact h
  · exact h

theorem State.Conserves.handOver (h : State.Conserves s u) {ch : Chan} {i : BufId} {last aborted : Bool} :
    State.Conserves s (u.handOver ch i last aborted) := h.modChan.modTrav.modStore.arbitrate

theorem State.Conserves.finalPage (h : State.Conserves s u) {ch : Chan} {id : Nat} {aborted : Bool} :
    State.Conserves s (u.finalPage ch id aborted) := by
  unfold State.finalPage
  extract_lets c
  (repeat' split)
  · exact h.handOver
  · exact h.handOver
  · exact h.modStore

theorem State.Conserves.abortTraverse (h : State.Conserves s u) {id : Nat} :
    State.Conserves s (u.abortTraverse id) := by
  unfold State.abortTraverse
  (repeat' split)
  · exact h
  · exact h.modTrav.returnReservation.settle
  · exact h.modTrav.returnReservation.settle
  · exact h.modTrav.returnReservation.settle
  · exact h.modTrav.settle
  · exact h
  · exact h

theorem State.Conserves.reportAbort (h : State.Conserves s u) {id : Nat} :
    State.Conserves s (u.reportAbort id) := by
  unfold State.reportAbort
  (repeat' split)
  · exact h
  · exact h.modChan.sendProbe
  · exact h

theorem State.Conserves.reportAborts (h : State.Conserves s u) {ch : Chan} :
    State.Conserves s (u.reportAborts ch) := by
  unfold State.reportAborts
  exact List.foldlRecOn _ _ h fun _ kept _ _ => kept.reportAbort

theorem State.Conserves.register (h : State.Conserves s u) {id : Nat} :
    State.Conserves s (u.register id) := h.modTrav

theorem State.Conserves.deregister (h : State.Conserves s u) {id : Nat} :
    State.Conserves s (u.deregister id) := h.modTrav.testRelease

end Conserves

end Sys2Proof.Machine
end

section
namespace Sys2Proof.Machine

section Conserves
variable {s u : State}

/-! Tubes, claims, calibrations and brackets (R22 to R38, R124 to R141). -/

theorem State.Conserves.endClaim (h : State.Conserves s u) {ch : Chan} {restriction : Bool} :
    State.Conserves s (u.endClaim ch restriction) := by
  unfold State.endClaim
  split
  · exact h
  · exact h.moveTube.unreserve.modChan

theorem State.Conserves.endClaimAndRest (h : State.Conserves s u) {ch : Chan} {restriction : Bool} :
    State.Conserves s (u.endClaimAndRest ch restriction) := h.endClaim.moveChan

theorem State.Conserves.grantClaim (h : State.Conserves s u) {ch : Chan} {p : Pos} :
    State.Conserves s (u.grantClaim ch p) :=
  h.moveTube.reserve.modChan.setChan.sendProbe.refreshPermit

theorem State.Conserves.raiseRetest (h : State.Conserves s u) {p : Pos} :
    State.Conserves s (u.raiseRetest p) := by
  unfold State.raiseRetest
  split
  · exact h
  · exact h.raise

theorem State.Conserves.abortTube (h : State.Conserves s u) {p : Pos} {restriction : Bool} :
    State.Conserves s (u.abortTube p restriction) := by
  unfold State.abortTube
  split
  · exact h.moveTube
  · exact h.moveTube.raiseRetest

theorem State.Conserves.retestTube (h : State.Conserves s u) {p : Pos} {cause : RetestCause}
    {reset : Bool} {traverse : Option Nat} : State.Conserves s (u.retestTube p cause reset traverse) := by
  unfold State.retestTube
  cases traverse with
  | none => exact h.moveTube.raiseRetest
  | some id => exact h.moveTube.invalidate.raiseRetest

theorem State.Conserves.decideTube (h : State.Conserves s u) {p : Pos} {call : Call} :
    State.Conserves s (u.decideTube p call) := h.moveTube.raise.settle

theorem State.Conserves.settleSweep (h : State.Conserves s u) {n : Nat} :
    State.Conserves s (u.settleSweep n) := by
  unfold State.settleSweep
  (repeat' split)
  · exact h
  · exact h.modBracket.raise
  · exact h.modBracket
  · exact h

theorem State.Conserves.closeBracket (h : State.Conserves s u) {n : Nat} {good : Bool}
    {cause : ClosingCause} : State.Conserves s (u.closeBracket n good cause) := h.modBracket

theorem State.Conserves.failBracket (h : State.Conserves s u) {ch : Chan} {cause : ClosingCause} :
    State.Conserves s (u.failBracket ch cause) := by
  unfold State.failBracket
  split
  · exact h
  · exact h.closeBracket.settleSweep

theorem State.Conserves.abortCalibration (h : State.Conserves s u) {ch : Chan} :
    State.Conserves s (u.abortCalibration ch) := by
  unfold State.abortCalibration
  split
  · exact h
  · exact h.finalPage.abortTraverse.modChan.setAttempt.sendProbe.raise

theorem State.Conserves.endEvaluation (h : State.Conserves s u) {ch : Chan} {id : Nat}
    {v : CalVerdict} : State.Conserves s (u.endEvaluation ch id v) := by
  unfold State.endEvaluation
  extract_lets s1 s2 s3
  have marked : State.Conserves s s2 := by
    simp only [s2]
    split
    · exact h.setAttempt.setCalDue
    · exact h.setAttempt
  split
  · exact marked.modChan.sendProbe.modChan.moveChan
  · exact marked.modChan

theorem State.Conserves.rejectCalibration (h : State.Conserves s u) {ch : Chan} {a : Attempt}
    {reason : CalReject} : State.Conserves s (u.rejectCalibration ch a reason) :=
  h.settle.endEvaluation.raise

theorem State.Conserves.acceptCalibration (h : State.Conserves s u) {ch : Chan} {a : Attempt}
    {f : Figures} : State.Conserves s (u.acceptCalibration ch a f) := by
  unfold State.acceptCalibration
  extract_lets e s1 s2 s3 s4 outcome s5 s6
  have closed : State.Conserves s s2 := by
    simp only [s2]
    split
    · exact h.modCal
    · exact h.modCal.closeBracket
  have told : State.Conserves s s6 := closed.modCal.modTrav.settle.endEvaluation.raise
  split
  · exact told
  · exact told.settleSweep

theorem State.Conserves.dropComparison (h : State.Conserves s u) {p : Pos} :
    State.Conserves s (u.dropComparison p) := h.apart _ rfl rfl rfl rfl

theorem State.Conserves.beginComparison (h : State.Conserves s u) {c : Comparison} :
    State.Conserves s (u.beginComparison c) := h.apart _ rfl rfl rfl rfl

theorem State.Conserves.testComparison (h : State.Conserves s u) {p : Pos} :
    State.Conserves s (u.testComparison p) := by
  unfold State.testComparison
  (repeat' split)
  · exact h
  · exact h.beginComparison
  · exact h

theorem State.Conserves.startComparison (h : State.Conserves s u) {p : Pos} :
    State.Conserves s (u.startComparison p).1 := by
  unfold State.startComparison
  (repeat' split)
  · exact h
  · exact h.dropComparison.beginComparison
  · exact h

theorem State.Conserves.applyOutcome (h : State.Conserves s u) {c : Comparison} :
    State.Conserves s (u.applyOutcome c) := by
  unfold State.applyOutcome
  (repeat' split)
  · exact h
  · exact h.decideTube
  · exact h.moveTube.raise
  · exact h.retestTube
  · exact h

theorem State.Conserves.sweepStep (h : State.Conserves s u) {n : Nat} {verdict : BracketState}
    {present : State → Nat → State}
    (presents : ∀ v id, State.Conserves s v → State.Conserves s (present v id)) :
    State.Conserves s (u.sweepStep n verdict present) := by
  unfold State.sweepStep
  (repeat' split)
  · exact h
  · exact h.settleSweep
  · exact (presents _ _ h.modBracket).settleSweep
  · exact h

theorem State.Conserves.presentFail (h : State.Conserves s u) {n id : Nat} :
    State.Conserves s (u.presentFail n id) := by
  unfold State.presentFail
  (repeat' split)
  · exact h
  · exact h
  · exact h.retestTube.modBracket

theorem State.Conserves.presentGood (h : State.Conserves s u) {id : Nat} :
    State.Conserves s (u.presentGood id) := by
  unfold State.presentGood
  (repeat' split)
  · exact h
  · exact h
  · exact h.testComparison
  · exact h

/-! Samples (R62 to R64). -/

/-- No sample is stored in a traverse that is TRUNCATED (R62). -/
def State.takes (s : State) (id : Nat) : Prop := ∀ t, s.trav? id = some t → t.flags.truncated = false

theorem State.Conserves.countLost (h : State.Conserves s u) {ch : Chan} {id n : Nat} :
    State.Conserves s (u.countLost ch id n) := h.modTrav.modChan

theorem State.Conserves.passFull (h : State.Conserves s u) {ch : Chan} {i : BufId} :
    State.Conserves s (u.passFull ch i) := by
  unfold State.passFull
  extract_lets s1
  (repeat' split)
  · exact h
  · exact h.modChan.handOver
  · exact h.modChan.modChan

/-- One sample more in a traverse that is not TRUNCATED, which is TRUNCATED at 65,536 (R62). -/
theorem Traverse.sampleLaw_stores (t : Traverse) (v : ScreenState) (law : t.sampleLaw = true)
    (takes : t.flags.truncated = false) : (t.stores v).sampleLaw = true := by
  simp only [Traverse.sampleLaw, takes, Bool.or_false, Bool.and_eq_true, decide_eq_true_eq, bne_iff_ne] at law
  obtain ⟨most, below⟩ := law
  by_cases full : t.stored = 65535
  · simp [Traverse.sampleLaw, Traverse.stores, full, Config.maxSamples]
  · have room : t.stored + 1 ≤ 65536 := by omega
    simpa [Traverse.sampleLaw, Traverse.stores, full] using room

/-- A sample stored in the traverse that takes it (R62). -/
theorem State.conserves_stores (s : State) (id : Nat) (v : ScreenState) (takes : s.takes id) :
    State.Conserves s (s.modTrav id fun t => t.stores v) := by
  have ids : (s.modTrav id fun t => t.stores v).store.ids = s.store.ids := by
    simp only [Store.ids, State.modTrav, State.store_modStore, List.map_map]
    refine List.map_congr_left fun t _ => ?_
    simp only [Function.comp_apply]
    split <;> rfl
  have pages : (s.modTrav id fun t => t.stores v).store.pagesHeld = s.store.pagesHeld := by
    simp only [Store.pagesHeld, State.modTrav, State.store_modStore, List.flatMap_map]
    refine congrArg _ (List.flatMap_congr fun t _ => ?_)
    split <;> rfl
  refine ⟨rfl, rfl, fun _ => rfl, rfl, by rw [ids], fun _ => by rw [pages], fun once law t ht => ?_⟩
  obtain ⟨w, hw, rfl⟩ := List.mem_map.1 ht
  split
  · next named =>
    obtain ⟨x, found⟩ : ∃ x, s.trav? w.id = some x :=
      Option.isSome_iff_exists.1 (List.find?_isSome.2 ⟨w, hw, by simp⟩)
    have same := s.trav?_unique once w x hw found
    subst same
    exact w.sampleLaw_stores v (law w hw) (takes w (by rw [← named]; exact found))
  · exact law w hw

theorem State.Conserves.storeSample (h : State.Conserves s u) {ch : Chan} {t : Traverse} {i : BufId}
    {r : Reading} (takes : u.takes t.id) : State.Conserves s (u.storeSample ch t i r) := by
  unfold State.storeSample
  extract_lets c
  split
  · exact h
  · next v _ =>
    extract_lets u1 marks soFar s1 s2
    have screened : State.Conserves s s1 := h.modChan
    have stored : State.Conserves s1 s2 := s1.conserves_stores t.id u1 takes
    exact (screened.trans stored).passFull

/-- Lost samples leave the mark TRUNCATED as it is. -/
theorem State.takes_countLost (s : State) (ch : Chan) (id n : Nat) (takes : s.takes id) :
    (s.countLost ch id n).takes id := by
  intro t ht
  cases live : s.trav? id with
  | none =>
    have gone : (s.countLost ch id n).trav? id = none :=
      (s.trav?_modTrav id id (fun t => t.lose n) fun _ => rfl).trans (by simp [live])
    exact nomatch ht.symm.trans gone
  | some v =>
    have found : (s.countLost ch id n).trav? id = some (v.lose n) :=
      s.trav_modTrav_self id (fun t => t.lose n) v (fun _ => rfl) live
    cases ht.symm.trans found
    exact (takes v live :)

theorem State.Conserves.takeSample (h : State.Conserves s u) {ch : Chan} {id seq missed : Nat}
    {r : Reading} (takes : u.takes id) : State.Conserves s (u.takeSample ch id seq missed r) := by
  unfold State.takeSample
  extract_lets s1 s2
  have counted : State.Conserves s s1 ∧ s1.takes id := by
    simp only [s1]
    split
    · exact ⟨h, takes⟩
    · exact ⟨h.countLost, u.takes_countLost ch id missed takes⟩
  have expecting : State.Conserves s s2 := counted.1.modChan
  split
  · next i t room live =>
    refine expecting.storeSample ?_
    rw [State.trav_id s2 id t live]
    exact counted.2
  · exact expecting.countLost

theorem State.Conserves.offerSample (h : State.Conserves s u) {ch : Chan} {t : Traverse} {seq : Nat}
    {r : Reading} (live : u.trav? t.id = some t) : State.Conserves s (u.offerSample ch t seq r) := by
  unfold State.offerSample
  split
  · exact h
  · next open_ =>
    have takes : u.takes t.id := by
      intro v hv
      cases live.symm.trans hv
      simpa using open_
    split
    · exact h
    · exact h.takeSample takes
    · exact h.takeSample takes

/-! Pulls and the ends of work (R30, R45, R46, R51 to R72). -/

theorem State.Conserves.acquireTube (h : State.Conserves s u) {p : Pos} {id : Nat} {ch : Chan} :
    State.Conserves s (u.acquireTube p id ch) := h.moveTube.raise.testComparison

theorem State.Conserves.completeTraverse (h : State.Conserves s u) {t : Traverse} :
    State.Conserves s (u.completeTraverse t) := by
  unfold State.completeTraverse
  extract_lets ch
  split
  · exact h
  · extract_lets f s1 s2
    have returned : State.Conserves s s2 := h.modTrav.modChan.returnReservation
    split
    · extract_lets s3 s4 flags
      exact returned.acquireTube.modChan.setChan.sendProbe.refreshPermit
    · exact returned.setAttempt

theorem State.Conserves.tryComplete (h : State.Conserves s u) {id : Nat} :
    State.Conserves s (u.tryComplete id) := by
  unfold State.tryComplete
  (repeat' split)
  · exact h
  · exact h.completeTraverse
  · exact h

theorem State.Conserves.finishPull (h : State.Conserves s u) {ch : Chan} {id : Nat} {new : ChanState} :
    State.Conserves s (u.finishPull ch id new) := h.modTrav.modChan.moveChan.finalPage.tryComplete

theorem State.Conserves.abortPull (h : State.Conserves s u) {ch : Chan} {restriction report : Bool} :
    State.Conserves s (u.abortPull ch restriction report) := by
  unfold State.abortPull
  split
  · exact h.finalPage.abortTraverse.modChan.abortTube
  · exact h

theorem State.Conserves.abortAndRest (h : State.Conserves s u) {ch : Chan} {restriction : Bool} :
    State.Conserves s (u.abortAndRest ch restriction) := h.abortPull.moveChan.reportAborts

theorem State.Conserves.loseWork (h : State.Conserves s u) {ch : Chan} {was : ChanState} :
    State.Conserves s (u.loseWork ch was) := by
  unfold State.loseWork
  split
  · exact h.endClaim
  · exact h.abortPull
  · exact h.abortPull
  · exact h.abortCalibration
  · exact h.modChan
  all_goals exact h

theorem State.Conserves.loseLink (h : State.Conserves s u) {ch : Chan} :
    State.Conserves s (u.loseLink ch) := h.modChan.raise.loseWork.setCalDue

theorem State.Conserves.checkIdentity (h : State.Conserves s u) {ch : Chan} {id : ProbeId} :
    State.Conserves s (u.checkIdentity ch id) := by
  unfold State.checkIdentity
  extract_lets failing s1
  have abandoned : State.Conserves s s1 := by
    simp only [s1]
    split
    · exact h.abortCalibration
    · exact h
  split
  · exact abandoned.failBracket
  · exact abandoned

theorem State.Conserves.linkUp (h : State.Conserves s u) {ch : Chan} {id : Identity} :
    State.Conserves s (u.linkUp ch id) := h.modChan.checkIdentity.raise.modChan.sendProbe

theorem State.Conserves.failWork (h : State.Conserves s u) {ch : Chan} :
    State.Conserves s (u.failWork ch) := by
  unfold State.failWork
  have evaluation : State.Conserves s
      (if (u.evaluationInHand ch).isSome then u.abortCalibration ch else u) := by
    split
    · exact h.abortCalibration
    · exact h
  split
  · exact h.endClaim
  · exact h.abortPull
  · exact h.abortPull
  · exact h.abortCalibration
  · exact evaluation
  · exact evaluation
  all_goals exact h

theorem State.Conserves.failProbe (h : State.Conserves s u) {ch : Chan} :
    State.Conserves s (u.failProbe ch) := by
  unfold State.failProbe
  extract_lets s1
  have failed : State.Conserves s s1 := h.failWork.failBracket
  split
  · exact failed
  · exact failed.moveChan.reportAborts

/-! The store port, the streams and the end of a session's work (R81 to R87, R172 to R177, R194). -/

theorem State.Conserves.freeBuffer (h : State.Conserves s u) {ch : Chan} {i : BufId} :
    State.Conserves s (u.freeBuffer ch i) := by
  unfold State.freeBuffer
  extract_lets s1
  split
  · exact h.modChan.handOver
  · exact h.modChan

theorem State.Conserves.schedule (h : State.Conserves s u) {st : Stn} : State.Conserves s (u.schedule st) :=
  h.modStn StationLink.role_schedule

theorem State.Conserves.pump (h : State.Conserves s u) {st : Stn} : State.Conserves s (u.pump st) := by
  unfold State.pump
  split
  · exact h.schedule
  · extract_lets r1 s1
    have ended : State.Conserves s s1 := h.modStn fun x => StationLink.role_schedule _
    have goesOn : State.Conserves s (u.modStn st fun x => { x with stream := some r1 }.schedule) :=
      h.modStn fun x => StationLink.role_schedule _
    (repeat' split)
    · exact ended.deregister
    · exact ended
    · exact goesOn.arbitrate

theorem State.Conserves.fetchEnded (h : State.Conserves s u) {st : Stn} {page seq : Nat} {deliver : Bool}
    {bytes : List Byte} : State.Conserves s (u.fetchEnded st page seq deliver bytes) := by
  unfold State.fetchEnded
  extract_lets s1
  have free : State.Conserves s s1 := h.modStore
  split
  · exact free.modStream.pump.arbitrate
  · exact free.arbitrate

theorem State.Conserves.abortStream (h : State.Conserves s u) {st : Stn} :
    State.Conserves s (u.abortStream st) := by
  unfold State.abortStream
  split
  · exact h
  · exact h.modStream.modStore.pump

theorem State.Conserves.loseStation (h : State.Conserves s u) {st : Stn} :
    State.Conserves s (u.loseStation st) := by
  unfold State.loseStation
  refine State.Conserves.modStn ?_
  split
  · exact h
  · extract_lets s1
    have ended : State.Conserves s s1 := h.modStn.modStore
    split
    · exact ended.deregister
    · exact ended

theorem State.Conserves.closeStream (h : State.Conserves s u) {st : Stn} :
    State.Conserves s (u.closeStream st) := by
  unfold State.closeStream
  extract_lets s1
  have aborted : State.Conserves s s1 := h.abortStream
  (repeat' split)
  · exact aborted
  · exact aborted.modStream.deregister
  · exact aborted

theorem State.Conserves.closeClaim (h : State.Conserves s u) {ch : Chan} :
    State.Conserves s (u.closeClaim ch) := by
  unfold State.closeClaim
  split
  · exact h.endClaim
  all_goals exact h

theorem State.Conserves.closePull (h : State.Conserves s u) {t : Traverse} :
    State.Conserves s (u.closePull t) := by
  unfold State.closePull
  extract_lets s1
  split
  · exact h.abortTraverse.abortTube
  · exact h.abortTraverse

theorem State.Conserves.closeAttempt (h : State.Conserves s u) {ch : Chan} :
    State.Conserves s (u.closeAttempt ch) := by
  unfold State.closeAttempt
  split
  · exact h
  · exact h.abortTraverse.setAttempt

theorem State.Conserves.endWork (h : State.Conserves s u) : State.Conserves s u.endWork := by
  unfold State.endWork
  extract_lets s1 s2 s3 s4
  have claims : State.Conserves s s2 :=
    h.closeStream.closeStream.closeStream.closeClaim.closeClaim.closeClaim.closeClaim
  have pulls : State.Conserves s s3 :=
    List.foldlRecOn _ _ claims.modStore fun _ kept _ _ => kept.closePull
  have attempts : State.Conserves s s4 := pulls.closeAttempt.closeAttempt.closeAttempt.closeAttempt
  exact attempts.apart _ rfl rfl rfl rfl

end Conserves

end Sys2Proof.Machine
end

section
namespace Sys2Proof.Machine

/-! What carries a command to its meaning conserves: an arrival, a probe frame, a request and its checks. -/

theorem StationLink.role_place (x : StationLink) (r : QueuedRequest) : (x.place r).role = x.role := by
  unfold StationLink.place
  (repeat' split)
  · rfl
  · exact StationLink.role_schedule _
  · rfl

/-- A law that holds through what a station link does for a request, its role left, and through its
execution, holds through the request. -/
theorem State.takeRequest_carries (P : State → Prop) (s t : State) (st : Stn) (tag : Nat) (req : Request)
    (run : State → State)
    (links : ∀ u f, (∀ x : StationLink, (f x).role = x.role) → P u → P (u.modStn st f))
    (hr : ∀ u, P u → P (run u)) (h : s.takeRequest st tag req run = .next t) (hs : P s) : P t := by
  have arrived : ∀ u : State, P u →
      P (if u.begins st ⟨tag, req⟩ then run (u.modStn st fun x => { x with inHand := true }) else u) := by
    intro u hu
    split
    · exact hr _ (links _ _ (fun _ => rfl) hu)
    · exact hu
  refine State.act_keeps P s t _ (fun u hu => arrived _ ?_) h hs
  split
  · exact hu
  · exact links _ _ (fun x => x.role_place _) (links _ _ (fun _ => rfl) hu)

theorem State.request_carries (P : State → Prop) (s t : State) (st : Stn) (tag : Nat) (req : Request)
    (body : State → State × Reply)
    (links : ∀ u f, (∀ x : StationLink, (f x).role = x.role) → P u → P (u.modStn st f))
    (hb : ∀ u, P u → P (body u).1) (h : s.request st tag req body = .next t) (hs : P s) : P t := by
  refine State.takeRequest_carries P s t st tag req _ links (fun u hu => ?_) h hs
  exact links _ _ (fun _ => StationLink.role_schedule _) (hb u hu)

theorem State.leadRequest_carries (P : State → Prop) (s t : State) (st : Stn) (tag : Nat) (req : Request)
    (body : State → State × Reply)
    (links : ∀ u f, (∀ x : StationLink, (f x).role = x.role) → P u → P (u.modStn st f))
    (hb : ∀ u, P u → P (body u).1) (h : s.leadRequest st tag req body = .next t) (hs : P s) : P t := by
  refine State.request_carries P s t st tag req _ links (fun u hu => ?_) h hs
  unfold State.forLead State.forRole
  split
  · exact hb u hu
  · exact hu

section Carriers
variable (s t : State)

theorem State.act_conserves (f : State → State) (hf : ∀ u, State.Conserves u (f u)) (h : s.act f = .next t) :
    State.Conserves s t :=
  State.act_keeps (State.Conserves s) s t f (fun u hu => hu.trans (hf u)) h (State.Conserves.refl s)

theorem State.probeFrame_conserves (ch : Chan) (f : State → State) (hf : ∀ u, State.Conserves u (f u))
    (h : s.probeFrame ch f = .next t) : State.Conserves s t :=
  State.probeFrame_keeps (State.Conserves s) s t ch f (fun _ hu => hu.modChan) (fun u hu => hu.trans (hf u)) h
    (State.Conserves.refl s)

theorem State.request_conserves (st : Stn) (tag : Nat) (req : Request) (body : State → State × Reply)
    (hb : ∀ u, State.Conserves u (body u).1) (h : s.request st tag req body = .next t) : State.Conserves s t :=
  State.request_carries (State.Conserves s) s t st tag req body (fun _ _ role hu => hu.modStn role)
    (fun u hu => hu.trans (hb u)) h (State.Conserves.refl s)

theorem State.leadRequest_conserves (st : Stn) (tag : Nat) (req : Request) (body : State → State × Reply)
    (hb : ∀ u, State.Conserves u (body u).1) (h : s.leadRequest st tag req body = .next t) :
    State.Conserves s t :=
  State.leadRequest_carries (State.Conserves s) s t st tag req body (fun _ _ role hu => hu.modStn role)
    (fun u hu => hu.trans (hb u)) h (State.Conserves.refl s)

theorem State.withSession_conserves (body : Session → State × Reply)
    (hb : ∀ x, State.Conserves s (body x).1) : State.Conserves s (s.withSession body).1 :=
  State.withSession_keeps (State.Conserves s) s body (fun x _ _ => hb x) (State.Conserves.refl s)

theorem State.withTube_conserves (p : Pos) (body : TubeEntry → State × Reply)
    (hb : ∀ e, State.Conserves s (body e).1) : State.Conserves s (s.withTube p body).1 :=
  State.withTube_keeps (State.Conserves s) s p body (fun e _ => hb e) (State.Conserves.refl s)

theorem State.editRequest_conserves (st : Stn) (tag : Nat) (req : Request) (good : Bool)
    (body : State → Session → State × Reply) (hb : ∀ u x, State.Conserves u (body u x).1)
    (h : s.editRequest st tag req good body = .next t) : State.Conserves s t := by
  refine s.leadRequest_conserves t st tag req _ (fun u => u.withSession_conserves _ fun x => ?_) h
  (repeat' split)
  · exact State.Conserves.refl u
  · exact hb u x
  · exact State.Conserves.refl u

end Carriers

/-! The frames and the timers of a probe channel. -/

theorem execHello_conserves (ch : Chan) (id : Identity) (s t : State) (h : execHello ch id s = .next t) :
    State.Conserves s t := by
  refine s.act_conserves t _ (fun u => ?_) h
  dsimp only
  split
  · exact (State.Conserves.refl u).linkUp
  · exact (State.Conserves.refl u).loseLink.linkUp

theorem execClaim_conserves (ch : Chan) (row col : Nat) (s t : State) (h : execClaim ch row col s = .next t) :
    State.Conserves s t := by
  refine s.probeFrame_conserves t ch _ (fun u => ?_) h
  unfold State.takeClaim
  split
  · exact (State.Conserves.refl u).sendProbe
  · exact (State.Conserves.refl u).grantClaim

theorem execReleaseClaim_conserves (ch : Chan) (s t : State) (h : execReleaseClaim ch s = .next t) :
    State.Conserves s t := by
  refine s.probeFrame_conserves t ch _ (fun u => ?_) h
  split
  · exact (State.Conserves.refl u).endClaimAndRest
  all_goals exact State.Conserves.refl u

/-- The traverse that takes samples is live. -/
theorem State.live_of_sampling (s : State) (ch : Chan) (t : Traverse) (h : s.sampling ch = some t) :
    s.trav? t.id = some t := by
  have hand : s.inHand? ch = some t := by
    unfold State.sampling at h
    (repeat' split at h) <;> simp_all
  exact s.live_of_inHand ch t hand

theorem execSample_conserves (ch : Chan) (seq : Nat) (r : Reading) (s t : State)
    (h : execSample ch seq r s = .next t) : State.Conserves s t := by
  refine s.probeFrame_conserves t ch _ (fun u => ?_) h
  split
  · next tr sampling => exact (State.Conserves.refl u).offerSample (u.live_of_sampling ch tr sampling)
  · exact State.Conserves.refl u

theorem execPause_conserves (ch : Chan) (s t : State) (h : execPause ch s = .next t) : State.Conserves s t := by
  refine s.probeFrame_conserves t ch _ (fun u => ?_) h
  (repeat' split)
  · exact (State.Conserves.refl u).modTrav.modChan.moveChan
  · exact State.Conserves.refl u
  · exact State.Conserves.refl u

theorem execResume_conserves (ch : Chan) (s t : State) (h : execResume ch s = .next t) :
    State.Conserves s t := by
  refine s.probeFrame_conserves t ch _ (fun u => ?_) h
  split
  · exact (State.Conserves.refl u).modTrav.modChan.moveChan
  · exact State.Conserves.refl u

theorem execPullEnd_conserves (ch : Chan) (s t : State) (h : execPullEnd ch s = .next t) :
    State.Conserves s t := by
  refine s.probeFrame_conserves t ch _ (fun u => ?_) h
  (repeat' split)
  · exact (State.Conserves.refl u).finishPull
  · exact State.Conserves.refl u
  · exact (State.Conserves.refl u).finishPull
  · exact (State.Conserves.refl u).finishPull
  · exact State.Conserves.refl u

theorem execAbandon_conserves (ch : Chan) (r : AbandonReason) (s t : State)
    (h : execAbandon ch r s = .next t) : State.Conserves s t := by
  refine s.probeFrame_conserves t ch _ (fun u => ?_) h
  unfold State.takeAbandon
  split
  · exact (State.Conserves.refl u).endClaimAndRest
  · exact (State.Conserves.refl u).abortAndRest
  · exact (State.Conserves.refl u).abortAndRest
  · exact (State.Conserves.refl u).abortCalibration.moveChan
  all_goals exact State.Conserves.refl u

theorem execProbeLinkLoss_conserves (ch : Chan) (s t : State) (h : execProbeLinkLoss ch s = .next t) :
    State.Conserves s t := by
  refine s.act_conserves t _ (fun u => ?_) h
  split
  · exact State.Conserves.refl u
  · exact (State.Conserves.refl u).loseLink

theorem execClaimExpiry_conserves (ch : Chan) (s t : State) (h : execClaimExpiry ch s = .next t) :
    State.Conserves s t := by
  refine s.act_conserves t _ (fun u => ?_) h
  split
  · exact (State.Conserves.refl u).endClaim.moveChan
  · exact State.Conserves.refl u

theorem execPauseExpiry_conserves (ch : Chan) (s t : State) (h : execPauseExpiry ch s = .next t) :
    State.Conserves s t := by
  refine s.act_conserves t _ (fun u => ?_) h
  split
  · exact (State.Conserves.refl u).abortAndRest
  · exact State.Conserves.refl u

/-! The Traverse Store Controller, the Calibration Unit and the Agreement Unit. -/

theorem execFetchEnd_conserves (upset : List Host.Cell) (s t : State) (h : execFetchEnd upset s = .next t) :
    State.Conserves s t := by
  unfold execFetchEnd at h
  split at h
  · cases h
    exact State.Conserves.refl s
  · split at h
    · split at h <;> cases h
      exact (State.Conserves.refl s).fetchEnded
    all_goals
      cases h
      exact State.Conserves.refl s

theorem execCalibrationVerdict_conserves (ch : Chan) (s t : State)
    (h : execCalibrationVerdict ch s = .next t) : State.Conserves s t := by
  refine s.act_conserves t _ (fun u => ?_) h
  (repeat' split)
  · exact State.Conserves.refl u
  · exact (State.Conserves.refl u).rejectCalibration
  · exact (State.Conserves.refl u).acceptCalibration
  · exact State.Conserves.refl u

theorem execBracketAgeLimit_conserves (ch : Chan) (s t : State) (h : execBracketAgeLimit ch s = .next t) :
    State.Conserves s t := by
  refine s.act_conserves t _ (fun u => ?_) h
  split
  · exact (State.Conserves.refl u).setCalDue
  · exact State.Conserves.refl u

theorem execClosedFailPresentation_conserves (n : Nat) (s t : State)
    (h : execClosedFailPresentation n s = .next t) : State.Conserves s t :=
  s.act_conserves t _ (fun u => (State.Conserves.refl u).sweepStep fun _ _ hv => hv.presentFail) h

theorem execClosedGoodHandover_conserves (n : Nat) (s t : State)
    (h : execClosedGoodHandover n s = .next t) : State.Conserves s t :=
  s.act_conserves t _ (fun u => (State.Conserves.refl u).sweepStep fun _ _ hv => hv.presentGood) h

theorem execComparisonEnd_conserves (row col : Nat) (s t : State)
    (h : execComparisonEnd row col s = .next t) : State.Conserves s t := by
  refine s.act_conserves t _ (fun u => ?_) h
  split
  · exact State.Conserves.refl u
  · exact (State.Conserves.refl u).dropComparison.applyOutcome

/-! The station links. -/

theorem execStationLinkLoss_conserves (st : Stn) (s t : State) (h : execStationLinkLoss st s = .next t) :
    State.Conserves s t := by
  refine s.act_conserves t _ (fun u => ?_) h
  split
  · exact (State.Conserves.refl u).loseStation
  · exact State.Conserves.refl u

theorem execStationIdleSend_conserves (st : Stn) (s t : State) (h : execStationIdleSend st s = .next t) :
    State.Conserves s t := by
  refine s.act_conserves t _ (fun u => ?_) h
  split
  · exact (State.Conserves.refl u).modStn
  · exact State.Conserves.refl u

theorem StationLink.role_frameSent (x : StationLink) (f : StationOut) : (x.frameSent f).role = x.role := by
  unfold StationLink.frameSent
  extract_lets x1
  split <;> exact StationLink.role_schedule _

theorem execFrameSendEnd_conserves (st : Stn) (s t : State) (h : execFrameSendEnd st s = .next t) :
    State.Conserves s t := by
  refine s.act_conserves t _ (fun u => ?_) h
  split
  · exact State.Conserves.refl u
  · exact State.Conserves.refl u
  · exact (State.Conserves.refl u).modStn fun x => x.role_frameSent _

theorem execPageSendEnd_conserves (st : Stn) (s t : State) (h : execPageSendEnd st s = .next t) :
    State.Conserves s t := by
  refine s.act_conserves t _ (fun u => ?_) h
  split
  · exact (State.Conserves.refl u).modStn.pump
  · exact State.Conserves.refl u

theorem execReadStatus_conserves (st : Stn) (tag : Nat) (s t : State)
    (h : execReadStatus st tag s = .next t) : State.Conserves s t :=
  s.request_conserves t st tag .readStatus _
    (fun u => (State.Conserves.refl u).modStn (f := fun x => { x with eventsLost := false })) h

theorem execGetEvents_conserves (st : Stn) (tag count : Nat) (s t : State)
    (h : execGetEvents st tag count s = .next t) : State.Conserves s t := by
  refine s.request_conserves t st tag (.getEvents count) _ (fun u => ?_) h
  split
  · exact (State.Conserves.refl u).modStn (f := fun x => x.takeEvents count)
  · exact State.Conserves.refl u

theorem execReadPages_conserves (st : Stn) (tag traverse first count : Nat) (s t : State)
    (h : execReadPages st tag traverse first count s = .next t) : State.Conserves s t := by
  refine State.takeRequest_carries (State.Conserves s) s t st tag _ _ (fun _ _ role hu => hu.modStn role)
    (fun u hu => ?_) h (State.Conserves.refl s)
  have refused : ∀ r : Status, State.Conserves s (u.respond st tag 21 (.refuse r)) :=
    fun r => hu.modStn fun x => StationLink.role_schedule _
  unfold State.runReadPages
  extract_lets refuse
  (repeat' split)
  · exact refused _
  · exact refused _
  · exact refused _
  · exact hu.register.modStn.pump

/-! The requests on tubes, calls and traverses. -/

theorem execRequestRetest_conserves (st : Stn) (tag row col : Nat) (reset : Bool) (s t : State)
    (h : execRequestRetest st tag row col reset s = .next t) : State.Conserves s t := by
  refine s.leadRequest_conserves t st tag _ _ (fun u => u.withSession_conserves _ fun _ =>
    u.withTube_conserves _ _ fun e => ?_) h
  have again : State.Conserves u (if reset then u.retestTube e.pos .lead true none else u) := by
    split
    · exact (State.Conserves.refl u).retestTube
    · exact State.Conserves.refl u
  unfold State.leadRetest
  cases e.state
  case claimed | plugged => exact State.Conserves.refl u
  case pending | retest | restricted => exact again
  case acquired | resolution | final | plugRecommended => exact (State.Conserves.refl u).retestTube

theorem execConfirmPlug_conserves (st : Stn) (tag row col : Nat) (s t : State)
    (h : execConfirmPlug st tag row col s = .next t) : State.Conserves s t := by
  refine s.leadRequest_conserves t st tag _ _ (fun u => u.withSession_conserves _ fun _ =>
    u.withTube_conserves _ _ fun e => ?_) h
  split
  · cases e.traverse with
    | none => exact (State.Conserves.refl u).moveTube
    | some id => exact (State.Conserves.refl u).moveTube.settle
  · exact State.Conserves.refl u

theorem execSubmitFinal_conserves (st : Stn) (tag row col traverse : Nat) (call : SubmittedCall) (s t : State)
    (h : execSubmitFinal st tag row col traverse call s = .next t) : State.Conserves s t := by
  refine s.leadRequest_conserves t st tag _ _ (fun u => u.withSession_conserves _ fun x => ?_) h
  split
  · exact State.Conserves.refl u
  · refine u.withTube_conserves _ _ fun e => ?_
    (repeat' split)
    · exact State.Conserves.refl u
    · exact State.Conserves.refl u
    · exact (State.Conserves.refl u).decideTube

theorem execMarkArchived_conserves (st : Stn) (tag traverse : Nat) (s t : State)
    (h : execMarkArchived st tag traverse s = .next t) : State.Conserves s t := by
  refine s.leadRequest_conserves t st tag _ _ (fun u => u.withSession_conserves _ fun x => ?_) h
  have marked : ∀ tr : Traverse, State.Conserves u
      (if tr.archived then u
        else (u.modTrav traverse fun t => { t with archived := true }).testRelease traverse) := by
    intro tr
    split
    · exact State.Conserves.refl u
    · exact (State.Conserves.refl u).modTrav.testRelease
  split
  · exact State.Conserves.refl u
  · next tr _ =>
    cases tr.state
    case recording | paused | finishing => exact State.Conserves.refl u
    case complete | aborted | invalidated => exact marked tr

theorem execDeclareProbeFailed_conserves (st : Stn) (tag ch : Nat) (s t : State)
    (h : execDeclareProbeFailed st tag ch s = .next t) : State.Conserves s t := by
  refine s.leadRequest_conserves t st tag _ _ (fun u => ?_) h
  split
  · exact State.Conserves.refl u
  · exact (State.Conserves.refl u).failProbe

theorem State.submitCall_conserves (s : State) (role : Role) (p : Pos) (traverse : Nat)
    (call : SubmittedCall) : State.Conserves s (s.submitCall role p traverse call).1 := by
  refine s.withSession_conserves _ fun x => ?_
  split
  · exact State.Conserves.refl s
  · split
    · exact State.Conserves.refl s
    · refine s.withTube_conserves _ _ fun e => ?_
      (repeat' split)
      · exact State.Conserves.refl s
      · exact State.Conserves.refl s
      · exact (State.Conserves.refl s).modTube.startComparison

theorem execSubmitCall_conserves (st : Stn) (tag row col traverse : Nat) (call : SubmittedCall) (s t : State)
    (h : execSubmitCall st tag row col traverse call s = .next t) : State.Conserves s t := by
  refine s.request_conserves t st tag _ _ (fun u => ?_) h
  split
  · exact u.submitCall_conserves _ _ _ _
  · exact u.submitCall_conserves _ _ _ _
  · exact State.Conserves.refl u
  · exact State.Conserves.refl u

/-! The edits of the plan. -/

theorem execDefineTubes_conserves (st : Stn) (tag row col1 col2 cls : Nat) (cond : Condition) (s t : State)
    (h : execDefineTubes st tag row col1 col2 cls cond s = .next t) : State.Conserves s t := by
  refine s.editRequest_conserves t st tag _ _ _ (fun u x => ?_) h
  dsimp only
  split
  · exact State.Conserves.refl u
  · exact (State.Conserves.refl u).modSession

theorem execSetWindow_conserves (st : Stn) (tag ch : Nat) (w : Rect) (s t : State)
    (h : execSetWindow st tag ch w s = .next t) : State.Conserves s t := by
  refine s.leadRequest_conserves t st tag _ _ (fun u => u.withSession_conserves _ fun x => ?_) h
  split
  · exact (State.Conserves.refl u).modSession
  · exact State.Conserves.refl u

theorem execSetExclusions_conserves (st : Stn) (tag : Nat) (complement : Bool) (rects : List Rect)
    (s t : State) (h : execSetExclusions st tag complement rects s = .next t) : State.Conserves s t := by
  refine s.leadRequest_conserves t st tag _ _ (fun u => u.withSession_conserves _ fun x => ?_) h
  split
  · exact (State.Conserves.refl u).modSession
  · exact State.Conserves.refl u

theorem execLockPlan_conserves (st : Stn) (tag : Nat) (s t : State) (h : execLockPlan st tag s = .next t) :
    State.Conserves s t := by
  refine s.leadRequest_conserves t st tag _ _ (fun u => ?_) h
  (repeat' split)
  · exact State.Conserves.refl u
  · exact State.Conserves.refl u
  · exact (State.Conserves.refl u).modSession.refreshPermit.refreshPermit.refreshPermit.refreshPermit

end Sys2Proof.Machine
end

section
namespace Sys2Proof.Machine

/-! Every command by what it leaves of the part. -/

/-- The commands that begin a traverse, open or close a session, end a page write, or concern reset, start-up,
the configuration memory or the pin CFG_PROTECT. Every other command conserves. -/
def special : Instr → Bool
  | .powerOnReset | .resetRelease | .startupReadEnd _ | .pullStart _ | .calStart _ _ | .pageWriteEnd
  | .openSession _ _ _ | .closeSession _ _ _ | .saveConfig _ _ | .saveCommandEnd _ _ | .eraseTimeout
  | .programTimeout | .cfgProtectRise | .cfgProtectFall | .defineStandard _ _ _ _ _ _ => true
  | _ => false

theorem exec_conserves (c : Instr) (s t : State) (h : exec c s = .next t) (plain : special c = false) :
    State.Conserves s t := by
  cases c with
  | powerOnReset | resetRelease | startupReadEnd _ | pullStart _ | calStart _ _ | pageWriteEnd | openSession _ _ _
  | closeSession _ _ _ | saveConfig _ _ | saveCommandEnd _ _ | eraseTimeout | programTimeout | cfgProtectRise
  | cfgProtectFall | defineStandard _ _ _ _ _ _ => exact nomatch plain
  | hello ch id => exact execHello_conserves ch id s t h
  | probeIdle ch => exact s.probeFrame_conserves t ch _ State.Conserves.refl h
  | claim ch row col => exact execClaim_conserves ch row col s t h
  | releaseClaim ch => exact execReleaseClaim_conserves ch s t h
  | sample ch seq reading => exact execSample_conserves ch seq reading s t h
  | pause ch => exact execPause_conserves ch s t h
  | resume ch => exact execResume_conserves ch s t h
  | pullEnd ch => exact execPullEnd_conserves ch s t h
  | abandon ch reason => exact execAbandon_conserves ch reason s t h
  | probeFailed ch => exact s.probeFrame_conserves t ch _ (fun u => (State.Conserves.refl u).failProbe) h
  | probeLinkLoss ch => exact execProbeLinkLoss_conserves ch s t h
  | probeIdleSend ch => exact s.act_conserves t _ (fun u => (State.Conserves.refl u).sendProbe) h
  | claimExpiry ch => exact execClaimExpiry_conserves ch s t h
  | pauseExpiry ch => exact execPauseExpiry_conserves ch s t h
  | fetchEnd upset => exact execFetchEnd_conserves upset s t h
  | calibrationVerdict ch => exact execCalibrationVerdict_conserves ch s t h
  | bracketAgeLimit ch => exact execBracketAgeLimit_conserves ch s t h
  | closedFailPresentation n => exact execClosedFailPresentation_conserves n s t h
  | closedGoodHandover n => exact execClosedGoodHandover_conserves n s t h
  | comparisonEnd row col => exact execComparisonEnd_conserves row col s t h
  | probeFrameDiscarded ch frame | stationFrameDiscarded st frame =>
    exact s.act_conserves t _ State.Conserves.refl h
  | stationRequestFrame st tag req =>
    refine s.act_conserves t (fun u => u.arrive st ⟨tag, req⟩) (fun u => ?_) h
    exact (State.Conserves.refl u).modStn.modStn fun x => x.role_place _
  | stationIdle st => exact s.act_conserves t (·.stationFrame st) (fun u => (State.Conserves.refl u).modStn) h
  | abortStream st =>
    refine s.act_conserves t (fun u => (u.stationFrame st).abortStream st) (fun u => ?_) h
    have heard : State.Conserves u (u.stationFrame st) := (State.Conserves.refl u).modStn
    exact heard.abortStream
  | stationLinkLoss st => exact execStationLinkLoss_conserves st s t h
  | stationIdleSend st => exact execStationIdleSend_conserves st s t h
  | frameSendEnd st => exact execFrameSendEnd_conserves st s t h
  | pageSendEnd st => exact execPageSendEnd_conserves st s t h
  | sessionSecondTick => exact s.act_conserves t _ (fun u => (State.Conserves.refl u).modSession) h
  | defineGeometry st tag cls count length =>
    exact s.editRequest_conserves t st tag _ _ _ (fun u x => (State.Conserves.refl u).modSession) h
  | setLimits st tag v =>
    exact s.editRequest_conserves t st tag _ _ _ (fun u x => (State.Conserves.refl u).modSession) h
  | setSecondOpinion st tag mode =>
    exact s.editRequest_conserves t st tag _ _ _ (fun u x => (State.Conserves.refl u).modSession) h
  | removeTubes st tag row col1 col2 =>
    exact s.editRequest_conserves t st tag _ _ _ (fun u x => (State.Conserves.refl u).modSession) h
  | defineTubes st tag row col1 col2 cls cond =>
    exact execDefineTubes_conserves st tag row col1 col2 cls cond s t h
  | lockPlan st tag => exact execLockPlan_conserves st tag s t h
  | setWindow st tag ch w => exact execSetWindow_conserves st tag ch w s t h
  | setExclusions st tag complement rects => exact execSetExclusions_conserves st tag complement rects s t h
  | requestRetest st tag row col reset => exact execRequestRetest_conserves st tag row col reset s t h
  | confirmPlug st tag row col => exact execConfirmPlug_conserves st tag row col s t h
  | submitFinal st tag row col traverse call => exact execSubmitFinal_conserves st tag row col traverse call s t h
  | markArchived st tag traverse => exact execMarkArchived_conserves st tag traverse s t h
  | declareProbeFailed st tag ch => exact execDeclareProbeFailed_conserves st tag ch s t h
  | submitCall st tag row col traverse call => exact execSubmitCall_conserves st tag row col traverse call s t h
  | readPages st tag traverse first count => exact execReadPages_conserves st tag traverse first count s t h
  | unreadableRequest st tag name =>
    exact s.request_conserves t st tag (.unreadable name) (fun s => (s, .refuse .badArgument))
      State.Conserves.refl h
  | readStatus st tag => exact execReadStatus_conserves st tag s t h
  | getEvents st tag count => exact execGetEvents_conserves st tag count s t h
  | readTube st tag row col | scanTubes st tag row col states count | readTraverse st tag traverse
  | readChannel st tag ch | readCalLog st tag first | readBracket st tag number | readConfig st tag =>
    simp only [exec, execReadTube, execScanTubes, execReadTraverse, execReadChannel, execReadCalLog,
      execReadBracket, execReadConfig, State.withSession, State.withTube] at h
    refine s.request_conserves t st tag _ _ (fun u => ?_) h
    (repeat' split) <;> exact State.Conserves.refl u

/-! The commands that begin a traverse, open or close a session. -/

/-- An act from `s` to `t` that leaves what an act that conserves leaves, and under the law of the work in hand
keeps the second and the ninth law; a traverse may begin, and a session may open or close. -/
structure State.Spares (s t : State) : Prop where
  pending : t.pending = s.pending
  config : t.config = s.config
  roles : ∀ k, (t.stn k).role = (s.stn k).role
  ddr : t.store.ddr = s.store.ddr
  once : s.workLaw → t.store.ids.Nodup
  pages : s.workLaw → s.pageLaw → t.pageLaw
  samples : s.workLaw → s.sampleLaw → t.sampleLaw

theorem State.Spares.trans {s t u : State} (h : State.Spares s t) (k : State.Conserves t u) :
    State.Spares s u :=
  ⟨k.pending.trans h.pending, k.config.trans h.config, fun st => (k.roles st).trans (h.roles st),
    k.store.ddr.trans h.ddr, fun law => k.store.ids.nodup (h.once law),
    fun law pages => (k.store.pages (h.once law)).trans (h.pages law pages),
    fun law samples => k.store.samples (h.once law) (h.samples law samples)⟩

theorem State.Conserves.spares {s t : State} (h : State.Conserves s t) : State.Spares s t :=
  ⟨h.pending, h.config, h.roles, h.store.ddr, fun law => h.store.ids.nodup law.1,
    fun law pages => (h.store.pages law.1).trans pages, fun law samples => h.store.samples law.1 samples⟩

/-- A traverse created under the next id has no page and no sample (R69). -/
theorem State.Conserves.createTraverse {s u : State} (h : State.Conserves s u) (t : Traverse)
    (next : t.id = s.nextTraverse) (pages : t.pages = []) (stored : t.stored = 0) :
    State.Spares s (u.createTraverse t) := by
  have fresh : s.workLaw → (u.createTraverse t).store.ids.Nodup := by
    intro law
    have ids : (u.createTraverse t).store.ids = u.store.ids ++ [t.id] := by
      simp [State.createTraverse, Store.ids]
    rw [ids]
    refine List.Nodup.append (h.store.ids.nodup law.1) (List.nodup_singleton _) ?_
    rw [List.disjoint_singleton]
    intro old
    obtain ⟨v, hv, same⟩ := List.mem_map.1 (h.store.ids.subset old)
    have below := law.2.1 v hv
    omega
  refine ⟨h.pending, h.config, h.roles, h.store.ddr, fresh, fun law held => ?_, fun law held => ?_⟩
  · have same : (u.createTraverse t).heldPages = u.heldPages := by
      simp [State.heldPages, State.createTraverse, pages]
    rw [State.pageLaw, same]
    exact (h.store.pages law.1).trans held
  · intro v hv
    rcases List.mem_append.1 hv with old | new
    · exact h.store.samples law.1 held v old
    · rw [List.mem_singleton.1 new]
      simp [Traverse.sampleLaw, stored]

theorem State.spares_beginPull (s u : State) (h : State.Conserves s u) (next : u.nextTraverse = s.nextTraverse)
    (ch : Chan) (p : Pos) : State.Spares s (u.beginPull ch p) := by
  unfold State.beginPull
  extract_lets id b n params t s1 s2 s3 s4
  have created : State.Spares s (u.createTraverse t) := h.createTraverse t next rfl rfl
  have placed : State.Conserves (u.createTraverse t) s4 :=
    (State.Conserves.refl _).modStore.modTube.modChan.modChan.setChan.sendProbe
  have joined : State.Conserves (u.createTraverse t) (s4.joinBracket ch id) := by
    unfold State.joinBracket
    split
    · exact placed
    · extract_lets b1
      split
      · exact placed.modBracket.setCalDue
      · exact placed.modBracket
  exact created.trans joined.refreshPermit

theorem State.spares_beginCalibration (s u : State) (h : State.Conserves s u)
    (next : u.nextTraverse = s.nextTraverse) (ch : Chan) (id : Nat) (std : Standard) :
    State.Spares s (u.beginCalibration ch id std) := by
  unfold State.beginCalibration
  extract_lets n who t s1 s2 s3
  have created : State.Spares s (u.createTraverse t) := h.createTraverse t next rfl rfl
  exact created.trans
    (State.Conserves.refl _).modStore.watchStore.setAttempt.modChan.setChan.sendProbe.refreshPermit

/-- A probe frame is heard on an up link, and then acts. -/
theorem State.probeFrame_cases (s t : State) (ch : Chan) (f : State → State) (h : s.probeFrame ch f = .next t) :
    t = s ∨ t = f (s.hearProbe ch) := by
  unfold State.probeFrame State.act at h
  (repeat' split at h) <;> cases h
  · exact .inl rfl
  · dsimp only
    split
    · exact .inl rfl
    · exact .inr rfl

theorem State.conserves_hearProbe (s : State) (ch : Chan) : State.Conserves s (s.hearProbe ch) :=
  (State.Conserves.refl s).apart _ rfl rfl rfl rfl

theorem execPullStart_spares (ch : Chan) (s t : State) (h : execPullStart ch s = .next t) :
    State.Spares s t := by
  rcases s.probeFrame_cases t ch _ h with rfl | rfl
  · exact (State.Conserves.refl t).spares
  · have heard := s.conserves_hearProbe ch
    unfold State.takePullStart
    (repeat' split)
    · exact s.spares_beginPull _ heard rfl ch _
    all_goals exact heard.sendProbe.spares

theorem execCalStart_spares (ch : Chan) (std : Nat) (s t : State) (h : execCalStart ch std s = .next t) :
    State.Spares s t := by
  rcases s.probeFrame_cases t ch _ h with rfl | rfl
  · exact (State.Conserves.refl t).spares
  · have heard := s.conserves_hearProbe ch
    unfold State.takeCalStart
    split
    · exact heard.sendProbe.spares
    · exact s.spares_beginCalibration _ heard rfl ch std _
    · exact heard.sendProbe.spares

theorem State.pageLaw_of_bare {t : State} (directory : t.store.directory = []) (pool : t.store.pool = fullPool) :
    t.pageLaw := by
  have full : t.heldPages = List.range 1048576 := by
    rw [State.heldPages, directory, pool, List.flatMap_nil, List.append_nil]
    exact poolPages_run _
  rw [State.pageLaw, full]

/-- A store without a traverse, its pool full, meets both laws (R74). -/
theorem State.Spares.ofBare {s t : State} (pending : t.pending = s.pending) (config : t.config = s.config)
    (roles : ∀ k, (t.stn k).role = (s.stn k).role) (ddr : t.store.ddr = s.store.ddr)
    (directory : t.store.directory = []) (pool : t.store.pool = fullPool) : State.Spares s t := by
  refine ⟨pending, config, roles, ddr, fun _ => by simp [Store.ids, directory], fun _ _ => ?_, fun _ _ => ?_⟩
  · exact State.pageLaw_of_bare directory pool
  · simp [State.sampleLaw, directory]

theorem execOpenSession_spares (st : Stn) (tag wall : Nat) (s t : State)
    (h : execOpenSession st tag wall s = .next t) : State.Spares s t := by
  refine State.leadRequest_carries (State.Spares s) s t st tag _ _
    (fun u _ role hu => hu.trans ((State.Conserves.refl u).modStn role)) (fun u hu => ?_) h
    (State.Conserves.refl s).spares
  split
  · exact hu
  · unfold State.openSession
    extract_lets given s1 s2 s3
    refine State.Spares.ofBare ?_ ?_ (fun k => ?_) ?_ ?_ ?_
    · rw [State.pending_refreshPermits]
      exact hu.pending
    · rw [State.config_refreshPermits]
      exact hu.config
    · rw [State.stn, State.stations_refreshPermits]
      exact hu.roles k
    all_goals rw [State.store_refreshPermits]
    · exact hu.ddr
    · rfl
    · rfl

theorem execCloseSession_spares (st : Stn) (tag : Nat) (force : Bool) (s t : State)
    (h : execCloseSession st tag force s = .next t) : State.Spares s t := by
  refine State.leadRequest_carries (State.Spares s) s t st tag _ _
    (fun u _ role hu => hu.trans ((State.Conserves.refl u).modStn role)) (fun u hu => ?_) h
    (State.Conserves.refl s).spares
  refine State.withSession_keeps (State.Spares s) u _ (fun x _ hu => ?_) hu
  split
  · exact hu
  · rw [State.closeSession_eq]
    dsimp only
    have ended : State.Conserves u (u.beforeClose force) := by
      unfold State.beforeClose
      split
      · exact (State.Conserves.refl u).endWork
      · exact State.Conserves.refl u
    have work := hu.trans ended
    refine State.Spares.ofBare ?_ ?_ (fun k => ?_) ?_ ?_ ?_
    · rw [State.pending_finishClose]
      exact work.pending
    · rw [State.config_finishClose]
      exact work.config
    · obtain ⟨x, heard, same⟩ := (u.beforeClose force).finishClose_stn _ k
      rw [same, ← work.roles k]
      exact (StationLink.role_eq_of_unheard _ _ (StationLink.unheard_hear _ _ _ _)).trans
        (StationLink.role_eq_of_unheard _ _ heard)
    all_goals rw [State.store_finishClose]
    exact work.ddr

/-! The end of a page write (R81). -/

/-- The store with the port free and the bytes of a page written (R81). -/
def State.pageWritten (s : State) (page : Nat) (bytes : List Byte) : State :=
  s.modStore fun x =>
    { x with port := .free
             ddr := Memory.writeBlock Config.ddrUnwritten x.ddr (pageAddress page) bytes }

theorem State.conserves_writeEnded (s : State) (ch : Chan) (i : BufId) (traverse : Option Nat) (page : Nat)
    (bytes : List Byte) :
    State.Conserves (s.pageWritten page bytes) (s.writeEnded ch i traverse page bytes) := by
  have written := State.Conserves.refl (s.pageWritten page bytes)
  unfold State.writeEnded
  split
  · exact written.freeBuffer.arbitrate
  · exact written.modTrav.freeBuffer.arbitrate.tryComplete.reportAbort.testRelease

theorem execPageWriteEnd_cases (s t : State) (h : execPageWriteEnd s = .next t) :
    t = s ∨ ∃ page bytes, State.Conserves (s.pageWritten page bytes) t := by
  unfold execPageWriteEnd at h
  split at h
  · cases h
    exact .inl rfl
  · split at h
    · split at h <;> cases h
      exact .inr ⟨_, _, s.conserves_writeEnded _ _ _ _ _⟩
    all_goals
      cases h
      exact .inl rfl

end Sys2Proof.Machine
end

section
namespace Sys2Proof.Machine

/-! The commands of the configuration memory, of start-up and of the pin (R120, R121, R184 to R190). -/

/-- An act from `s` to `t` on the configuration memory that leaves what `keeps` reads of it, with the queue of
commands, the roles of the stations and the store. -/
structure State.Reconfigures {γ : Type} (keeps : ConfigMem → γ) (s t : State) : Prop where
  pending : t.pending = s.pending
  roles : ∀ k, (t.stn k).role = (s.stn k).role
  store : t.store = s.store
  config : keeps t.config = keeps s.config

section Reconfigures
variable {γ : Type} {keeps : ConfigMem → γ} {s u : State}

theorem State.Reconfigures.refl (s : State) : State.Reconfigures keeps s s := ⟨rfl, fun _ => rfl, rfl, rfl⟩

theorem State.Reconfigures.modConfig (h : State.Reconfigures keeps s u) {f : ConfigMem → ConfigMem}
    (kept : ∀ x, keeps (f x) = keeps x := by intro x; rfl) : State.Reconfigures keeps s (u.modConfig f) :=
  ⟨h.pending, h.roles, h.store, (kept _).trans h.config⟩

theorem State.Reconfigures.raise (h : State.Reconfigures keeps s u) {e : Event} :
    State.Reconfigures keeps s (u.raise e) :=
  ⟨h.pending, fun k => (StationLink.role_eq_of_unheard _ _ (u.unheard_raise e k)).trans (h.roles k), h.store,
    h.config⟩

theorem State.Reconfigures.modStn (h : State.Reconfigures keeps s u) {st : Stn} {f : StationLink → StationLink}
    (role : ∀ x, (f x).role = x.role) : State.Reconfigures keeps s (u.modStn st f) := by
  refine ⟨h.pending, fun k => ?_, h.store, h.config⟩
  rw [State.stn_modStn]
  split
  · exact (role _).trans (h.roles k)
  · exact h.roles k

/-- What no act of a running save changes: the pin, the status and the shadow. -/
def ConfigMem.settings (x : ConfigMem) : Bool × Option ConfigStatus × Shadow := (x.cfgProtect, x.status, x.shadow)

/-- The settings with the contents of the flash. -/
def ConfigMem.contents (x : ConfigMem) : (Bool × Option ConfigStatus × Shadow) × List Host.Cell :=
  (x.settings, x.flash)

/-- What the definition of a standard leaves of the configuration memory (R121). -/
def ConfigMem.frame (x : ConfigMem) : Bool × Option ConfigStatus × Three Role × Limits × List Host.Cell :=
  (x.cfgProtect, x.status, x.shadow.roles, x.shadow.limits, x.flash)

theorem State.Reconfigures.settings (h : State.Reconfigures ConfigMem.contents s u) :
    State.Reconfigures ConfigMem.settings s u :=
  ⟨h.pending, h.roles, h.store, congrArg Prod.fst h.config⟩

theorem State.Reconfigures.endSave (h : State.Reconfigures ConfigMem.contents s u) {r : SaveResult} :
    State.Reconfigures ConfigMem.contents s (u.endSave r) := State.Reconfigures.raise h.modConfig

theorem State.Reconfigures.endSettings (h : State.Reconfigures ConfigMem.settings s u) {r : SaveResult} :
    State.Reconfigures ConfigMem.settings s (u.endSave r) := State.Reconfigures.raise h.modConfig

theorem State.Reconfigures.setSave (h : State.Reconfigures ConfigMem.settings s u) {x : Shadow} {step : SaveStep} :
    State.Reconfigures ConfigMem.settings s (u.setSave x step) := h.modConfig

theorem State.Reconfigures.startSave (h : State.Reconfigures ConfigMem.contents s u) :
    State.Reconfigures ConfigMem.contents s u.startSave := h.modConfig

theorem State.Reconfigures.setStandard (h : State.Reconfigures ConfigMem.frame s u) {id : Nat} {std : Standard} :
    State.Reconfigures ConfigMem.frame s
      (u.modConfig fun c =>
        { c with shadow := { c.shadow with standards := c.shadow.standards.set id (some std) } }) := h.modConfig

theorem State.Reconfigures.writeFlash (h : State.Reconfigures ConfigMem.settings s u) {base : Nat}
    {bytes : List Byte} : State.Reconfigures ConfigMem.settings s (u.modConfig (·.writeFlash base bytes)) :=
  h.modConfig

end Reconfigures

/-- What the acts of a save carry, the end of a flash command carries (R189). -/
theorem State.saveCommandEnd_carries (P : State → Prop) (ended : ∀ u r, P u → P (u.endSave r))
    (set : ∀ u x step, P u → P (u.setSave x step))
    (write : ∀ u base bytes, P u → P (u.modConfig (·.writeFlash base bytes))) (s : State) (shown : Bool)
    (upset : List Host.Cell) (h : P s) : P (s.saveCommandEnd shown upset) := by
  have issue (u : State) (x : Shadow) (target : FlashTarget) (hu : P u) : P (u.issueEnable x target) := by
    unfold State.issueEnable
    split
    · exact ended _ _ hu
    · exact set _ _ _ hu
  have verified (u : State) (differs : Option Nat) (hu : P u) : P (u.verified differs) := by
    cases differs with
    | none => exact ended _ _ hu
    | some off => exact ended _ _ hu
  unfold State.saveCommandEnd
  split
  · exact h
  · split
    · exact issue _ _ _ h
    · split
      · exact set _ _ _ h
      · exact ended _ _ h
    · exact set _ _ _ (write _ _ _ h)
    · split
      · exact issue _ _ _ h
      · exact h
    · exact set _ _ _ h
    · split
      · extract_lets s1
        have programmed : P s1 := write _ _ _ h
        split
        · exact issue _ _ _ programmed
        · exact set _ _ _ programmed
      · exact h
    · exact verified _ _ (write _ _ _ h)

theorem execSaveCommandEnd_reconfigures (shown : Bool) (upset : List Host.Cell) (s t : State)
    (h : execSaveCommandEnd shown upset s = .next t) : State.Reconfigures ConfigMem.settings s t :=
  State.act_keeps (State.Reconfigures ConfigMem.settings s) s t (fun u => u.saveCommandEnd shown upset)
    (fun u hu => State.saveCommandEnd_carries (State.Reconfigures ConfigMem.settings s) (fun _ _ h => h.endSettings)
      (fun _ _ _ h => h.setSave) (fun _ _ _ h => h.writeFlash) u shown upset hu) h (State.Reconfigures.refl s)

theorem execEraseTimeout_reconfigures (s t : State) (h : execEraseTimeout s = .next t) :
    State.Reconfigures ConfigMem.contents s t := by
  refine State.act_keeps (State.Reconfigures ConfigMem.contents s) s t _ (fun u hu => ?_) h
    (State.Reconfigures.refl s)
  unfold State.eraseTimedOut
  split
  · exact hu.endSave
  · exact hu

theorem execProgramTimeout_reconfigures (s t : State) (h : execProgramTimeout s = .next t) :
    State.Reconfigures ConfigMem.contents s t := by
  refine State.act_keeps (State.Reconfigures ConfigMem.contents s) s t _ (fun u hu => ?_) h
    (State.Reconfigures.refl s)
  unfold State.programTimedOut
  split
  · exact hu.endSave
  · exact hu

theorem execSaveConfig_reconfigures (st : Stn) (tag : Nat) (s t : State) (h : execSaveConfig st tag s = .next t) :
    State.Reconfigures ConfigMem.contents s t := by
  refine State.leadRequest_carries (State.Reconfigures ConfigMem.contents s) s t st tag _ _
    (fun _ _ role hu => hu.modStn role) (fun u hu => ?_) h (State.Reconfigures.refl s)
  (repeat' split)
  · exact hu
  · exact hu
  · exact hu.startSave

theorem execDefineStandard_reconfigures (st : Stn) (tag id : Nat) (depths : List Nat) (freq threshold : Nat)
    (s t : State) (h : execDefineStandard st tag id depths freq threshold s = .next t) :
    State.Reconfigures ConfigMem.frame s t := by
  refine State.leadRequest_carries (State.Reconfigures ConfigMem.frame s) s t st tag _ _
    (fun _ _ role hu => hu.modStn role) (fun u hu => ?_) h (State.Reconfigures.refl s)
  dsimp only
  (repeat' split)
  · exact hu
  · exact hu.setStandard
  · exact hu

theorem execResetRelease_reconfigures (s t : State) (h : execResetRelease s = .next t) :
    State.Reconfigures ConfigMem.contents s t := by
  unfold execResetRelease at h
  split at h <;> cases h
  · exact (State.Reconfigures.refl s).modConfig (f := fun x => { x with phase := .loading }) fun _ => rfl
  · exact State.Reconfigures.refl s

/-- The end of the start-up read loads the shadow and leaves the store, the flash and the pin (R186). -/
theorem execStartupReadEnd_leaves (upset : List Host.Cell) (s t : State)
    (h : execStartupReadEnd upset s = .next t) :
    t.pending = s.pending ∧ t.store = s.store ∧ t.config.flash = s.config.flash
      ∧ t.config.cfgProtect = s.config.cfgProtect := by
  unfold execStartupReadEnd at h
  split at h <;> cases h <;> exact ⟨rfl, rfl, rfl, rfl⟩

end Sys2Proof.Machine
end

section
namespace Sys2Proof.Machine

/-- The end of a flash command keeps the flash in its canonical form (R189). -/
theorem execSaveCommandEnd_wf (shown : Bool) (upset : List Host.Cell) (s t : State)
    (h : execSaveCommandEnd shown upset s = .next t) (wf : Memory.wf Config.flashUnwritten s.config.flash = true) :
    Memory.wf Config.flashUnwritten t.config.flash = true :=
  State.act_keeps (fun u => Memory.wf Config.flashUnwritten u.config.flash = true) s t _
    (fun u => State.saveCommandEnd_carries (fun u => Memory.wf Config.flashUnwritten u.config.flash = true)
      (fun _ _ h => h) (fun _ _ _ h => h)
      (fun _ _ _ h => Memory.writeBlock_wf _ _ _ _ h) u shown upset) h wf

/-! What a command does to the memories, the configuration memory and the store. -/

/-- What the pin CFG_PROTECT leaves of the configuration memory (R190). -/
def ConfigMem.unpinned (x : ConfigMem) : Option ConfigStatus × Shadow × List Host.Cell :=
  (x.status, x.shadow, x.flash)

/-- What a command that answers `t` does to the memories, the configuration memory and the store of `s`. -/
inductive Instr.Does (s t : State) : Instr → Prop
  | spares {c : Instr} (h : State.Spares s t) : Does s t c
  | configures {c : Instr} (h : State.Reconfigures ConfigMem.contents s t) : Does s t c
  | written (page : Nat) (bytes : List Byte) (h : State.Conserves (s.pageWritten page bytes) t) :
      Does s t .pageWriteEnd
  | saved (shown : Bool) (upset : List Host.Cell) (h : State.Reconfigures ConfigMem.settings s t)
      (wf : Memory.wf Config.flashUnwritten s.config.flash = true →
        Memory.wf Config.flashUnwritten t.config.flash = true) :
      Does s t (.saveCommandEnd shown upset)
  | defined {st tag id depths freq threshold} (h : State.Reconfigures ConfigMem.frame s t) :
      Does s t (.defineStandard st tag id depths freq threshold)
  | rose (h : State.Reconfigures ConfigMem.unpinned s t) : Does s t .cfgProtectRise
  | fell (h : State.Reconfigures ConfigMem.unpinned s t) : Does s t .cfgProtectFall
  | loaded (upset : List Host.Cell) (pending : t.pending = s.pending) (store : t.store = s.store)
      (flash : t.config.flash = s.config.flash) (pin : t.config.cfgProtect = s.config.cfgProtect) :
      Does s t (.startupReadEnd upset)
  | reset (h : exec .powerOnReset s = .next t) : Does s t .powerOnReset

theorem exec_does (c : Instr) (s t : State) (h : exec c s = .next t) : Instr.Does s t c := by
  by_cases plain : special c = false
  · exact .spares (exec_conserves c s t h plain).spares
  cases c with
  | powerOnReset => exact .reset h
  | resetRelease => exact .configures (execResetRelease_reconfigures s t h)
  | startupReadEnd upset =>
    obtain ⟨pending, store, flash, pin⟩ := execStartupReadEnd_leaves upset s t h
    exact .loaded upset pending store flash pin
  | pullStart ch => exact .spares (execPullStart_spares ch s t h)
  | calStart ch std => exact .spares (execCalStart_spares ch std s t h)
  | pageWriteEnd =>
    rcases execPageWriteEnd_cases s t h with rfl | ⟨page, bytes, kept⟩
    · exact .spares (State.Conserves.refl t).spares
    · exact .written page bytes kept
  | openSession st tag wall => exact .spares (execOpenSession_spares st tag wall s t h)
  | closeSession st tag force => exact .spares (execCloseSession_spares st tag force s t h)
  | saveConfig st tag => exact .configures (execSaveConfig_reconfigures st tag s t h)
  | saveCommandEnd shown upset =>
    exact .saved shown upset (execSaveCommandEnd_reconfigures shown upset s t h)
      (execSaveCommandEnd_wf shown upset s t h)
  | eraseTimeout => exact .configures (execEraseTimeout_reconfigures s t h)
  | programTimeout => exact .configures (execProgramTimeout_reconfigures s t h)
  | cfgProtectRise =>
    cases h
    exact .rose ⟨rfl, fun _ => rfl, rfl, rfl⟩
  | cfgProtectFall =>
    cases h
    exact .fell ⟨rfl, fun _ => rfl, rfl, rfl⟩
  | defineStandard st tag id depths freq threshold =>
    exact .defined (execDefineStandard_reconfigures st tag id depths freq threshold s t h)
  | _ => exact absurd rfl plain

/-! The laws of the store that a command keeps. -/

theorem State.memoryLaw_iff (s : State) :
    s.memoryLaw = true
      ↔ Memory.wf Config.ddrUnwritten s.store.ddr = true
        ∧ Memory.wf Config.flashUnwritten s.config.flash = true := by
  rw [State.memoryLaw, Bool.and_eq_true]

/-- A state with a store as wide as another's has its pages where that has them (R74). -/
theorem State.pageLaw_of_store {s t : State} (same : t.store = s.store) (law : s.pageLaw) : t.pageLaw := by
  rw [State.pageLaw, State.heldPages, same]
  exact law

theorem State.sampleLaw_of_store {s t : State} (same : t.store = s.store) (law : s.sampleLaw) :
    t.sampleLaw := by
  rw [State.sampleLaw, same]
  exact law

/-- The bytes of a page are all that its end of write changes of the store's pages and traverses (R81). -/
theorem State.spares_of_pageWritten {s t : State} {page : Nat} {bytes : List Byte}
    (h : State.Conserves (s.pageWritten page bytes) t) :
    (s.workLaw → s.pageLaw → t.pageLaw) ∧ (s.workLaw → s.sampleLaw → t.sampleLaw) :=
  ⟨fun law pages => (h.store.pages law.1).trans pages, fun law samples => h.store.samples law.1 samples⟩

section Does
variable {c : Instr} {s t : State}

theorem Instr.Does.pending (h : Instr.Does s t c) : t.pending = s.pending := by
  cases h with
  | spares h | configures h | written _ _ h | saved _ _ h _ | defined h | rose h | fell h => exact h.pending
  | loaded _ pending _ _ _ => exact pending
  | reset h =>
    cases h
    rfl

theorem Instr.Does.ddr (h : Instr.Does s t c) (other : c ≠ .pageWriteEnd) : t.store.ddr = s.store.ddr := by
  cases h with
  | spares h => exact h.ddr
  | configures h | saved _ _ h _ | defined h | rose h | fell h => rw [h.store]
  | written _ _ h => exact absurd rfl other
  | loaded _ _ store _ _ => rw [store]
  | reset h =>
    cases h
    rfl

theorem Instr.Does.flash (h : Instr.Does s t c) (other : ∀ shown upset, c ≠ .saveCommandEnd shown upset) :
    t.config.flash = s.config.flash := by
  cases h with
  | spares h => rw [h.config]
  | configures h => exact congrArg (·.2) h.config
  | written _ _ h => rw [h.config]; rfl
  | saved shown upset _ _ => exact absurd rfl (other shown upset)
  | defined h => exact congrArg (·.2.2.2.2) h.config
  | rose h | fell h => exact congrArg (·.2.2) h.config
  | loaded _ _ _ flash _ => exact flash
  | reset h =>
    cases h
    rfl

theorem Instr.Does.pin (h : Instr.Does s t c) (rise : c ≠ .cfgProtectRise) (fall : c ≠ .cfgProtectFall) :
    t.config.cfgProtect = s.config.cfgProtect := by
  cases h with
  | spares h => rw [h.config]
  | configures h => exact congrArg (·.1.1) h.config
  | written _ _ h => rw [h.config]; rfl
  | saved _ _ h _ | defined h => exact congrArg (·.1) h.config
  | rose h => exact absurd rfl rise
  | fell h => exact absurd rfl fall
  | loaded _ _ _ _ pin => exact pin
  | reset h =>
    cases h
    rfl

/-- The roles, the limits and the status of the shadow change at reset and at the end of loading (R142). -/
theorem Instr.Does.shadow (h : Instr.Does s t c) (reset : c ≠ .powerOnReset)
    (load : ∀ upset, c ≠ .startupReadEnd upset) :
    t.config.shadow.roles = s.config.shadow.roles ∧ t.config.shadow.limits = s.config.shadow.limits
      ∧ t.config.status = s.config.status ∧ ∀ st, (t.stn st).role = (s.stn st).role := by
  cases h with
  | spares h => exact ⟨by rw [h.config], by rw [h.config], by rw [h.config], h.roles⟩
  | written _ _ h => exact ⟨by rw [h.config]; rfl, by rw [h.config]; rfl, by rw [h.config]; rfl, h.roles⟩
  | configures h =>
    exact ⟨congrArg (·.1.2.2.roles) h.config, congrArg (·.1.2.2.limits) h.config,
      congrArg (·.1.2.1) h.config, h.roles⟩
  | saved _ _ h _ =>
    exact ⟨congrArg (·.2.2.roles) h.config, congrArg (·.2.2.limits) h.config, congrArg (·.2.1) h.config, h.roles⟩
  | defined h =>
    exact ⟨congrArg (·.2.2.1) h.config, congrArg (·.2.2.2.1) h.config, congrArg (·.2.1) h.config, h.roles⟩
  | rose h | fell h =>
    exact ⟨congrArg (·.2.1.roles) h.config, congrArg (·.2.1.limits) h.config, congrArg (·.1) h.config, h.roles⟩
  | loaded upset _ _ _ _ => exact absurd rfl (load upset)
  | reset _ => exact absurd rfl reset

/-- The standards change at the end of loading and by DEFINE_STANDARD (R121, R142). -/
theorem Instr.Does.standards (h : Instr.Does s t c) (load : ∀ upset, c ≠ .startupReadEnd upset)
    (define : ∀ st tag id d f th, c ≠ .defineStandard st tag id d f th) :
    t.config.shadow.standards = s.config.shadow.standards := by
  cases h with
  | spares h => rw [h.config]
  | written _ _ h => rw [h.config]; rfl
  | configures h => exact congrArg (·.1.2.2.standards) h.config
  | saved _ _ h _ => exact congrArg (·.2.2.standards) h.config
  | defined h => exact absurd rfl (define _ _ _ _ _ _)
  | rose h | fell h => exact congrArg (·.2.1.standards) h.config
  | loaded upset _ _ _ _ => exact absurd rfl (load upset)
  | reset h =>
    cases h
    rfl

theorem Instr.Does.ddr_wf (h : Instr.Does s t c) (wf : Memory.wf Config.ddrUnwritten s.store.ddr = true) :
    Memory.wf Config.ddrUnwritten t.store.ddr = true := by
  by_cases write : c = .pageWriteEnd
  · subst write
    cases h with
    | spares h => rwa [h.ddr]
    | configures h => rwa [h.store]
    | written page bytes h =>
      rw [h.store.ddr]
      exact Memory.writeBlock_wf _ _ _ _ wf
  · rwa [h.ddr write]

theorem Instr.Does.flash_wf (h : Instr.Does s t c) (wf : Memory.wf Config.flashUnwritten s.config.flash = true) :
    Memory.wf Config.flashUnwritten t.config.flash = true := by
  by_cases save : ∃ shown upset, c = .saveCommandEnd shown upset
  · obtain ⟨shown, upset, rfl⟩ := save
    cases h with
    | spares h => rwa [h.config]
    | configures h => rwa [show t.config.flash = _ from congrArg (·.2) h.config]
    | saved _ _ _ kept => exact kept wf
  · rwa [h.flash fun shown upset same => save ⟨shown, upset, same⟩]

theorem Instr.Does.memoryLaw (h : Instr.Does s t c) (law : s.memoryLaw = true) : t.memoryLaw = true := by
  rw [State.memoryLaw_iff] at law ⊢
  exact ⟨h.ddr_wf law.1, h.flash_wf law.2⟩

/-- Power-on reset frees every page (R74). -/
theorem State.pageLaw_of_reset (reset : exec .powerOnReset s = .next t) : t.pageLaw := by
  cases reset
  exact State.pageLaw_of_bare rfl rfl

theorem Instr.Does.pageLaw (h : Instr.Does s t c) (work : s.workLaw) (law : s.pageLaw) : t.pageLaw := by
  cases h with
  | spares h => exact h.pages work law
  | written _ _ h => exact (State.spares_of_pageWritten h).1 work law
  | configures h | saved _ _ h _ | defined h | rose h | fell h => exact State.pageLaw_of_store h.store law
  | loaded _ _ store _ _ => exact State.pageLaw_of_store store law
  | reset h => exact State.pageLaw_of_reset h

theorem Instr.Does.sampleLaw (h : Instr.Does s t c) (work : s.workLaw) (law : s.sampleLaw) : t.sampleLaw := by
  cases h with
  | spares h => exact h.samples work law
  | written _ _ h => exact (State.spares_of_pageWritten h).2 work law
  | configures h | saved _ _ h _ | defined h | rose h | fell h => exact State.sampleLaw_of_store h.store law
  | loaded _ _ store _ _ => exact State.sampleLaw_of_store store law
  | reset h =>
    cases h
    exact fun _ none => nomatch none

end Does

/-- A step with no command waiting leaves the store and the flash (R184 to R191). -/
theorem State.idle_leaves (s : State) : s.idle.store = s.store ∧ s.idle.config.flash = s.config.flash := by
  obtain ⟨_, _, _, _, store, _, _, _, flash⟩ := s.tick_keeps
  unfold State.idle
  (repeat' split)
  · exact ⟨rfl, rfl⟩
  · exact ⟨store, flash⟩
  · exact ⟨rfl, rfl⟩

/-- A step leaves the store and the flash, or is one command, whatever commands wait. -/
theorem step_does (s t : State) (h : step s = .next t) :
    (t.store = s.store ∧ t.config.flash = s.config.flash)
      ∨ ∃ c rest, Instr.Does { s with pending := rest } t c := by
  unfold step at h
  split at h
  · cases h
    exact .inl s.idle_leaves
  · exact .inr ⟨_, _, exec_does _ _ t h⟩

/-- Settles O12: every command is one of few kinds (`Instr.Does`), each of which keeps the three laws, and an
idle step leaves the memories and the store. -/
theorem memoriesStayCanonical : Obligations.MemoriesStayCanonical := by
  refine ⟨fun s t law h => ?_, fun s t work law h => ?_, fun s t work law h => ?_⟩
  · rcases step_does s t h with ⟨store, flash⟩ | ⟨c, rest, does⟩
    · rwa [State.memoryLaw, store, flash]
    · exact does.memoryLaw law
  · rcases step_does s t h with ⟨store, _⟩ | ⟨c, rest, does⟩
    · exact State.pageLaw_of_store store law
    · exact does.pageLaw work law
  · rcases step_does s t h with ⟨store, _⟩ | ⟨c, rest, does⟩
    · exact State.sampleLaw_of_store store law
    · exact does.sampleLaw work law

/-- Settles O6: each command is of a kind (`Instr.Does`) that leaves what its statement names. -/
theorem memoriesAndShadowChangeOnlyByTheirCommands : Obligations.MemoriesAndShadowChangeOnlyByTheirCommands :=
  ⟨fun c s t h => ⟨(exec_does c s t h).ddr, (exec_does c s t h).flash, (exec_does c s t h).pin⟩,
    fun c s t h => (exec_does c s t h).shadow, fun c s t h => (exec_does c s t h).standards⟩

/-! Arrivals in reset, and faults (R79, R184). -/

/-- The commands of reset and of the pin, and the two ends of a transfer to the store or from it. Every other
command is an arrival that acts whole. -/
def unguarded : Instr → Bool
  | .powerOnReset | .resetRelease | .startupReadEnd _ | .cfgProtectRise | .cfgProtectFall | .pageWriteEnd
  | .fetchEnd _ => true
  | _ => false

/-- An outcome of an arrival that acts whole. -/
def State.Acts (s : State) (out : Host.Outcome State Fault Refusal) : Prop := ∃ f, out = s.act f

theorem State.acts_act (s : State) (f : State → State) : s.Acts (s.act f) := ⟨f, rfl⟩

theorem State.acts_probeFrame (s : State) (ch : Chan) (f : State → State) : s.Acts (s.probeFrame ch f) := ⟨_, rfl⟩

theorem State.acts_takeRequest (s : State) (st : Stn) (tag : Nat) (req : Request) (run : State → State) :
    s.Acts (s.takeRequest st tag req run) := ⟨_, rfl⟩

theorem State.acts_request (s : State) (st : Stn) (tag : Nat) (req : Request) (body : State → State × Reply) :
    s.Acts (s.request st tag req body) := s.acts_takeRequest st tag req _

theorem State.acts_leadRequest (s : State) (st : Stn) (tag : Nat) (req : Request) (body : State → State × Reply) :
    s.Acts (s.leadRequest st tag req body) := s.acts_request st tag req _

theorem State.acts_editRequest (s : State) (st : Stn) (tag : Nat) (req : Request) (good : Bool)
    (body : State → Session → State × Reply) : s.Acts (s.editRequest st tag req good body) :=
  s.acts_leadRequest st tag req _

theorem exec_acts (c : Instr) (s : State) (plain : unguarded c = false) : s.Acts (exec c s) := by
  cases c with
  | powerOnReset | resetRelease | startupReadEnd _ | cfgProtectRise | cfgProtectFall | pageWriteEnd | fetchEnd _ =>
    exact nomatch plain
  | probeIdle | claim | releaseClaim | pullStart | sample | pause | resume | pullEnd | abandon | calStart
  | probeFailed =>
    rw [exec]
    exact s.acts_probeFrame _ _
  | readPages =>
    rw [exec]
    exact s.acts_takeRequest _ _ _ _
  | openSession | closeSession | saveConfig | lockPlan | setWindow | setExclusions | defineStandard
  | requestRetest | confirmPlug | submitFinal | markArchived | declareProbeFailed =>
    rw [exec]
    exact s.acts_leadRequest _ _ _ _
  | defineGeometry | defineTubes | removeTubes | setLimits | setSecondOpinion =>
    rw [exec]
    exact s.acts_editRequest _ _ _ _ _
  | readStatus | getEvents | readTube | scanTubes | readTraverse | readChannel | readCalLog | readBracket
  | readConfig | unreadableRequest | submitCall =>
    rw [exec]
    exact s.acts_request _ _ _ _
  | _ =>
    rw [exec]
    exact s.acts_act _

theorem State.act_next (s : State) (f : State → State) : ∃ t, s.act f = .next t := by
  unfold State.act
  split
  · exact ⟨_, rfl⟩
  · exact ⟨_, rfl⟩

theorem execPageWriteEnd_answers (s : State) :
    (∃ t, execPageWriteEnd s = .next t)
      ∨ ∃ page, execPageWriteEnd s = .fault (.noSuchPage page) ∧ 1048576 ≤ page
        ∧ ∃ ch i id bytes, s.store.port = .write ch i id page bytes := by
  unfold execPageWriteEnd
  split
  · exact .inl ⟨_, rfl⟩
  · split
    · next ch i traverse page bytes port =>
      split
      · next absent => exact .inr ⟨page, rfl, absent, ch, i, traverse, bytes, port⟩
      · exact .inl ⟨_, rfl⟩
    · exact .inl ⟨_, rfl⟩
    · exact .inl ⟨_, rfl⟩

theorem execFetchEnd_answers (upset : List Host.Cell) (s : State) :
    (∃ t, execFetchEnd upset s = .next t)
      ∨ ∃ page, execFetchEnd upset s = .fault (.noSuchPage page) ∧ 1048576 ≤ page
        ∧ ∃ st seq d, s.store.port = .fetch st page seq d := by
  unfold execFetchEnd
  split
  · exact .inl ⟨_, rfl⟩
  · split
    · next st page seq deliver port =>
      split
      · next absent => exact .inr ⟨page, rfl, absent, st, seq, deliver, port⟩
      · exact .inl ⟨_, rfl⟩
    · exact .inl ⟨_, rfl⟩
    · exact .inl ⟨_, rfl⟩

/-- A command goes on, or it is the end of a transfer of a page the store does not have (R79). -/
theorem exec_answers (c : Instr) (s : State) :
    (∃ t, exec c s = .next t)
      ∨ ∃ page, exec c s = .fault (.noSuchPage page) ∧ 1048576 ≤ page
        ∧ ((c = .pageWriteEnd ∧ ∃ ch i id bytes, s.store.port = .write ch i id page bytes)
          ∨ (∃ u, c = .fetchEnd u) ∧ ∃ st seq d, s.store.port = .fetch st page seq d) := by
  by_cases plain : unguarded c = false
  · obtain ⟨f, act⟩ := exec_acts c s plain
    rw [act]
    exact .inl (s.act_next f)
  cases c with
  | pageWriteEnd =>
    rcases execPageWriteEnd_answers s with next | ⟨page, fault, absent, port⟩
    · exact .inl next
    · exact .inr ⟨page, fault, absent, .inl ⟨rfl, port⟩⟩
  | fetchEnd upset =>
    rcases execFetchEnd_answers upset s with next | ⟨page, fault, absent, port⟩
    · exact .inl next
    · exact .inr ⟨page, fault, absent, .inr ⟨⟨upset, rfl⟩, port⟩⟩
  | powerOnReset | cfgProtectRise | cfgProtectFall => exact .inl ⟨_, rfl⟩
  | resetRelease =>
    simp only [exec, execResetRelease]
    split
    · exact .inl ⟨_, rfl⟩
    · exact .inl ⟨_, rfl⟩
  | startupReadEnd upset =>
    simp only [exec, execStartupReadEnd]
    split
    · exact .inl ⟨_, rfl⟩
    · exact .inl ⟨_, rfl⟩
  | _ => exact absurd rfl plain

/-- While RESET_N is low nothing but reset, its release and the pin acts (R184). -/
theorem exec_inReset (c : Instr) (s : State) (low : s.config.phase = .inReset) (reset : c ≠ .powerOnReset)
    (release : c ≠ .resetRelease) (rise : c ≠ .cfgProtectRise) (fall : c ≠ .cfgProtectFall) :
    exec c s = .next s := by
  by_cases plain : unguarded c = false
  · obtain ⟨f, act⟩ := exec_acts c s plain
    rw [act, State.act, if_pos low]
  cases c with
  | pageWriteEnd | fetchEnd _ => exact if_pos low
  | startupReadEnd upset =>
    refine if_neg ?_
    rw [low]
    exact nofun
  | powerOnReset => exact absurd rfl reset
  | resetRelease => exact absurd rfl release
  | cfgProtectRise => exact absurd rfl rise
  | cfgProtectFall => exact absurd rfl fall
  | _ => exact absurd rfl plain

/-- Settles O5: a command goes on or faults at the end of a transfer (`exec_answers`), leaves the queue
(`Instr.Does.pending`), and in reset does nothing (`exec_inReset`). -/
theorem onlyAbsentPagesStop : Obligations.OnlyAbsentPagesStop := by
  refine ⟨⟨fun c s => ⟨fun r h => ?_, fun f h => ?_⟩, fun c s t h => (exec_does c s t h).pending⟩,
    fun c s low reset release rise fall => exec_inReset c s low reset release rise fall⟩
  · rcases exec_answers c s with ⟨t, next⟩ | ⟨page, fault, _⟩
    · rw [next] at h
      exact nomatch h
    · rw [fault] at h
      exact nomatch h
  · rcases exec_answers c s with ⟨t, next⟩ | ⟨page, fault, absent, transfer⟩
    · rw [next] at h
      exact nomatch h
    · rw [fault] at h
      cases h
      exact ⟨page, rfl, absent, transfer⟩

end Sys2Proof.Machine
end

section
namespace Sys2Proof.Machine

/-! Events and their stations (R178 to R180), and the store-low flag (R85). -/

/-- The reasoning rules of a heard event: before loading has ended it is lost everywhere (R179). -/
theorem StationLink.hear_unready (x : StationLink) (mode : Mode) (r : EventRecord) :
    x.hear false mode r = { x with eventsLost := true } := rfl

theorem StationLink.hear_routed (x : StationLink) (mode : Mode) (r : EventRecord) (role : Role)
    (holds : x.role = some role) :
    x.hear true mode r = if routes mode r.event role then x.offer r else x := by
  simp [StationLink.hear, holds]

/-- A queue with room takes an event, and its attention line rises (R178, R180). -/
theorem StationLink.offer_room (x : StationLink) (r : EventRecord) (room : x.events.length < 64) :
    x.offer r = { x with events := x.events ++ [r], attn := true } := if_pos room

theorem StationLink.offer_full (x : StationLink) (r : EventRecord) (full : 64 ≤ x.events.length) :
    x.offer r = { x with eventsLost := true } := if_neg (Nat.not_lt.2 full)

/-- What a station hears of an event (R178, R179). -/
theorem State.raise_heard (s : State) (e : Event) (st : Stn) :
    (s.config.phase ≠ .ready → (s.raise e).stn st = { s.stn st with eventsLost := true })
    ∧ (s.config.phase = .ready → ∀ role, (s.stn st).role = some role →
        (routes s.mode e role = false → (s.raise e).stn st = s.stn st)
        ∧ (routes s.mode e role = true → (s.stn st).events.length < 64 →
            (s.raise e).stn st
              = { s.stn st with events := (s.stn st).events ++ [⟨e, s.time?⟩], attn := true })
        ∧ (routes s.mode e role = true → 64 ≤ (s.stn st).events.length →
            (s.raise e).stn st = { s.stn st with eventsLost := true })) := by
  rw [State.stn_raise]
  refine ⟨fun loading => ?_, fun ready role holds => ?_⟩
  · rw [decide_eq_false loading, StationLink.hear_unready]
  · rw [decide_eq_true ready, StationLink.hear_routed _ _ _ role holds]
    refine ⟨fun deaf => ?_, fun hears room => ?_, fun hears full => ?_⟩
    · rw [deaf, if_neg Bool.false_ne_true]
    · rw [if_pos hears, StationLink.offer_room _ _ room]
    · rw [if_pos hears, StationLink.offer_full _ _ full]

/-- The flag rises below 65,536 free pages that are not reserved (R85). -/
theorem State.watchStore_low (s : State) (few : s.freePages - s.store.reservedPages < 65536)
    (clear : s.store.low = false) :
    s.watchStore = State.raise (s.modStore fun x => { x with low := true })
      (.storeLow (s.freePages - s.store.reservedPages)) :=
  if_pos ⟨few, clear⟩

/-- The flag falls from 131,072 (R85). -/
theorem State.watchStore_ok (s : State) (many : 131072 ≤ s.freePages - s.store.reservedPages)
    (set : s.store.low = true) :
    s.watchStore = State.raise (s.modStore fun x => { x with low := false })
      (.storeOk (s.freePages - s.store.reservedPages)) :=
  (if_neg fun low => absurd low.1 (Nat.not_lt.2 (le_trans (by decide) many))).trans (if_pos ⟨many, set⟩)

/-- Nothing is raised where no bound is passed (R85). -/
theorem State.watchStore_still (s : State)
    (low : s.freePages - s.store.reservedPages < 65536 → s.store.low = true)
    (ok : 131072 ≤ s.freePages - s.store.reservedPages → s.store.low = false) : s.watchStore = s :=
  (if_neg fun few => Bool.false_ne_true (few.2.symm.trans (low few.1))).trans
    (if_neg fun many => Bool.false_ne_true ((ok many.1).symm.trans many.2))

/-- Settles O60: the stations hear by `State.raise_heard`, the routes go by the kinds of events, and the flag
by the lemmas of `State.watchStore`. -/
theorem eventsGoToTheirStations : Obligations.EventsGoToTheirStations := by
  refine ⟨fun s e st => ?_, fun mode role p ch a b c d g => ⟨?_, fun e lead => ?_, fun e all => ?_⟩, fun s => ?_⟩
  · obtain ⟨loading, ready⟩ := s.raise_heard e st
    exact ⟨loading, ready, rfl, rfl, rfl, rfl, rfl, rfl, rfl⟩
  · simp [routes]
  · rcases lead with ⟨y, rfl⟩ | rfl | ⟨y, rfl⟩ | ⟨y, z, rfl⟩ | rfl | rfl | ⟨y, rfl⟩ | ⟨y, rfl⟩ <;>
      exact beq_iff_eq
  · rcases all with ⟨y, z, o, rfl⟩ | ⟨y, rfl⟩ | rfl | ⟨f, n, rfl⟩ <;> rfl
  · refine ⟨s.watchStore_low, s.watchStore_ok, fun above below => ?_, fun few set => ?_, fun many clear => ?_⟩
    · exact s.watchStore_still (fun few => absurd few (Nat.not_lt.2 above))
        fun many => absurd below (Nat.not_lt.2 many)
    · exact s.watchStore_still (fun _ => set) fun many => absurd (lt_of_lt_of_le few (by decide)) (Nat.not_lt.2 many)
    · exact s.watchStore_still (fun few => absurd few (Nat.not_lt.2 (le_trans (by decide) many))) fun _ => clear

end Sys2Proof.Machine
end

section
namespace Sys2Proof.Machine

/-! Fields of a run of bytes (R196). -/

@[simp] theorem length_leBytes (n v : Nat) : (leBytes n v).length = n := by
  induction n generalizing v with
  | zero => rfl
  | succ n ih => simp [leBytes, ih]

/-- A number spelled in `n` bytes is read back modulo the numbers those bytes can spell. -/
theorem leNat_leBytes (n v : Nat) : leNat (leBytes n v) = v % 256 ^ n := by
  induction n generalizing v with
  | zero => simp [leBytes, leNat, Nat.mod_one]
  | succ n ih =>
    have byte : (BitVec.ofNat 8 (v % 256)).toNat = v % 256 := Nat.mod_mod v 256
    rw [leBytes, leNat, ih, byte, Nat.pow_succ', Nat.mod_mul]

/-- Bytes behind a run that is left out. -/
theorem bytesAt_append_right (xs ys : List Byte) (off n : Nat) (behind : xs.length ≤ off) :
    bytesAt (xs ++ ys) off n = bytesAt ys (off - xs.length) n := by
  refine List.map_congr_left fun i _ => ?_
  rw [List.getElem?_append_right (by omega), Nat.sub_add_comm behind]

/-- Bytes of a run with something behind it. -/
theorem bytesAt_append_left (xs ys : List Byte) (off n : Nat) (within : off + n ≤ xs.length) :
    bytesAt (xs ++ ys) off n = bytesAt xs off n := by
  refine List.map_congr_left fun i hi => ?_
  rw [List.getElem?_append_left (by have := List.mem_range.1 hi; omega)]

theorem bytesAt_whole (xs : List Byte) : bytesAt xs 0 xs.length = xs := by
  refine List.ext_getElem (by simp [bytesAt]) fun i h _ => ?_
  have below : i < xs.length := by simpa [bytesAt] using h
  simp [bytesAt, List.getElem?_eq_getElem below]

/-- The field at the front of a run. -/
theorem natAt_field (n v : Nat) (rest : List Byte) : natAt (leBytes n v ++ rest) 0 n = v % 256 ^ n := by
  have field := bytesAt_whole (leBytes n v)
  rw [length_leBytes] at field
  rw [natAt, bytesAt_append_left _ _ _ _ (by simp), field, leNat_leBytes]

/-- A field behind another one. -/
theorem natAt_skip (k v off n : Nat) (rest : List Byte) (behind : k ≤ off) :
    natAt (leBytes k v ++ rest) off n = natAt rest (off - k) n := by
  rw [natAt, bytesAt_append_right _ _ _ _ (by rwa [length_leBytes]), length_leBytes, natAt]

/-! A run followed by its CRC-16 (R196). -/

@[simp] theorem length_crcBytes (bs : List Byte) : (crcBytes bs).length = 2 := length_leBytes 2 _

/-- The manual's nine bytes (R196). -/
theorem crc16_nine : crc16 [0x31, 0x32, 0x33, 0x34, 0x35, 0x36, 0x37, 0x38, 0x39] = 0x29B1 := by decide +kernel

theorem crcGood_withCrc (bs : List Byte) : crcGood (withCrc bs) = true := by
  simp [crcGood, withCrc]

/-! The slots of a page (R65, R197). -/

@[simp] theorem StoredSample.length_bytes (x : StoredSample) : x.bytes.length = 36 := by
  simp [StoredSample.bytes, readingBytes, xyBytes, int16Bytes]

theorem length_flatMap_bytes (samples : List StoredSample) :
    (samples.flatMap StoredSample.bytes).length = 36 * samples.length := by
  induction samples with
  | nil => rfl
  | cons x xs ih =>
    rw [List.flatMap_cons, List.length_append, StoredSample.length_bytes, ih, List.length_cons]
    omega

theorem length_slotBytes (samples : List StoredSample) (fit : samples.length ≤ 56) :
    (slotBytes samples).length = 2016 := by
  simp only [slotBytes, List.length_append, List.length_replicate, length_flatMap_bytes,
    Config.samplesPerPage, Config.sampleBytes]
  omega

/-- A sample stands in its slot. -/
theorem bytesAt_slotBytes (samples : List StoredSample) (i : Nat) (x : StoredSample) (at_i : samples[i]? = some x) :
    bytesAt (slotBytes samples) (36 * i) 36 = x.bytes := by
  obtain ⟨before, after, rfl, rfl⟩ : ∃ before after, samples = before ++ x :: after ∧ before.length = i := by
    obtain ⟨below, rfl⟩ := List.getElem?_eq_some_iff.1 at_i
    exact ⟨samples.take i, samples.drop (i + 1), by simp, by simp; omega⟩
  have whole := bytesAt_whole x.bytes
  rw [StoredSample.length_bytes] at whole
  rw [slotBytes, List.flatMap_append, List.flatMap_cons, List.append_assoc, List.append_assoc,
    bytesAt_append_right _ _ _ _ (by rw [length_flatMap_bytes]), length_flatMap_bytes, Nat.sub_self,
    bytesAt_append_left _ _ _ _ (by simp), whole]

/-- The slots without a sample are zero. -/
theorem natAt_slotBytes_unused (samples : List StoredSample) (off : Nat) (behind : 36 * samples.length ≤ off) :
    natAt (slotBytes samples) off 1 = 0 := by
  rw [slotBytes, natAt, bytesAt_append_right _ _ _ _ (by rwa [length_flatMap_bytes]), length_flatMap_bytes]
  simp only [bytesAt, List.range_one, List.map_cons, List.map_nil, leNat, List.getElem?_replicate]
  split
  · rfl
  · rfl

/-! The page as a whole (R80, R197). -/

@[simp] theorem Target.length_trailer (x : Target) : x.trailer.length = 2 := by
  cases x <;> simp [Target.trailer]

@[simp] theorem length_trailerBytes (t : Traverse) (seq : Nat) (e : LaneEntry) (b : PageBuffer) (time : Nat) :
    (trailerBytes t seq e b time).length = 30 := by
  simp [trailerBytes]

theorem flagBits_three (a b c : Bool) :
    flagBits [a, b, c] = (if a then 1 else 0) + (if b then 2 else 0) + (if c then 4 else 0) := by
  cases a <;> cases b <;> cases c <;> rfl

theorem natAt_skipTrailer (x : Target) (off n : Nat) (rest : List Byte) (behind : 2 ≤ off) :
    natAt (x.trailer ++ rest) off n = natAt rest (off - 2) n := by
  rw [natAt, bytesAt_append_right _ _ _ _ (by rwa [Target.length_trailer]), Target.length_trailer, natAt]

/-- The number at an offset of a page with its trailer. -/
theorem natAt_pageImage (t : Traverse) (seq : Nat) (e : LaneEntry) (b : PageBuffer) (time off n : Nat)
    (fit : b.samples.length ≤ 56) :
    natAt (pageImage t seq e b time) (2016 + off) n
      = natAt (trailerBytes t seq e b time ++ crcBytes (slotBytes b.samples ++ trailerBytes t seq e b time)) off n := by
  rw [pageImage, withCrc, List.append_assoc, natAt,
    bytesAt_append_right _ _ _ _ (by rw [length_slotBytes _ fit]; omega), length_slotBytes _ fit,
    Nat.add_sub_cancel_left, natAt]

section Trailer
variable (t : Traverse) (seq : Nat) (e : LaneEntry) (b : PageBuffer) (time : Nat) (crc : List Byte)

/-- The fields of the trailer before the time (R80, R197). -/
theorem trailerBytes_front :
    let bytes := trailerBytes t seq e b time ++ crc
    natAt bytes 0 4 = t.id % 256 ^ 4 ∧ natAt bytes 4 2 = seq % 256 ^ 2 ∧ natAt bytes 6 1 = e.samples % 256 ^ 1
      ∧ natAt bytes 7 1 = flagBits [e.last, e.aborted, e.lostWithin] % 256 ^ 1
      ∧ natAt bytes 8 2 = b.firstIndex % 256 ^ 2 ∧ natAt bytes 10 2 = 0
      ∧ natAt bytes 12 3 = ((b.samples.head?.map (·.reading.position)).getD 0) % 256 ^ 3
      ∧ natAt bytes 15 1 = t.channel.val % 256 ^ 1 := by
  simp only [trailerBytes, List.append_assoc]
  refine ⟨?_, ?_, ?_, ?_, ?_, ?_, ?_, ?_⟩ <;>
    simp only [natAt_skip, natAt_field, Nat.le_refl, Nat.reduceLeDiff, Nat.reduceSub, Nat.sub_self, Nat.zero_mod]

/-- The fields of the trailer from the time on (R80, R197). -/
theorem trailerBytes_back :
    let bytes := trailerBytes t seq e b time ++ crc
    natAt bytes 16 4 = time % 256 ^ 4 ∧ natAt bytes 20 1 = t.target.kindCode % 256 ^ 1
      ∧ natAt bytes 23 1 = min 255 e.soFar.landmarks % 256 ^ 1 ∧ natAt bytes 24 2 = min 65535 e.soFar.lost % 256 ^ 2
      ∧ natAt bytes 26 1 = min 255 e.soFar.indications % 256 ^ 1 ∧ natAt bytes 27 3 = 0 := by
  simp only [trailerBytes, List.append_assoc]
  refine ⟨?_, ?_, ?_, ?_, ?_, ?_⟩ <;>
    simp only [natAt_skip, natAt_skipTrailer, natAt_field, Nat.le_refl, Nat.reduceLeDiff, Nat.reduceSub,
      Nat.sub_self, Nat.zero_mod]

/-- The kind of the target and the bytes that name it (R80, R200). -/
theorem trailerBytes_tube (p : Pos) (tube : t.target = .tube p) :
    let bytes := trailerBytes t seq e b time ++ crc
    natAt bytes 20 1 = 0 ∧ natAt bytes 21 1 = p.row % 256 ^ 1 ∧ natAt bytes 22 1 = p.col % 256 ^ 1 := by
  simp only [trailerBytes, tube, Target.kindCode, Target.trailer, List.append_assoc]
  refine ⟨?_, ?_, ?_⟩ <;>
    simp only [natAt_skip, natAt_field, Nat.le_refl, Nat.reduceLeDiff, Nat.reduceSub, Nat.sub_self, Nat.zero_mod]

theorem trailerBytes_standard (id : Nat) (standard : t.target = .standard id) :
    let bytes := trailerBytes t seq e b time ++ crc
    natAt bytes 20 1 = 1 ∧ natAt bytes 21 1 = id % 256 ^ 1 ∧ natAt bytes 22 1 = 0 := by
  simp only [trailerBytes, standard, Target.kindCode, Target.trailer, List.append_assoc]
  refine ⟨?_, ?_, ?_⟩ <;>
    simp only [natAt_skip, natAt_field, Nat.le_refl, Nat.reduceLeDiff, Nat.reduceSub, Nat.sub_self, Nat.zero_mod,
      Nat.reducePow, Nat.reduceMod]

end Trailer

/-- A field that its bytes can spell is read back whole. -/
theorem natAt_eq_of_fits {bytes : List Byte} {off n v m : Nat} (read : natAt bytes off n = v % m) (fits : v < m) :
    natAt bytes off n = v := by
  rw [read, Nat.mod_eq_of_lt fits]

/-- Settles O17: each field is read from the trailer by `natAt_pageImage` and the lemmas of `trailerBytes`. -/
theorem pageImageAndCrc : Obligations.PageImageAndCrc := by
  refine ⟨fun t seq e b time fit id seqFits samples first timeFits => ?_, crc16_nine, crcGood_withCrc⟩
  have slots := length_slotBytes b.samples fit
  obtain ⟨hid, hseq, hsamples, hflags, hfirst, hzero, hposition, hchannel⟩ :=
    trailerBytes_front t seq e b time (crcBytes (slotBytes b.samples ++ trailerBytes t seq e b time))
  obtain ⟨htime, hkind, hlandmarks, hlost, hindications, hzeros⟩ :=
    trailerBytes_back t seq e b time (crcBytes (slotBytes b.samples ++ trailerBytes t seq e b time))
  have field (off n : Nat) := natAt_pageImage t seq e b time off n fit
  intro page
  refine ⟨?_, crcGood_withCrc _, fun i x at_i => ?_, fun off behind within => ?_, ?_, ?_, ?_, ?_, ?_, ?_, ?_, ?_, ?_,
    fun x head small => ?_, fun p tube row col => ?_, fun id standard small => ?_, ?_, ?_, ?_⟩
  · simp [page, pageImage, withCrc, slots]
  · have below : i < b.samples.length := (List.getElem?_eq_some_iff.1 at_i).1
    rw [← bytesAt_slotBytes b.samples i x at_i]
    simp only [page, pageImage, withCrc, List.append_assoc]
    exact bytesAt_append_left _ _ _ _ (by omega)
  · rw [← natAt_slotBytes_unused b.samples off behind]
    simp only [page, pageImage, withCrc, List.append_assoc, natAt]
    rw [bytesAt_append_left _ _ _ _ (by omega)]
  · exact natAt_eq_of_fits ((field 0 4).trans hid) id
  · exact natAt_eq_of_fits ((field 4 2).trans hseq) seqFits
  · exact natAt_eq_of_fits ((field 6 1).trans hsamples) samples
  · rw [← flagBits_three]
    refine natAt_eq_of_fits ((field 7 1).trans hflags) ?_
    rw [flagBits_three]
    (repeat' split) <;> decide
  · exact natAt_eq_of_fits ((field 8 2).trans hfirst) first
  · exact natAt_eq_of_fits ((field 15 1).trans hchannel) (lt_trans t.channel.isLt (by decide))
  · exact natAt_eq_of_fits ((field 16 4).trans htime) timeFits
  · exact (field 10 2).trans hzero
  · exact (field 27 3).trans hzeros
  · rw [head] at hposition
    exact natAt_eq_of_fits ((field 12 3).trans hposition) small
  · obtain ⟨kind, hrow, hcol⟩ :=
      trailerBytes_tube t seq e b time (crcBytes (slotBytes b.samples ++ trailerBytes t seq e b time)) p tube
    exact ⟨(field 20 1).trans kind, natAt_eq_of_fits ((field 21 1).trans hrow) row,
      natAt_eq_of_fits ((field 22 1).trans hcol) col⟩
  · obtain ⟨kind, hstd, hnone⟩ :=
      trailerBytes_standard t seq e b time (crcBytes (slotBytes b.samples ++ trailerBytes t seq e b time)) id standard
    exact ⟨(field 20 1).trans kind, natAt_eq_of_fits ((field 21 1).trans hstd) small, (field 22 1).trans hnone⟩
  · exact natAt_eq_of_fits ((field 23 1).trans hlandmarks) (lt_of_le_of_lt (Nat.min_le_left _ _) (by decide))
  · exact natAt_eq_of_fits ((field 24 2).trans hlost) (lt_of_le_of_lt (Nat.min_le_left _ _) (by decide))
  · exact natAt_eq_of_fits ((field 26 1).trans hindications) (lt_of_le_of_lt (Nat.min_le_left _ _) (by decide))

end Sys2Proof.Machine
end

section
namespace Sys2Proof.Machine

/-! MARK_ARCHIVED (R82, R84). -/

/-- R84 leaves a traverse that is not settled. -/
theorem State.testRelease_unsettled (s : State) (id : Nat) (u : Traverse) (live : s.trav? id = some u)
    (open_ : u.settled = false) : s.testRelease id = s := by
  simp [State.testRelease, live, open_]

/-- R84 holds a release back while the traverse is read or written. -/
theorem State.testRelease_waits (s : State) (id : Nat) (u : Traverse) (live : s.trav? id = some u)
    (archived : u.archived = true) (settled : u.settled = true) (busy : u.readers ≠ 0 ∨ u.inWrite ≠ 0) :
    s.testRelease id = s.modTrav id fun t => { t with releasePending := true } := by
  have held : ¬(u.readers = 0 ∧ u.inWrite = 0) := fun ⟨read, write⟩ => busy.elim (· read) (· write)
  simp [State.testRelease, live, archived, settled, held]

theorem State.testRelease_releases (s : State) (id : Nat) (u : Traverse) (live : s.trav? id = some u)
    (archived : u.archived = true) (settled : u.settled = true) (read : u.readers = 0) (written : u.inWrite = 0) :
    s.testRelease id = s.release u := by
  simp [State.testRelease, live, archived, settled, read, written]

/-- A traverse with its archived flag set (R82). -/
def Traverse.archive (t : Traverse) : Traverse := { t with archived := true }

/-- What MARK_ARCHIVED does to a traverse whose pull has ended (R82). -/
def State.archive (s : State) (id : Nat) (tr : Traverse) : State :=
  if tr.archived then s else (s.modTrav id Traverse.archive).testRelease id

section Archive
variable (s : State) (st : Stn) (tag id : Nat)

/-- The two refusals of MARK_ARCHIVED before its traverse is looked at (R82). -/
theorem execMarkArchived_absent (h : s.leadBegins st tag (.markArchived id)) :
    (s.session = none → exec (.markArchived st tag id) s = .next ((s.begun st).answered st tag 16 .noSession .none))
      ∧ (s.session ≠ none → s.trav? id = none →
        exec (.markArchived st tag id) s = .next ((s.begun st).answered st tag 16 .noSuchTraverse .none)) := by
  refine ⟨fun closed => s.leadRequest_answer st tag _ _ _ _ _ h (State.withSession_none _ _ closed), fun opened absent => ?_⟩
  obtain ⟨x, session⟩ := Option.ne_none_iff_exists'.1 opened
  refine s.leadRequest_answer st tag _ _ _ _ _ h (((s.begun st).withSession_some _ x session).trans ?_)
  rw [State.trav_begun, absent]
  rfl

/-- The traverse of a running pull is not archived, and that of an ended one is (R82). -/
theorem execMarkArchived_live (h : s.leadBegins st tag (.markArchived id)) (open_ : s.session ≠ none) (tr : Traverse)
    (live : s.trav? id = some tr) :
    (¬(tr.state = .complete ∨ tr.state = .aborted ∨ tr.state = .invalidated) →
      exec (.markArchived st tag id) s = .next ((s.begun st).answered st tag 16 .traverseBusy .none))
    ∧ ((tr.state = .complete ∨ tr.state = .aborted ∨ tr.state = .invalidated) →
      exec (.markArchived st tag id) s = .next (((s.begun st).archive id tr).answered st tag 16 .ok
        (.archived id (((s.begun st).archive id tr).archiveOutcome id)))) := by
  obtain ⟨x, session⟩ := Option.ne_none_iff_exists'.1 open_
  refine ⟨fun running => ?_, fun ended => ?_⟩ <;>
    refine s.leadRequest_answer st tag _ _ _ _ _ h (((s.begun st).withSession_some _ x session).trans ?_)
  · rw [State.trav_begun, live]
    cases state : tr.state <;> simp_all [Reply.refuse]
  · rw [State.trav_begun, live]
    rcases ended with state | state | state <;> simp only [state] <;> rfl

end Archive

/-! The outcomes (R82, R84, R85). -/

theorem State.archiveOutcome_live (s : State) (id : Nat) (u : Traverse) (live : s.trav? id = some u) :
    s.archiveOutcome id = if u.settled then .pending else .kept := by
  simp [State.archiveOutcome, live]

theorem State.archiveOutcome_gone (s : State) (id : Nat) (gone : s.trav? id = none) :
    s.archiveOutcome id = .released := by
  simp [State.archiveOutcome, gone]

section Archived
variable (s : State) (id : Nat) (tr : Traverse)

theorem State.trav_archived (live : s.trav? id = some tr) :
    (s.modTrav id Traverse.archive).trav? id = some tr.archive :=
  s.trav_modTrav_self id Traverse.archive tr (fun _ => rfl) live

theorem State.archive_again (archived : tr.archived = true) : s.archive id tr = s := if_pos archived

theorem State.archive_keeps (live : s.trav? id = some tr) (fresh : tr.archived = false) (open_ : tr.settled = false) :
    s.archive id tr = s.modTrav id Traverse.archive := by
  have once : s.archive id tr = (s.modTrav id Traverse.archive).testRelease id := by simp [State.archive, fresh]
  rw [once, State.testRelease_unsettled _ id _ (s.trav_archived id tr live) open_]

theorem State.archive_waits (live : s.trav? id = some tr) (fresh : tr.archived = false) (settled : tr.settled = true)
    (busy : tr.readers ≠ 0 ∨ tr.inWrite ≠ 0) :
    s.archive id tr = s.modTrav id fun u => { u with archived := true, releasePending := true } := by
  have once : s.archive id tr = (s.modTrav id Traverse.archive).testRelease id := by simp [State.archive, fresh]
  rw [once, State.testRelease_waits _ id _ (s.trav_archived id tr live) rfl settled busy]
  exact s.modTrav_modTrav id _ _ fun _ => rfl

theorem State.archive_releases (live : s.trav? id = some tr) (fresh : tr.archived = false)
    (settled : tr.settled = true) (read : tr.readers = 0) (written : tr.inWrite = 0) :
    s.archive id tr = (s.modTrav id Traverse.archive).release tr.archive := by
  have once : s.archive id tr = (s.modTrav id Traverse.archive).testRelease id := by simp [State.archive, fresh]
  rw [once, State.testRelease_releases _ id _ (s.trav_archived id tr live) rfl settled read written]

end Archived

/-- The entries that a release leaves are those of other ids (R84). -/
theorem Store.directory_without (x : Store) (id : Nat) (f : Traverse → Traverse) (u : Traverse) (named : u.id = id)
    (same : ∀ v, (f v).id = v.id) :
    ((x.updTrav id f).without u).directory = x.directory.filter fun v => v.id != id := by
  simp only [Store.without, Store.updTrav, List.filter_map, named]
  have kept : (fun v : Traverse => v.id != id) ∘ (fun t => if t.id = id then f t else t) = fun v => v.id != id := by
    funext v
    by_cases h : v.id = id <;> simp [h, same]
  rw [kept]
  refine (List.map_congr_left fun v hv => ?_).trans (List.map_id _)
  have other := (List.mem_filter.1 hv).2
  exact if_neg (by simpa using other)

/-- The store-low flag by its value alone, and by the bound that is passed (R85). -/
theorem low_eq (v : Nat) (low : Bool) :
    (if v < 65536 then true else if 131072 ≤ v then false else low)
      = if low = false ∧ v < 65536 then true else if low = true ∧ 131072 ≤ v then false else low := by
  cases low with
  | false => by_cases few : v < 65536 <;> simp [few]
  | true =>
    by_cases few : v < 65536
    · have many : ¬131072 ≤ v := by omega
      simp [few, many]
    · simp [few]

/-- The store-low flag and its event after a release, as the bounds are passed (R85). -/
theorem State.release_does (s : State) (u : Traverse) :
    let t := s.release u
    let v := (poolPages t.store.pool).length - t.store.reservedPages
    let low := s.store.low = false ∧ v < 65536
    let high := s.store.low = true ∧ 131072 ≤ v
    t.store = s.store.without u
      ∧ t.store.low = (if low then true else if high then false else s.store.low)
      ∧ s.raised t (.traverseReleased u.id u.target.kind u.pages.length ::
          (if low then [.storeLow v] else if high then [.storeOk v] else [])) := by
  have store : (s.release u).store = s.store.without u := by rw [State.release_eq, State.store_raiseAll]
  have value : (poolPages (s.release u).store.pool).length - (s.release u).store.reservedPages
      = poolCount (s.store.without u).pool - (s.store.without u).reservedPages := by
    rw [store, poolCount_eq]
  dsimp only
  rw [value, store]
  refine ⟨rfl, ?_, ?_⟩
  · exact low_eq _ _
  · rw [State.release_eq]
    refine State.raised_after _ { s with store := s.store.without u } _ _ (s.raised_of_eq _ rfl rfl rfl) ?_
    simp only [State.releaseNews, if_true, State.freePages, and_comm (a := s.store.low = _)]
    exact State.raised_raiseAll _ _

/-- MARK_ARCHIVED of a settled traverse that nothing reads or writes releases it (R82, R84, R85). -/
theorem execMarkArchived_releases (s : State) (st : Stn) (tag id : Nat) (h : s.leadBegins st tag (.markArchived id))
    (opened : s.session ≠ none) (tr : Traverse) (live : s.trav? id = some tr)
    (ended : tr.state = .complete ∨ tr.state = .aborted ∨ tr.state = .invalidated) (fresh : tr.archived = false)
    (settled : tr.settled = true) (read : tr.readers = 0) (written : tr.inWrite = 0) :
    let u := ((s.begun st).modTrav id Traverse.archive).release tr.archive
    exec (.markArchived st tag id) s = .next (u.answered st tag 16 .ok (.archived id .released))
      ∧ u.trav? id = none ∧ u.store.directory = s.store.directory.filter (fun u => u.id != id) := by
  intro u
  have named : tr.archive.id = id := s.trav_id id tr live
  have store : u.store = (s.store.updTrav id Traverse.archive).without tr.archive := (State.release_does _ _).1
  have directory : u.store.directory = s.store.directory.filter (fun u => u.id != id) := by
    rw [store]
    exact s.store.directory_without id _ _ named fun _ => rfl
  have gone : u.trav? id = none := by
    rw [State.trav?, directory, List.find?_filter, List.find?_eq_none]
    simp
  refine ⟨?_, gone, directory⟩
  rw [(execMarkArchived_live s st tag id h opened tr live).2 ended,
    (s.begun st).archive_releases id tr live fresh settled read written, State.archiveOutcome_gone _ _ gone]

end Sys2Proof.Machine
end

section
namespace Sys2Proof.Machine

/-! Calls (R146 to R152). -/

theorem goodEntry_iff (e : CallEntry) :
    goodEntry e = true ↔ 1 ≤ e.classCode ∧ e.classCode ≤ 15 ∧ e.depth ≤ 100 ∧ e.offset ≤ 30000
      ∧ ∀ l, e.landmark = some l → 1 ≤ l ∧ l ≤ 48 := by
  unfold goodEntry
  rw [Bool.and_eq_true, decide_eq_true_eq, and_assoc, and_assoc, and_assoc]
  cases e.landmark with
  | none => simp [Config.maxOffset]
  | some l =>
    dsimp only
    rw [decide_eq_true_eq]
    simp [Config.maxOffset, Config.maxLandmarks]

theorem goodCall_iff (call : SubmittedCall) :
    goodCall call = true ↔
      call.kind ≠ .notUsable
      ∧ (call.kind ≠ .indications → call.entries = [])
      ∧ (call.kind = .indications → 1 ≤ call.entries.length ∧ call.entries.length ≤ 8
          ∧ ∀ e ∈ call.entries, 1 ≤ e.classCode ∧ e.classCode ≤ 15 ∧ e.depth ≤ 100
            ∧ e.offset ≤ 30000 ∧ ∀ l, e.landmark = some l → 1 ≤ l ∧ l ≤ 48) := by
  cases kind : call.kind with
  | indications =>
    simp only [goodCall, kind, Bool.and_eq_true, decide_eq_true_eq, List.all_eq_true, goodEntry_iff, and_assoc]
    simp [Config.maxCallEntries]
  | ndd | retestRequired | notUsable => simp [goodCall, kind]

/-- The second call of a tube, by the mode of the plan (R146). -/
theorem State.secondCall_iff (s : State) (u : TubeEntry) (id : Nat) (q : Call) (on : u.traverse = some id) :
    s.secondCall u = some q ↔
      match s.mode with
      | .analyst => u.secondary = some q
      | .automatic => ∃ tr, s.trav? id = some tr ∧ tr.autoCall = some q := by
  unfold State.secondCall
  cases s.mode with
  | analyst => exact Iff.rfl
  | automatic =>
    rw [on, Option.bind_some]
    exact Option.bind_eq_some_iff

theorem State.bracketState?_iff (s : State) (u : TubeEntry) (x : BracketState) :
    s.bracketState? u = some x ↔ ∃ n b, u.bracket = some n ∧ s.bracket? n = some b ∧ b.state = x := by
  simp only [State.bracketState?, Option.map_eq_some_iff, Option.bind_eq_some_iff]
  constructor
  · rintro ⟨b, ⟨n, hn, hb⟩, state⟩
    exact ⟨n, b, hn, hb, state⟩
  · rintro ⟨n, b, hn, hb, state⟩
    exact ⟨b, ⟨n, hn, hb⟩, state⟩

/-- When a comparison may start (R151). -/
theorem State.comparable_iff (s : State) (u : TubeEntry) (d : Comparison) :
    s.comparable u = some d ↔
      u.state = .acquired ∧ d.pos = u.pos ∧ u.traverse = some d.traverse ∧ d.limits = s.limits
      ∧ u.primary = some d.primary ∧ d.primary.traverse = d.traverse
      ∧ s.secondCall u = some d.second ∧ d.second.traverse = d.traverse
      ∧ s.bracketState? u = some .closedGood := by
  unfold State.comparable
  split
  · next id p q on primary second =>
    rw [Option.ite_none_right_eq_some, on, primary, second]
    constructor
    · rintro ⟨⟨state, hp, hq, closed⟩, same⟩
      cases same
      exact ⟨state, rfl, rfl, rfl, rfl, hp, rfl, hq, closed⟩
    · rintro ⟨state, pos, trav, limits, prim, hp, sec, hq, closed⟩
      cases trav
      cases prim
      cases sec
      refine ⟨⟨state, hp, hq, closed⟩, ?_⟩
      rw [← pos, ← limits]
  · next lacks =>
    constructor
    · exact fun h => nomatch h
    · rintro ⟨_, _, on, _, primary, _, second, _, _⟩
      exact absurd second (lacks _ _ _ on primary)

/-! SUBMIT_CALL (R147 to R149). -/

/-- The tube of a position after a change that leaves positions. -/
theorem State.tube?_modTube (s : State) (p : Pos) (f : TubeEntry → TubeEntry) (e : TubeEntry)
    (live : s.tube? p = some e) (same : ∀ u, (f u).pos = u.pos) : (s.modTube p f).tube? p = some (f e) := by
  obtain ⟨x, session⟩ := s.session_of_tube p e live
  have found : x.tubes.find? (fun u => u.pos == p) = some e := by
    simpa [State.tube?, State.tubes, session] using live
  have kept : (fun u : TubeEntry => u.pos == p) ∘ (fun u => if u.pos = p then f u else u)
      = fun u : TubeEntry => u.pos == p := by
    funext u
    by_cases h : u.pos = p <;> simp [h, same]
  simp only [State.tube?, State.tubes, State.modTube, State.modSession, session, Option.map_some,
    List.find?_map, kept, found]
  exact congrArg some (if_pos (s.tube_pos p e live))

section Submit
variable (s : State) (p : Pos) (f : TubeEntry → TubeEntry)

/-- A change of a tube's entry leaves the plan, so what may be compared is what could be before. -/
theorem State.comparable_modTube (u : TubeEntry) :
    (s.modTube p f).comparable u = s.comparable u ∧ (s.modTube p f).waitStatus u = s.waitStatus u := by
  have mode : (s.modTube p f).mode = s.mode := by
    cases h : s.session <;> simp [State.mode, State.modTube, State.modSession, h]
  have limits : (s.modTube p f).limits = s.limits := by
    cases h : s.session <;> simp [State.limits, State.modTube, State.modSession, h]
  have second : (s.modTube p f).secondCall u = s.secondCall u := by
    unfold State.secondCall
    rw [mode]
    rfl
  refine ⟨?_, ?_⟩
  · unfold State.comparable
    rw [second, limits]
    rfl
  · unfold State.waitStatus
    rw [second]
    rfl

/-- The comparison side of a call that has been put in place (R149, R151, R152). -/
theorem State.startComparison_modTube (e : TubeEntry) (live : s.tube? p = some e) (same : ∀ u, (f u).pos = u.pos) :
    (s.modTube p f).startComparison p =
      match s.comparable (f e) with
      | some d => (((s.modTube p f).dropComparison p).beginComparison d, .started)
      | none => (s.modTube p f, s.waitStatus (f e)) := by
  obtain ⟨comparable, wait⟩ := s.comparable_modTube p f (f e)
  unfold State.startComparison
  rw [s.tube?_modTube p f e live same]
  dsimp only
  rw [comparable, wait] <;> rfl

end Submit

/-- The entry of a tube with the call of a station that is not the lead (R149). -/
theorem TubeEntry.withCall_eq (role : Role) (other : role ≠ .lead) (c : Call) :
    (fun u : TubeEntry => u.withCall role c)
      = fun u => if role = .primary then { u with primary := some c } else { u with secondary := some c } := by
  funext u
  cases role with
  | lead => exact absurd rfl other
  | primary => rfl
  | secondary => rfl

/-- An accepted SUBMIT_CALL (R149, R151, R152). -/
theorem State.acceptSubmit_does (s : State) (role : Role) (other : role ≠ .lead) (p : Pos) (x : Session)
    (session : s.session = some x) (e : TubeEntry) (live : s.tube? p = some e) (c : Call) :
    let put := fun u : TubeEntry =>
      if role = .primary then { u with primary := some c } else { u with secondary := some c }
    let t := (s.acceptSubmit role e c).1
    t.session = some (x.updTube p put x.counts)
      ∧ (s.comparable (put e) = none → t.comparisons = s.comparisons)
      ∧ (∀ d, s.comparable (put e) = some d →
          t.comparisons = s.comparisons.filter (fun d => d.pos != p) ++ [d])
      ∧ t.stations = s.stations ∧ t.channels = s.channels ∧ t.store = s.store ∧ t.cal = s.cal
      ∧ t.config = s.config
      ∧ (s.acceptSubmit role e c).2 = .ok (.callAccepted p c.traverse
          (if role = .primary then e.primary else e.secondary).isSome
          (if (s.comparable (put e)).isSome then .started
            else if s.bracketState? e = some .closedFail then .bracketFailed
            else if (put e).primary = none ∨ s.secondCall (put e) = none then .waitingCall
            else .waitingBracket)) := by
  intro put
  have named := s.tube_pos p e live
  have place : (fun u : TubeEntry => u.withCall role c) = put := TubeEntry.withCall_eq role other c
  have same : ∀ u, (put u).pos = u.pos := by
    intro u
    simp only [put]
    split <;> rfl
  have bracket : s.bracketState? (put e) = s.bracketState? e := by
    simp only [put]
    split <;> rfl
  have called : e.callOf role = if role = .primary then e.primary else e.secondary := by
    cases role with
    | lead => exact absurd rfl other
    | primary => rfl
    | secondary => rfl
  have put_session : (s.modTube p put).session = some (x.updTube p put x.counts) := by
    rw [State.modTube, State.modSession, session]
    rfl
  have accept : s.acceptSubmit role e c = (((s.modTube p put).startComparison p).1,
      .ok (.callAccepted p c.traverse (if role = .primary then e.primary else e.secondary).isSome
        ((s.modTube p put).startComparison p).2)) := by
    unfold State.acceptSubmit
    rw [named, place, called]
  rw [accept, s.startComparison_modTube p put e live same]
  dsimp only
  cases begins : s.comparable (put e) with
  | none =>
    refine ⟨put_session, fun _ => rfl, fun d h => (nomatch h), rfl, rfl, rfl, rfl, rfl, ?_⟩
    simp [State.waitStatus, bracket]
  | some d =>
    refine ⟨put_session, fun h => (nomatch h), fun d' h => ?_, rfl, rfl, rfl, rfl, rfl, rfl⟩
    cases h
    rfl

/-- The checks of SUBMIT_CALL after the role check, in order (R147). -/
theorem State.submitCall_eq (s : State) (role : Role) (p : Pos) (traverse : Nat) (call : SubmittedCall) (x : Session)
    (session : s.session = some x) :
    s.submitCall role p traverse call =
      if role = .secondary ∧ x.plan.mode = .automatic then (s, .refuse .roleDisabled)
      else if goodCall call = false then (s, .refuse .badArgument)
      else
        match s.tube? p with
        | none => (s, .refuse .noSuchTube)
        | some e =>
          if e.state ≠ .acquired then (s, .refuse .wrongState)
          else if e.traverse ≠ some traverse then (s, .refuse .staleTraverse)
          else s.acceptSubmit role e (acceptCall call (sourceOf role) x.seconds traverse) :=
  s.withSession_some _ x session

/-- SUBMIT_CALL from a primary or secondary station (R147). -/
theorem execSubmitCall_begun (st : Stn) (tag : Nat) (p : Pos) (traverse : Nat) (call : SubmittedCall) (role : Role)
    (s : State) (holds : (s.stn st).role = some role) (other : role ≠ .lead)
    (h : s.mayBegin st tag (.submitCall p.row p.col traverse call)) (t : State) (r : Status) (c : Content)
    (body : (s.begun st).submitCall role p traverse call = (t, ⟨r, c⟩)) :
    exec (.submitCall st tag p.row p.col traverse call) s = .next (t.answered st tag 18 r c) := by
  change execSubmitCall st tag p.row p.col traverse call s = _
  unfold execSubmitCall
  refine s.request_answer st tag _ _ t r c h ?_
  simp only [State.role_begun, holds]
  cases role with
  | lead => exact absurd rfl other
  | primary => exact body
  | secondary => exact body

/-- SUBMIT_CALL, its refusals and its acceptance (R147, R149). -/
theorem execSubmitCall_spec (st : Stn) (tag : Nat) (p : Pos) (traverse : Nat) (call : SubmittedCall) (role : Role)
    (s : State) (holds : (s.stn st).role = some role) (other : role ≠ .lead)
    (h : s.mayBegin st tag (.submitCall p.row p.col traverse call)) (x : Session) (session : s.session = some x) :
    let c : Instr := .submitCall st tag p.row p.col traverse call
    let no := fun r : Status => Host.Outcome.next ((s.begun st).answered st tag 18 r .none)
    (role = .secondary → x.plan.mode = .automatic → exec c s = no .roleDisabled)
    ∧ (¬(role = .secondary ∧ x.plan.mode = .automatic) →
        (goodCall call = false → exec c s = no .badArgument)
        ∧ (goodCall call = true →
            (s.tube? p = none → exec c s = no .noSuchTube)
            ∧ ∀ e, s.tube? p = some e →
              (e.state ≠ .acquired → exec c s = no .wrongState)
              ∧ (e.state = .acquired → e.traverse ≠ some traverse → exec c s = no .staleTraverse)
              ∧ (e.state = .acquired → e.traverse = some traverse →
                  let r := (s.begun st).acceptSubmit role e (acceptCall call (sourceOf role) x.seconds traverse)
                  exec c s = .next (r.1.answered st tag 18 r.2.status r.2.content)))) := by
  intro c no
  have answers := execSubmitCall_begun st tag p traverse call role s holds other h
  have checks := (s.begun st).submitCall_eq role p traverse call x session
  refine ⟨fun second automatic => answers _ _ _ (checks.trans (if_pos ⟨second, automatic⟩)), fun enabled => ?_⟩
  rw [if_neg enabled] at checks
  refine ⟨fun bad => answers _ _ _ (checks.trans (if_pos bad)), fun good => ?_⟩
  rw [if_neg (by simp [good]), State.tube_begun] at checks
  refine ⟨fun absent => answers _ _ _ ?_, fun e live => ?_⟩
  · rw [absent] at checks
    exact checks
  rw [live] at checks
  refine ⟨fun wrong => answers _ _ _ (checks.trans (if_pos wrong)), fun acquired stale => ?_,
    fun acquired current => ?_⟩
  · exact answers _ _ _ (checks.trans ((if_neg (not_not.2 acquired)).trans (if_pos stale)))
  · refine answers _ _ _ (checks.trans ((if_neg (not_not.2 acquired)).trans ((if_neg (not_not.2 current)).trans rfl)))

/-- The first part of O58: SUBMIT_CALL from a primary or secondary station. -/
theorem submitCall_settles (st : Stn) (tag : Nat) (p : Pos) (traverse : Nat) (call : SubmittedCall) (role : Role)
    (s : State) (holds : (s.stn st).role = some role) (other : role ≠ .lead)
    (h : s.mayBegin st tag (.submitCall p.row p.col traverse call)) (x : Session) (session : s.session = some x)
    (enabled : ¬(role = .secondary ∧ x.plan.mode = .automatic)) (good : goodCall call = true) (e : TubeEntry)
    (live : s.tube? p = some e) (acquired : e.state = .acquired) (current : e.traverse = some traverse) :
    let mine : Call := ⟨call.kind, call.entries,
      if role = .primary then .primary else .secondary, x.seconds, traverse⟩
    let put := fun u : TubeEntry =>
      if role = .primary then { u with primary := some mine } else { u with secondary := some mine }
    let begins := s.comparable (put e)
    let drop := s.comparisons.filter fun d => d.pos != p
    ∃ t, exec (.submitCall st tag p.row p.col traverse call) s = .next t
      ∧ t.session = some (x.updTube p put x.counts)
      ∧ (begins = none → t.comparisons = s.comparisons)
      ∧ (∀ d, begins = some d → t.comparisons = drop ++ [d])
      ∧ (let replaced := (if role = .primary then e.primary else e.secondary).isSome
         let status : CompareStatus :=
           if begins.isSome then .started
           else if s.bracketState? e = some .closedFail then .bracketFailed
           else if (put e).primary = none ∨ s.secondCall (put e) = none then .waitingCall
           else .waitingBracket
         t.stations = ((s.begun st).answered st tag 18 .ok (.callAccepted p traverse replaced status)).stations)
      ∧ t.channels = s.channels ∧ t.store = s.store ∧ t.cal = s.cal ∧ t.config = s.config := by
  intro mine put begins drop
  obtain ⟨_, checked⟩ := execSubmitCall_spec st tag p traverse call role s holds other h x session
  obtain ⟨_, accepts⟩ := ((checked enabled).2 good).2 e live |>.2
  have source : mine = acceptCall call (sourceOf role) x.seconds traverse := by
    cases role with
    | lead => exact absurd rfl other
    | primary => rfl
    | secondary => rfl
  obtain ⟨sess, still, new, stations, channels, store, cal, config, reply⟩ :=
    (s.begun st).acceptSubmit_does role other p x session e live mine
  rw [← source] at accepts
  have next := accepts acquired current
  dsimp only at next
  rw [reply] at next
  refine ⟨_, next, sess, still, new, ?_, channels, store, cal, config⟩
  exact State.stations_answered_congr _ _ st tag 18 .ok _ stations

/-- The last part of O58: what the release by MARK_ARCHIVED leaves and raises. -/
theorem execMarkArchived_released (s : State) (st : Stn) (tag id : Nat) (h : s.leadBegins st tag (.markArchived id))
    (opened : s.session ≠ none) (tr : Traverse) (live : s.trav? id = some tr)
    (ended : tr.state = .complete ∨ tr.state = .aborted ∨ tr.state = .invalidated) (fresh : tr.archived = false)
    (settled : tr.settled = true) (read : tr.readers = 0) (written : tr.inWrite = 0) :
    ∃ t, exec (.markArchived st tag id) s = .next t ∧ t.trav? id = none
      ∧ poolPages t.store.pool = poolPages s.store.pool ++ tr.pages
      ∧ t.store.directory = s.store.directory.filter (fun u => u.id != id)
      ∧ t.store.reservedPages = s.store.reservedPages
      ∧ (let v := (poolPages t.store.pool).length - t.store.reservedPages
         let low := s.store.low = false ∧ v < 65536
         let high := s.store.low = true ∧ 131072 ≤ v
         t.store.low = (if low then true else if high then false else s.store.low)
         ∧ t.stations = (((s.begun st).raiseAll
             (.traverseReleased id tr.target.kind tr.pages.length ::
               (if low then [.storeLow v] else if high then [.storeOk v] else []))).answered
             st tag 16 .ok (.archived id .released)).stations)
      ∧ t.session = s.session ∧ t.channels = s.channels ∧ t.cal = s.cal
      ∧ t.comparisons = s.comparisons ∧ t.config = s.config := by
  obtain ⟨next, gone, directory⟩ :=
    execMarkArchived_releases s st tag id h opened tr live ended fresh settled read written
  obtain ⟨store, low, told⟩ := ((s.begun st).modTrav id Traverse.archive).release_does tr.archive
  have named : tr.archive.id = id := s.trav_id id tr live
  rw [named] at told
  refine ⟨_, next, gone, ?_, directory, ?_, ⟨low, ?_⟩, ?_, ?_, ?_, ?_, ?_⟩
  · rw [State.store_answered, store]
    exact poolPages_append _ _
  · rw [State.store_answered, store]
    rfl
  · refine State.stations_answered_congr _ _ st tag 16 .ok _ (told.1.trans ?_)
    exact State.raised_congr _ _ _ ((s.begun st).raised_of_eq _ rfl rfl rfl)
  · rw [State.session_answered, State.session_release]
    rfl
  · rw [State.channels_answered, State.channels_release]
    rfl
  · rw [State.cal_answered, State.cal_release]
    rfl
  · rw [State.comparisons_answered, State.comparisons_release]
    rfl
  · rw [State.config_answered, State.config_release]
    rfl

/-- Settles O58: SUBMIT_CALL by its checks and its acceptance, the calls and comparisons by their tests, and
MARK_ARCHIVED by the outcomes of `State.archive`. -/
theorem callsAndArchiving : Obligations.CallsAndArchiving := by
  refine ⟨fun st tag p traverse call role s holds other h => ⟨fun closed => ?_, fun x session => ?_⟩, goodCall_iff,
    fun s u d => ?_, fun st tag id s h => ?_⟩
  · refine execSubmitCall_begun st tag p traverse call role s holds other h _ _ _ ?_
    exact State.withSession_none _ _ closed
  · obtain ⟨disabled, checked⟩ := execSubmitCall_spec st tag p traverse call role s holds other h x session
    refine ⟨disabled, fun enabled => ⟨(checked enabled).1, fun good => ?_⟩⟩
    obtain ⟨absent, present⟩ := (checked enabled).2 good
    refine ⟨absent, fun e live => ?_⟩
    obtain ⟨wrong, stale, _⟩ := present e live
    exact ⟨wrong, stale, submitCall_settles st tag p traverse call role s holds other h x session enabled good e live⟩
  · rw [s.comparable_iff, s.bracketState?_iff]
    exact and_congr_right fun _ => and_congr_right fun _ => and_congr_right fun on => and_congr_right fun _ =>
      and_congr_right fun _ => and_congr_right fun _ => and_congr_left fun _ => s.secondCall_iff u _ _ on
  · obtain ⟨closed, absent⟩ := execMarkArchived_absent s st tag id h
    refine ⟨closed, absent, fun opened tr live => ?_⟩
    obtain ⟨running, archives⟩ := execMarkArchived_live s st tag id h opened tr live
    refine ⟨running, fun ended again => ?_, fun ended fresh open_ => ?_, fun ended fresh settled busy => ?_,
      fun ended fresh settled read written => ?_⟩
    · rw [archives ended, State.archive_again _ id tr again, (s.begun st).archiveOutcome_live id tr live]
    · rw [archives ended, (s.begun st).archive_keeps id tr live fresh open_,
        State.archiveOutcome_live _ id tr.archive ((s.begun st).trav_archived id tr live)]
      rw [show tr.archive.settled = false from open_]
      rfl
    · have waits := (s.begun st).archive_waits id tr live fresh settled busy
      have flagged : ((s.begun st).modTrav id fun u => { u with archived := true, releasePending := true }).trav? id
          = some { tr with archived := true, releasePending := true } :=
        (s.begun st).trav_modTrav_self id _ tr (fun _ => rfl) live
      rw [archives ended, waits, State.archiveOutcome_live _ id _ flagged, if_pos settled]
      rfl
    · exact execMarkArchived_released s st tag id h opened tr live ended fresh settled read written

end Sys2Proof.Machine
end

section
namespace Sys2Proof.Machine

/-! The end of a reader (R84, R86). -/

@[simp] theorem State.port_release (s : State) (t : Traverse) : (s.release t).store.port = s.store.port := by
  rw [(s.release_does t).1]
  rfl

@[simp] theorem State.port_testRelease (s : State) (id : Nat) :
    (s.testRelease id).store.port = s.store.port := by
  unfold State.testRelease
  (repeat' split)
  · rfl
  · exact s.port_release _
  · rfl
  · rfl

@[simp] theorem State.port_deregister (s : State) (id : Nat) : (s.deregister id).store.port = s.store.port :=
  State.port_testRelease _ id

/-- R84 leaves a traverse that is not archived. -/
theorem State.testRelease_unarchived (s : State) (id : Nat) (u : Traverse) (live : s.trav? id = some u)
    (kept : u.archived = false) : s.testRelease id = s := by
  simp [State.testRelease, live, kept]

/-- One reader less. -/
def Traverse.unread (t : Traverse) : Traverse := { t with readers := t.readers - 1 }

theorem State.deregister_unarchived (s : State) (id : Nat) (u : Traverse) (live : s.trav? id = some u)
    (kept : u.archived = false) : s.deregister id = s.modTrav id Traverse.unread :=
  (s.modTrav id Traverse.unread).testRelease_unarchived id u.unread
    (s.trav_modTrav_self id _ u (fun _ => rfl) live) kept

/-- A station hears the same events alike from states that agree on its link, the mode and the time. -/
theorem State.stn_raiseAll_congr (s t : State) (es : List Event) (k : Stn) (link : t.stn k = s.stn k)
    (phase : t.config.phase = s.config.phase) (mode : t.mode = s.mode) (time : t.time? = s.time?) :
    (t.raiseAll es).stn k = (s.raiseAll es).stn k := by
  unfold State.raiseAll
  induction es generalizing s t with
  | nil => exact link
  | cons e es ih =>
    obtain ⟨_, _, mode_s, time_s⟩ := s.raised_raise e
    obtain ⟨_, _, mode_t, time_t⟩ := t.raised_raise e
    refine ih (s.raise e) (t.raise e) ?_ phase (by rw [mode_t, mode_s, mode]) (by rw [time_t, time_s, time])
    rw [State.stn_raise, State.stn_raise, link, phase, mode, time]

theorem State.modStn_modStn (s : State) (st : Stn) (f g : StationLink → StationLink) :
    (s.modStn st f).modStn st g = s.modStn st fun x => g (f x) := by
  match st with
  | 0 => rfl
  | 1 => rfl
  | 2 => rfl

/-- A station link that has taken a frame and whose stream has ended. -/
def StationLink.streamless (x : StationLink) : StationLink := { x with link := .up, silenceMs := 0, stream := none }

/-- The store port with nothing to deliver to the read port of a station (R176). -/
def State.undelivered (s : State) (st : Stn) : State :=
  s.modStore fun x => { x with port := x.port.undeliver st }

theorem State.modStn_undelivered (s : State) (st k : Stn) (f : StationLink → StationLink) :
    (s.modStn st f).undelivered k = (s.undelivered k).modStn st f := rfl

/-! A stream that is aborted (R176). -/

theorem Stream.abort_stays (r : Stream) (t : Option Traverse) : r.abort.moveOut.ask t = r.abort := by
  simp [Stream.abort, Stream.moveOut, Stream.ask]

section Abort
variable (s : State) (st : Stn) (r : Stream) (running : (s.stn st).stream = some r)
include running

/-- An abort with the output buffer empty ends the stream at once (R174, R176). -/
theorem State.abortStream_ends (registered : r.registered = true) (empty : r.output = none) :
    (s.stationFrame st).abortStream st =
      ((s.undelivered st).modStn st fun x =>
        x.streamless.withReply (.streamEnd r.tag .aborted r.sent (r.first + r.sent))).deregister r.traverse := by
  have heard : ((s.stationFrame st).stn st).stream = some r := by
    simpa [State.stationFrame, StationLink.heard] using running
  have aborted : ((((s.stationFrame st).modStream st Stream.abort).undelivered st).stn st).stream = some r.abort := by
    simp [State.undelivered, State.modStream, heard]
  have finished : r.abort.over = true := by simp [Stream.over, Stream.abort, empty]
  have whole : r.abort.registered = true := registered
  unfold State.abortStream
  rw [heard]
  dsimp only
  change (((s.stationFrame st).modStream st Stream.abort).undelivered st).pump st = _
  unfold State.pump
  rw [aborted]
  dsimp only
  rw [r.abort_stays, if_pos finished, if_pos whole]
  refine congrArg (State.deregister · r.traverse) ?_
  rw [State.stationFrame, State.modStream, State.modStn_undelivered, State.modStn_undelivered, State.modStn_modStn,
    State.modStn_modStn]
  refine congrArg ((s.undelivered st).modStn st) (funext fun x => ?_)
  exact StationLink.schedule_reply x.streamless _

/-- With a page being sent the stream stays until its end, and the arbiter goes on (R176). -/
theorem State.abortStream_waits (full : r.output ≠ none) :
    (s.stationFrame st).abortStream st =
      ((s.undelivered st).modStn st fun x =>
        { x.heard with stream := some r.abort }.schedule).arbitrate := by
  have heard : ((s.stationFrame st).stn st).stream = some r := by
    simpa [State.stationFrame, StationLink.heard] using running
  have aborted : ((((s.stationFrame st).modStream st Stream.abort).undelivered st).stn st).stream = some r.abort := by
    simp [State.undelivered, State.modStream, heard]
  have sending : ¬r.abort.over = true := by simp [Stream.over, Stream.abort, full]
  unfold State.abortStream
  rw [heard]
  dsimp only
  change (((s.stationFrame st).modStream st Stream.abort).undelivered st).pump st = _
  unfold State.pump
  rw [aborted]
  dsimp only
  rw [r.abort_stays, if_neg sending, State.stationFrame, State.modStream, State.modStn_undelivered,
    State.modStn_undelivered, State.modStn_modStn, State.modStn_modStn]

/-- The loss of a link ends its stream with no frame (R167). -/
theorem State.loseStation_ends (registered : r.registered = true) :
    s.loseStation st =
      (((s.undelivered st).modStn st fun x => { x with stream := none }).deregister r.traverse).modStn st
        StationLink.lost := by
  unfold State.loseStation
  rw [running]
  dsimp only
  rw [if_pos registered]
  rfl

end Abort

/-! What the arbiter leaves. -/

/-- A read port whose fetch does not wait is not granted one (R78). -/
theorem State.stn_arbitrate_of_idle (s : State) (k : Stn) (idle : (s.stn k).fetchWaiting = false) :
    s.arbitrate.stn k = s.stn k := by
  by_cases free : s.store.port = .free
  · rcases s.arbitrate_cases free with ⟨ch, _, _, _, granted⟩ | ⟨_, ⟨st, waits, _, granted⟩ | ⟨_, still⟩⟩
    · rw [granted, State.stn, State.stations_grantWrite, State.stn]
    · have other : k ≠ st := fun same => by simp [same, waits] at idle
      rw [granted]
      unfold State.grantFetch
      split
      · rfl
      · exact (State.stn_modStore _ _ _).trans (s.stn_modStn_other st k _ other)
    · rw [still]
  · rw [s.arbitrate_busy free]

/-- The arbiter leaves the readers of every traverse. -/
theorem State.readers_arbitrate (s : State) (n : Nat) :
    (s.arbitrate.trav? n).map (·.readers) = (s.trav? n).map (·.readers) := by
  have write (ch : Chan) : ((s.grantWrite ch).trav? n).map (·.readers) = (s.trav? n).map (·.readers) := by
    have same := congrArg (Option.map (·.readers)) (s.unpaged_grantWrite ch n)
    rw [Option.map_map, Option.map_map] at same
    exact same
  have fetch (st : Stn) : (s.grantFetch st).trav? n = s.trav? n := by
    unfold State.grantFetch
    split
    · rfl
    · rfl
  by_cases free : s.store.port = .free
  · rcases s.arbitrate_cases free with ⟨ch, _, _, _, granted⟩ | ⟨_, ⟨st, _, _, granted⟩ | ⟨_, still⟩⟩
    · rw [granted, write]
    · rw [granted, fetch]
    · rw [still]
  · rw [s.arbitrate_busy free]

/-! ABORT_STREAM and the loss of a link (R167, R176). -/

/-- What either command leaves of the traverse of a stream that it ends (R84, R86). -/
theorem State.deregister_leaves (s : State) (st : Stn) (r : Stream) (tr : Traverse)
    (live : s.trav? r.traverse = some tr) (f : StationLink → StationLink) :
    let t := ((s.undelivered st).modStn st f).deregister r.traverse
    s.goesOrStays t r.traverse tr tr.freedByReader (fun u =>
        u.readers = tr.readers - 1 ∧ u.state = tr.state ∧ u.settled = tr.settled
          ∧ (tr.archived = true → tr.settled = true → u.releasePending = true))
      ∧ t.store.port = s.store.port.undeliver st
      ∧ t.stations = (State.raiseAll ((s.undelivered st).modStn st f)
          (s.releaseNews t r.traverse tr tr.freedByReader)).stations := by
  intro t
  obtain ⟨goes, told⟩ := ((s.undelivered st).modStn st f).deregister_goesOrStays r.traverse tr live
  refine ⟨State.goesOrStays_imp s t r.traverse tr _ _ _ ?_ goes, State.port_deregister _ _, told⟩
  rintro u ⟨p, rfl, pending⟩
  exact ⟨rfl, rfl, rfl, pending⟩

section Commands
variable (s : State) (st : Stn) (r : Stream) (awake : s.awake) (running : (s.stn st).stream = some r)

include awake

theorem execAbortStream_awake : exec (.abortStream st) s = .next ((s.stationFrame st).abortStream st) := by
  rw [exec, execAbortStream]
  exact s.act_awake _ awake

theorem execStationLinkLoss_up (up : (s.stn st).link = .up) :
    exec (.stationLinkLoss st) s = .next (s.loseStation st) :=
  (s.act_awake _ awake).trans (congrArg Host.Outcome.next (if_pos up))

include running

/-- The abort of a stream with a page being sent (R176). -/
theorem execAbortStream_waits (full : r.output ≠ none) :
    ∃ t, exec (.abortStream st) s = .next t
      ∧ (t.stn st).stream = some { r with ending := some .aborted, fetch := .empty }
      ∧ ((s.stn st).line ≠ none → (t.stn st).line = (s.stn st).line)
      ∧ (t.trav? r.traverse).map (·.readers) = (s.trav? r.traverse).map (·.readers)
      ∧ t.session = s.session ∧ t.channels = s.channels ∧ t.cal = s.cal := by
  have next := (execAbortStream_awake s st awake).trans (congrArg _ (s.abortStream_waits st r running full))
  have link : (((s.undelivered st).modStn st fun x =>
      { x.heard with stream := some r.abort }.schedule).arbitrate).stn st
        = { (s.stn st).heard with stream := some r.abort }.schedule := by
    rw [State.stn_arbitrate_of_idle _ st (by simp [StationLink.fetchWaiting, Stream.abort]), State.stn_modStn_self]
    rfl
  refine ⟨_, next, ?_, fun busy => ?_, State.readers_arbitrate _ _, ?_, ?_, ?_⟩
  · rw [link, StationLink.stream_schedule]
    rfl
  · obtain ⟨f, line⟩ := Option.ne_none_iff_exists'.1 busy
    rw [link, StationLink.schedule, if_pos (by simp [StationLink.heard, line])]
    rfl
  · rw [State.session_arbitrate]
    rfl
  · rw [State.channels_arbitrate]
    rfl
  · rw [State.cal_arbitrate]
    rfl

end Commands

/-- A stream of a traverse that is not archived ends early (R167, R176). -/
theorem streamsEndEarly_unarchived (st : Stn) (s : State) (r : Stream) (tr : Traverse) (awake : s.awake)
    (running : (s.stn st).stream = some r) (registered : r.registered = true) (live : s.trav? r.traverse = some tr)
    (kept : tr.archived = false) :
    let closed : Store :=
      { s.store.updTrav r.traverse fun u => { u with readers := u.readers - 1 } with
        port := s.store.port.undeliver st }
    (r.output = none →
      exec (.abortStream st) s = .next
        { s with
          store := closed
          stations := s.stations.set st
            (StationLink.withReply { s.stn st with link := .up, silenceMs := 0, stream := none }
              (.streamEnd r.tag .aborted r.sent (r.first + r.sent))) })
    ∧ ((s.stn st).link = .up → ∃ t, exec (.stationLinkLoss st) s = .next t
        ∧ t.stn st = (s.stn st).lost ∧ t.store = closed ∧ (∀ k, k ≠ st → t.stn k = s.stn k)
        ∧ t.session = s.session ∧ t.channels = s.channels ∧ t.cal = s.cal) := by
  intro closed
  have left (f : StationLink → StationLink) : ((s.undelivered st).modStn st f).deregister r.traverse
      = ((s.undelivered st).modStn st f).modTrav r.traverse Traverse.unread :=
    State.deregister_unarchived _ _ tr live kept
  refine ⟨fun empty => ?_, fun up => ?_⟩
  · rw [execAbortStream_awake s st awake, s.abortStream_ends st r running registered empty, left]
    rfl
  · have next := (execStationLinkLoss_up s st awake up).trans
      (congrArg _ ((s.loseStation_ends st r running registered).trans (congrArg (State.modStn · st _) (left _))))
    refine ⟨_, next, ?_, rfl, fun k other => ?_, rfl, rfl, rfl⟩
    · rw [State.stn_modStn_self, State.stn_modTrav, State.stn_modStn_self]
      rfl
    · rw [State.stn_modStn_other _ st k _ other, State.stn_modTrav, State.stn_modStn_other _ st k _ other]
      rfl

/-- Settles O48: an aborted stream ends at once or waits for its page, the loss of the link ends it, and the read
port leaves the readers by `State.deregister_leaves`. -/
theorem streamsEndEarly : Obligations.StreamsEndEarly := by
  refine ⟨fun st s r tr awake running registered live kept => ?_,
    fun st s r tr awake running registered live archived => ⟨fun up => ?_, fun empty => ?_⟩⟩
  · obtain ⟨ends, lost⟩ := streamsEndEarly_unarchived st s r tr awake running registered live kept
    refine ⟨ends, fun full => ?_, fun up => ?_⟩
    · obtain ⟨t, next, stream, line, readers, frame⟩ := execAbortStream_waits s st r awake running full
      rw [live] at readers
      exact ⟨t, next, stream, line, readers, frame⟩
    · obtain ⟨t, next, link, store, others, frame⟩ := lost up
      exact ⟨t, next, by rw [link]; rfl, by rw [link]; rfl, by rw [link]; rfl, by rw [link]; rfl, by rw [link]; rfl,
        by rw [link]; rfl, by rw [link]; rfl, by rw [link]; rfl, store, others, frame⟩
  · have next := (execStationLinkLoss_up s st awake up).trans
      (congrArg _ (s.loseStation_ends st r running registered))
    obtain ⟨goes, port, told⟩ := s.deregister_leaves st r tr live fun x => { x with stream := none }
    refine ⟨_, next, ⟨?_, port, ?_, ?_, ?_, ?_, ?_⟩, fun k other => ?_, ?_⟩
    · exact State.goesOrStays_imp _ _ _ _ _ _ _ (fun u ⟨readers, state, settled, pending⟩ =>
        ⟨readers, state, settled, pending archived⟩) goes
    · exact State.session_deregister _ _
    · exact State.channels_deregister _ _
    · exact State.cal_deregister _ _
    · exact State.comparisons_deregister _ _
    · exact State.config_deregister _ _
    · rw [State.stn_modStn_other _ st k _ other, State.stn, told]
      exact State.stn_raiseAll_congr s ((s.undelivered st).modStn st _) _ k
        (State.stn_modStn_other _ st k _ other) rfl rfl rfl
    · rw [State.stn_modStn_self]
      exact ⟨rfl, rfl, rfl, rfl, rfl, rfl⟩
  · have next := (execAbortStream_awake s st awake).trans
      (congrArg _ (s.abortStream_ends st r running registered empty))
    obtain ⟨goes, port, told⟩ := s.deregister_leaves st r tr live fun x =>
      x.streamless.withReply (.streamEnd r.tag .aborted r.sent (r.first + r.sent))
    refine ⟨_, next, ⟨?_, port, ?_, ?_, ?_, ?_, ?_⟩, told.trans ?_⟩
    · exact State.goesOrStays_imp _ _ _ _ _ _ _ (fun u ⟨readers, state, settled, pending⟩ =>
        ⟨readers, state, settled, pending archived⟩) goes
    · exact State.session_deregister _ _
    · exact State.channels_deregister _ _
    · exact State.cal_deregister _ _
    · exact State.comparisons_deregister _ _
    · exact State.config_deregister _ _
    · exact State.raised_congr _ _ _ (State.raised_of_eq _ _ rfl rfl rfl)

end Sys2Proof.Machine
end

section
namespace Sys2Proof.Machine

/-! The completion of a traverse (R71): its findings and its reservation. -/

/-- The store but for the directory, the reserved pages and the flag that follows them. -/
def Store.transfer (x : Store) : Store := { x with directory := [], reservedPages := 0, low := false }

theorem State.transfer_watchStore (s : State) : s.watchStore.store.transfer = s.store.transfer := by
  rw [s.store_watchStore]
  rfl

theorem State.reservedPages_watchStore (s : State) : s.watchStore.store.reservedPages = s.store.reservedPages := by
  rw [s.store_watchStore]

/-- A reservation returned (R75): the reserved pages fall, and what the port moves stays. -/
theorem State.returnReservation_store (s : State) (id keep : Nat) (tr : Traverse) (live : s.trav? id = some tr) :
    (s.returnReservation id keep).store.transfer = s.store.transfer
      ∧ (s.returnReservation id keep).store.reservedPages = s.store.reservedPages - (tr.reservation - keep) := by
  simp only [State.returnReservation, live]
  rw [State.transfer_watchStore, State.reservedPages_watchStore]
  exact ⟨rfl, rfl⟩

/-- The state once the findings of a traverse are in its entry and its Screening Unit is IDLE (R101 to R106). -/
def State.findingsNoted (s : State) (t : Traverse) (u : ScreenState) : State :=
  (s.modTrav t.id fun v => v.complete u.finalise u.params.reporting s.time).modChan t.channel fun c =>
    { c with screen := .idle }

/-- The state once the reservation is returned too (R71, R76). -/
def State.findingsWritten (s : State) (t : Traverse) (u : ScreenState) : State :=
  (s.findingsNoted t u).returnReservation t.id 0

/-- The entry of a traverse that has completed. -/
def Traverse.completed (t : Traverse) (u : ScreenState) (time : Nat) : Traverse :=
  { t.complete u.finalise u.params.reporting time with reservation := 0 }

section Findings
variable (s : State) (tr : Traverse) (u : ScreenState) (live : s.trav? tr.id = some tr)
include live

theorem State.findingsNoted_trav :
    (s.findingsNoted tr u).trav? tr.id = some (tr.complete u.finalise u.params.reporting s.time) :=
  s.trav_modTrav_self tr.id (fun v => v.complete u.finalise u.params.reporting s.time) tr (fun _ => rfl) live

theorem State.findingsWritten_trav :
    (s.findingsWritten tr u).trav? tr.id = some (tr.completed u s.time)
      ∧ ∀ n, n ≠ tr.id → (s.findingsWritten tr u).trav? n = s.trav? n := by
  obtain ⟨here, others, _⟩ :=
    (s.findingsNoted tr u).returnReservation_does tr.id 0 _ (s.findingsNoted_trav tr u live)
  refine ⟨here.trans ?_, fun n other => (others n other).trans (s.trav_modTrav_other tr.id n _ (fun _ => rfl) other)⟩
  simp [Traverse.completed]

theorem State.findingsWritten_store :
    (s.findingsWritten tr u).store.transfer = s.store.transfer
      ∧ (s.findingsWritten tr u).store.reservedPages = s.store.reservedPages - tr.reservation :=
  (s.findingsNoted tr u).returnReservation_store tr.id 0 (tr.complete u.finalise u.params.reporting s.time)
    (s.findingsNoted_trav tr u live)

theorem State.raised_findingsWritten :
    ∃ es, s.raised (s.findingsWritten tr u) es ∧ ∀ e ∈ es, e.isStoreNews = true := by
  obtain ⟨_, _, es, news, all⟩ :=
    (s.findingsNoted tr u).returnReservation_does tr.id 0 _ (s.findingsNoted_trav tr u live)
  exact ⟨es, State.raised_after _ (s.findingsNoted tr u) _ _ (s.raised_of_eq _ rfl rfl rfl) news, all⟩

omit live

theorem State.findingsWritten_frame :
    (s.findingsWritten tr u).channels = s.channels.set tr.channel { s.chan tr.channel with screen := .idle }
      ∧ (s.findingsWritten tr u).session = s.session ∧ (s.findingsWritten tr u).cal = s.cal
      ∧ (s.findingsWritten tr u).comparisons = s.comparisons ∧ (s.findingsWritten tr u).config = s.config := by
  unfold State.findingsWritten
  rw [State.channels_returnReservation, State.session_returnReservation, State.cal_returnReservation,
    State.comparisons_returnReservation, State.config_returnReservation]
  exact ⟨rfl, rfl, rfl, rfl, rfl⟩

end Findings

/-! The tube of a completed pull (R31). -/

/-- A tube without a primary call is not compared (R151). -/
theorem State.testComparison_of_uncalled (s : State) (p : Pos) (e : TubeEntry) (live : s.tube? p = some e)
    (uncalled : e.primary = none) : s.testComparison p = s := by
  have quiet : s.comparable e = none := by
    cases found : s.comparable e with
    | none => rfl
    | some d =>
      obtain ⟨_, _, _, _, primary, _⟩ := (s.comparable_iff e d).1 found
      exact nomatch uncalled.symm.trans primary
  unfold State.testComparison
  rw [live]
  dsimp only
  rw [quiet]
  cases s.comparison? p <;> rfl

/-- The entry of a tube whose pull has completed (R31). -/
def TubeEntry.acquired (t : TubeEntry) : TubeEntry :=
  { t.dropCalls with preClaim := none, holder := none, cause := none }

theorem State.acquireTube_does (s : State) (p : Pos) (id : Nat) (ch : Chan) (x : Session) (e : TubeEntry)
    (session : s.session = some x) (live : s.tube? p = some e) :
    (s.acquireTube p id ch).session = some (x.updTube p (fun v =>
        { v with primary := none, secondary := none, finalCall := none, preClaim := none, holder := none
                 cause := none, state := .acquired, changed := x.seconds }) (x.counts.move e.state .acquired))
      ∧ (s.acquireTube p id ch).comparisons = s.comparisons
      ∧ s.raised (s.acquireTube p id ch) [.tubeAcquired p id ch] := by
  have moved := s.moveTube_eq p .acquired TubeEntry.acquired x e session live
  have entry := s.tube?_moveTube p .acquired TubeEntry.acquired x e session live
  have quiet : s.acquireTube p id ch = (s.moveTube p .acquired TubeEntry.acquired).raise (.tubeAcquired p id ch) :=
    State.testComparison_of_uncalled _ p _ entry rfl
  rw [quiet]
  refine ⟨?_, ?_, State.raised_after _ _ _ _ (s.raised_moveTube p _ _) (State.raised_raise _ _)⟩
  · rw [State.session_raise, moved]
    rfl
  · rw [State.comparisons_raise, moved]

/-! The channel of a completed pull (R54). -/

/-- The channel with its pull out of hand. -/
def Channel.unloaded (c : Channel) : Channel :=
  { c with claim := none, traverse := none, expect := none, pendingLost := false }

/-- A channel clears its pull, goes to `new`, and sends `f`, and PERMIT where its permit changed. -/
def State.restsWith (s : State) (ch : Chan) (new : ChanState) (f : ProbeOut) : State :=
  (((s.modChan ch Channel.unloaded).setChan ch new).sendProbe ch f).refreshPermit ch

theorem State.channels_restsWith (s : State) (ch : Chan) (new : ChanState) (f : ProbeOut) (up : new ≠ .offline) :
    (s.restsWith ch new f).channels = s.channels.set ch
      { (s.chan ch).unloaded with
        state := new
        permit := some (permitOf s.session new)
        quietMs := 0
        sent := (s.chan ch).sent ++ [f]
          ++ if (s.chan ch).permit = some (permitOf s.session new) then [] else [.permit (permitOf s.session new)] } := by
  let s1 := (s.modChan ch Channel.unloaded).setChan ch new
  have moved : s1.chan ch = { (s.chan ch).unloaded with state := new } := by
    rw [State.chan, State.channels_setChan, Four.get_set_self, State.chan_modChan_self]
  have sent := s1.channels_sendProbe_up ch f (by rw [moved]; exact up)
  have own : (s1.sendProbe ch f).chan ch = { (s.chan ch).unloaded with
      state := new, sent := (s.chan ch).sent ++ [f], quietMs := 0 } := by
    rw [State.chan, sent, Four.get_set_self, moved]
    rfl
  have session : (s1.sendProbe ch f).session = s.session := by
    rw [State.session_sendProbe, State.session_setChan]
    rfl
  have permit := State.permitNow_up (s1.sendProbe ch f) ch new (by rw [own]) up
  rw [session] at permit
  have refreshed := State.channels_refreshPermit_up _ ch _ permit
  rw [own] at refreshed
  refine refreshed.trans ?_
  rw [sent, State.channels_setChan, State.channels_modChan, Four.set_set, Four.set_set, Four.set_set]
  by_cases same : (s.chan ch).permit = some (permitOf s.session new) <;> simp [Channel.unloaded, same]

theorem State.raised_restsWith (s : State) (ch : Chan) (new : ChanState) (f : ProbeOut) (up : new ≠ .offline)
    (leaves : (s.chan ch).state ≠ new) :
    s.raised (s.restsWith ch new f) [.channelChange ch new (some (permitOf s.session new))] := by
  let s1 := s.modChan ch Channel.unloaded
  let s2 := s1.modChan ch fun c => { c with state := new }
  have changed := s1.setChan_of_ne ch new (by rw [State.chan_modChan_self]; exact leaves)
  have permit : s2.permitNow ch = some (permitOf s.session new) :=
    s2.permitNow_up ch new (by rw [State.chan_modChan_self]) up
  rw [show (s1.modChan ch fun c => { c with state := new }).permitNow ch = _ from permit] at changed
  have news : s.raised (s1.setChan ch new) [.channelChange ch new (some (permitOf s.session new))] := by
    rw [changed]
    exact State.raised_after _ s2 _ _ (s.raised_of_eq _ rfl rfl rfl) (s2.raised_raise _)
  exact State.raised_before _ _ _ _ news
    (State.raised_before _ _ _ _ (State.raised_sendProbe _ ch f) (State.raised_refreshPermit _ ch))

/-! The completion as a whole (R31, R54, R71, R124). -/

/-- A completed inspection pull: the findings are written, the tube is ACQUIRED, and the channel rests. -/
def State.inspectionDone (s : State) (t : Traverse) (u : ScreenState) (p : Pos) : State :=
  let s1 := (s.findingsWritten t u).acquireTube p t.id t.channel
  s1.restsWith t.channel (s1.restState t.channel)
    (.traverseDone t.id t.stored t.lost (t.complete u.finalise u.params.reporting s.time).flags false)

/-- A completed calibration pull: the findings are written, and the attempt waits for its verdict. -/
def State.calibrationDone (s : State) (t : Traverse) (u : ScreenState) : State :=
  let s1 := s.findingsWritten t u
  s1.setAttempt t.channel ((s1.attempt? t.channel).map fun a => { a with stage := .evaluating })

section Completion
variable (s : State) (tr : Traverse) (u : ScreenState) (live : s.trav? tr.id = some tr)
  (bound : (s.chan tr.channel).screen.boundTo tr.id = some u)
include live bound

theorem State.completeTraverse_tube (p : Pos) (target : tr.target = .tube p) :
    s.completeTraverse tr = s.inspectionDone tr u p := by
  unfold State.completeTraverse
  dsimp only
  rw [bound]
  dsimp only
  rw [target]
  dsimp only
  have entry := (s.findingsWritten_trav tr u live).1
  have flags : ∀ v : State, v.store = (s.findingsWritten tr u).store →
      ((v.trav? tr.id).map (·.flags)).getD tr.flags = (tr.complete u.finalise u.params.reporting s.time).flags := by
    intro v same
    rw [State.trav?, same]
    change (((s.findingsWritten tr u).trav? tr.id).map (·.flags)).getD tr.flags = _
    rw [entry]
    rfl
  rw [flags]
  · rfl
  · rw [State.store_setChan]
    exact State.store_acquireTube _ _ _ _

omit live in
theorem State.completeTraverse_standard (std : Nat) (target : tr.target = .standard std) :
    s.completeTraverse tr = s.calibrationDone tr u := by
  unfold State.completeTraverse
  dsimp only
  rw [bound]
  dsimp only
  rw [target]
  rfl

/-- Whatever was pulled, the store of a completed traverse holds its findings, and its reservation is returned. -/
theorem State.store_completeTraverse : (s.completeTraverse tr).store = (s.findingsWritten tr u).store := by
  cases target : tr.target with
  | tube p =>
    rw [s.completeTraverse_tube tr u live bound p target]
    simp only [State.inspectionDone, State.restsWith, State.store_refreshPermit, State.store_sendProbe,
      State.store_setChan]
    exact State.store_acquireTube _ _ _ _
  | standard std => rw [s.completeTraverse_standard tr u bound std target, State.calibrationDone, State.store_setAttempt]

end Completion

end Sys2Proof.Machine
end

section
namespace Sys2Proof.Machine

/-! What a completion leaves (R31, R54, R71, R124). -/

theorem State.time_of_session (s : State) (x : Session) (session : s.session = some x) : s.time = x.seconds := by
  simp [State.time, State.time?, session]

/-- The state in which the channel of a completed pull rests. -/
def restingUnder (b : Bracket) : ChanState := if b.calDue.isSome then .due else .ready

theorem restingUnder_up (b : Bracket) : restingUnder b ≠ .offline := by
  unfold restingUnder
  split <;> decide

/-- The channel of a completed inspection pull (R54). -/
def Channel.completed (c : Channel) (rest : ChanState) (id stored lost : Nat) (flags : TraverseFlags)
    (permit : Permit) : Channel :=
  { c.unloaded with
    screen := .idle, state := rest, permit := some permit, quietMs := 0
    sent := c.sent ++ [.traverseDone id stored lost flags false]
      ++ if c.permit = some permit then [] else [.permit permit] }

section Inspection
variable (s : State) (tr : Traverse) (u : ScreenState) (p : Pos) (x : Session) (e : TubeEntry) (b : Bracket)
  (live : s.trav? tr.id = some tr) (session : s.session = some x) (tube : s.tube? p = some e)
  (opened : s.openBracket tr.channel = some b)
include live session tube opened

/-- The parts of a completed inspection pull, and what it raises. -/
theorem State.inspectionDone_does :
    let t := s.inspectionDone tr u p
    let permit := permitOf s.session (restingUnder b)
    t.store = (s.findingsWritten tr u).store
      ∧ t.session = some (x.updTube p (fun v =>
          { v with primary := none, secondary := none, finalCall := none, preClaim := none, holder := none
                   cause := none, state := .acquired, changed := x.seconds }) (x.counts.move e.state .acquired))
      ∧ t.channels = s.channels.set tr.channel ((s.chan tr.channel).completed (restingUnder b) tr.id tr.stored
          tr.lost (tr.complete u.finalise u.params.reporting s.time).flags permit)
      ∧ t.cal = s.cal ∧ t.comparisons = s.comparisons ∧ t.config = s.config
      ∧ ((s.chan tr.channel).state ≠ restingUnder b →
          ∃ es, (∀ f ∈ es, f.isStoreNews = true)
            ∧ s.raised t (es ++ [.tubeAcquired p tr.id tr.channel]
                ++ [.channelChange tr.channel (restingUnder b) (some permit)])) := by
  let s1 := s.findingsWritten tr u
  let s2 := s1.acquireTube p tr.id tr.channel
  obtain ⟨channels, session1, cal, comparisons, config⟩ := s.findingsWritten_frame tr u
  obtain ⟨es, told, news⟩ := s.raised_findingsWritten tr u live
  have tube1 : s1.tube? p = some e := (State.tube?_of_session s s1 session1 p).trans tube
  obtain ⟨session2, comparisons2, told2⟩ :=
    s1.acquireTube_does p tr.id tr.channel x e (session1.trans session) tube1
  have channels2 : s2.channels = s.channels.set tr.channel { s.chan tr.channel with screen := .idle } :=
    (State.channels_acquireTube _ _ _ _).trans channels
  have own : s2.chan tr.channel = { s.chan tr.channel with screen := .idle } := by
    rw [State.chan, channels2, Four.get_set_self]
  have cal2 : s2.cal = s.cal := (State.cal_acquireTube _ _ _ _).trans cal
  have rest : s2.restState tr.channel = restingUnder b :=
    s2.restState_of_bracket _ b ((State.openBracket_congr s s2 _ cal2).trans opened)
  have permit : permitOf s2.session (restingUnder b) = permitOf s.session (restingUnder b) := by
    rw [session2, session]
    rfl
  have done : s.inspectionDone tr u p = s2.restsWith tr.channel (restingUnder b)
      (.traverseDone tr.id tr.stored tr.lost (tr.complete u.finalise u.params.reporting s.time).flags false) := by
    rw [← rest]
    rfl
  rw [done]
  refine ⟨?_, ?_, ?_, ?_, ?_, ?_, fun leaves => ⟨es, news, ?_⟩⟩
  · simp only [State.restsWith, State.store_refreshPermit, State.store_sendProbe, State.store_setChan]
    exact State.store_acquireTube _ _ _ _
  · simp only [State.restsWith, State.session_refreshPermit, State.session_sendProbe, State.session_setChan]
    exact session2
  · rw [State.channels_restsWith _ _ _ _ (restingUnder_up b), permit, own, channels2, Four.set_set]
    rfl
  · simp only [State.restsWith, State.cal_refreshPermit, State.cal_sendProbe, State.cal_setChan]
    exact cal2
  · simp only [State.restsWith, State.comparisons_refreshPermit, State.comparisons_sendProbe,
      State.comparisons_setChan]
    exact comparisons2.trans comparisons
  · simp only [State.restsWith, State.config_refreshPermit, State.config_sendProbe, State.config_setChan]
    exact (State.config_acquireTube _ _ _ _).trans config
  · rw [← permit]
    refine State.raised_trans _ _ _ _ _ (State.raised_trans _ _ _ _ _ told told2) ?_
    exact s2.raised_restsWith _ _ _ (restingUnder_up b) (by rw [own]; exact leaves)

/-- A completed inspection pull is what R31, R54 and R71 say of it. -/
theorem State.inspectionDone_completes (target : tr.target = .tube p) (claimed : e.state = .claimed)
    (recording : (s.chan tr.channel).state = .recording) :
    ∃ es, s.inspectionCompleted (s.inspectionDone tr u p) tr.channel tr u p x b es
      ∧ s.raised (s.inspectionDone tr u p) es := by
  obtain ⟨store, sess, channels, cal, comparisons, config, raises⟩ :=
    s.inspectionDone_does tr u p x e b live session tube opened
  obtain ⟨es, news, told⟩ := raises (by rw [recording, restingUnder]; split <;> decide)
  have entry : (s.inspectionDone tr u p).trav? tr.id = some (tr.completed u s.time) := by
    rw [State.trav?, store]
    exact (s.findingsWritten_trav tr u live).1
  have own : (s.inspectionDone tr u p).chan tr.channel = (s.chan tr.channel).completed (restingUnder b) tr.id tr.stored
      tr.lost (tr.complete u.finalise u.params.reporting s.time).flags (permitOf s.session (restingUnder b)) := by
    rw [State.chan, channels, Four.get_set_self]
  have others : ∀ k, k ≠ tr.channel → (s.inspectionDone tr u p).chan k = s.chan k := by
    intro k other
    rw [State.chan, channels, Four.get_set_other _ _ _ _ other]
    rfl
  have time := s.time_of_session x session
  have quiet : es.count (.tubeAcquired p tr.id tr.channel) = 0 :=
    List.count_eq_zero.2 fun mem => nomatch news _ mem
  refine ⟨_, ⟨⟨_, entry, rfl, ?_, rfl, rfl, rfl, ?_, rfl, rfl, rfl⟩, ?_, ?_, ?_, ?_, ?_, ?_, ?_, ?_, ?_, ?_, ?_, others,
    cal, comparisons, config⟩, told⟩
  · exact congrArg some time
  · simp only [Traverse.completed, Traverse.complete, target, time]
  · rw [claimed] at sess
    exact sess
  · exact congrArg Channel.state own
  · exact congrArg Channel.claim own
  · exact congrArg Channel.traverse own
  · exact congrArg Channel.expect own
  · exact congrArg Channel.pendingLost own
  · exact congrArg Channel.screen own
  · exact congrArg Channel.permit own
  · exact congrArg Channel.sent own
  · rw [List.count_append, List.count_append, quiet]
    simp
  · exact List.getLast?_concat

theorem State.inspectionDone_buffers :
    ((s.inspectionDone tr u p).chan tr.channel).bufA = (s.chan tr.channel).bufA
      ∧ ((s.inspectionDone tr u p).chan tr.channel).bufB = (s.chan tr.channel).bufB
      ∧ ((s.inspectionDone tr u p).chan tr.channel).pauseDue = (s.chan tr.channel).pauseDue := by
  obtain ⟨_, _, channels, _⟩ := s.inspectionDone_does tr u p x e b live session tube opened
  rw [State.chan, channels, Four.get_set_self]
  exact ⟨rfl, rfl, rfl⟩

end Inspection

/-- A completed calibration pull is what R71 and R124 say of it. -/
theorem State.calibrationDone_completes (s : State) (tr : Traverse) (u : ScreenState) (std : Nat) (x : Session)
    (a : Attempt) (live : s.trav? tr.id = some tr) (target : tr.target = .standard std)
    (session : s.session = some x) (attempt : s.attempt? tr.channel = some a) :
    s.calibrationCompleted (s.calibrationDone tr u) tr.channel tr u x a
      ∧ (s.calibrationDone tr u).channels
          = s.channels.set tr.channel { s.chan tr.channel with screen := .idle } := by
  obtain ⟨channels, session1, cal, comparisons, config⟩ := s.findingsWritten_frame tr u
  have store : (s.calibrationDone tr u).store = (s.findingsWritten tr u).store := State.store_setAttempt _ _ _
  have channels' : (s.calibrationDone tr u).channels
      = s.channels.set tr.channel { s.chan tr.channel with screen := .idle } := channels
  have entry : (s.calibrationDone tr u).trav? tr.id = some (tr.completed u s.time) := by
    rw [State.trav?, store]
    exact (s.findingsWritten_trav tr u live).1
  have own : (s.calibrationDone tr u).chan tr.channel = { s.chan tr.channel with screen := .idle } := by
    rw [State.chan, channels', Four.get_set_self]
  have attempts : (s.calibrationDone tr u).cal.attempts
      = s.cal.attempts.set tr.channel (some { a with stage := .evaluating }) := by
    have known : (s.findingsWritten tr u).attempt? tr.channel = some a := by
      rw [State.attempt?, cal]
      exact attempt
    simp only [State.calibrationDone, State.setAttempt, State.modCal, known, cal, Option.map_some]
  have calFrame : (s.calibrationDone tr u).cal.log = s.cal.log
      ∧ (s.calibrationDone tr u).cal.brackets = s.cal.brackets := by
    simp only [State.calibrationDone, State.setAttempt, State.modCal, cal]
    exact ⟨trivial, trivial⟩
  have time := s.time_of_session x session
  refine ⟨⟨⟨_, entry, rfl, congrArg some time, rfl, rfl, rfl, rfl, ?_, rfl, rfl⟩, ?_, ?_, ?_, session1, calFrame.1,
    calFrame.2, fun k other => ⟨?_, ?_⟩, comparisons, config⟩, channels'⟩
  · simp only [Traverse.completed, Traverse.complete, target]
  · rw [State.attempt?, attempts, Four.get_set_self]
  · rw [own]
  · rw [own]
  · rw [State.chan, channels', Four.get_set_other _ _ _ _ other]
    rfl
  · rw [State.attempt?, attempts, Four.get_set_other _ _ _ _ other]
    rfl

end Sys2Proof.Machine
end

section
namespace Sys2Proof.Machine

/-! A completion, seen from the state before the act. -/

/-- Nothing of the traverse is outstanding, so it completes (R71). -/
theorem State.tryComplete_completes (s : State) (tr : Traverse) (live : s.trav? tr.id = some tr)
    (finishing : tr.state = .finishing) (written : tr.inWrite = 0)
    (a : (s.chan tr.channel).bufA.pendingFor tr.id = false)
    (b : (s.chan tr.channel).bufB.pendingFor tr.id = false) : s.tryComplete tr.id = s.completeTraverse tr := by
  have ready : s.readyToComplete tr = true := by simp [State.readyToComplete, finishing, written, a, b]
  simp only [State.tryComplete, live, ready, if_true]

theorem Screening.boundTo_holding (x : Screening) (u : ScreenState) (id : Nat) (holds : x = .holding u)
    (named : u.traverse = id) : x.boundTo id = some u := by
  subst holds
  exact if_pos named

section Seen
variable (s m t : State) (ch : Chan) (tr w : Traverse) (u : ScreenState)
  (session : m.session = s.session) (cal : m.cal = s.cal) (comparisons : m.comparisons = s.comparisons)
  (config : m.config = s.config) (others : ∀ k, k ≠ ch → m.chan k = s.chan k)
  (id : w.id = tr.id) (flags : w.flags = tr.flags)
include session cal comparisons config others id flags

/-- What led to the completion changed nothing that is said of it, and raised no TUBE_ACQUIRED. -/
theorem State.inspectionCompleted_of (p : Pos) (x : Session) (b : Bracket) (pre es : List Event)
    (permit : (m.chan ch).permit = (s.chan ch).permit) (sent : (m.chan ch).sent = (s.chan ch).sent)
    (stored : w.stored = tr.stored) (lost : w.lost = tr.lost) (quiet : pre.count (.tubeAcquired p tr.id ch) = 0)
    (h : m.inspectionCompleted t ch w u p x b es) : s.inspectionCompleted t ch tr u p x b (pre ++ es) := by
  obtain ⟨entry, sess, state, claim, trav, expect, pending, screen, perm, frames, one, last, rest, frame⟩ := h
  rw [id, flags, stored, lost] at entry
  rw [session] at perm last
  rw [sent, permit, id, stored, lost, flags, session] at frames
  rw [id] at one
  rw [cal, comparisons, config] at frame
  refine ⟨entry, sess, state, claim, trav, expect, pending, screen, perm, frames, ?_, ?_,
    fun k other => (rest k other).trans (others k other), frame⟩
  · rw [List.count_append, quiet, one]
  · rw [List.getLast?_append, last]
    rfl

theorem State.calibrationCompleted_of (x : Session) (a : Attempt) (settled : w.settled = tr.settled)
    (bracket : w.bracket = tr.bracket) (hand : (m.chan ch).traverse = (s.chan ch).traverse)
    (h : m.calibrationCompleted t ch w u x a) : s.calibrationCompleted t ch tr u x a := by
  obtain ⟨entry, attempt, screen, trav, sess, log, brackets, rest, comps, conf⟩ := h
  rw [id, flags, settled, bracket] at entry
  refine ⟨entry, attempt, screen, trav.trans hand, sess.trans session, log.trans (by rw [cal]),
    brackets.trans (by rw [cal]), fun k other => ⟨(rest k other).1.trans (others k other), (rest k other).2.trans ?_⟩,
    comps.trans comparisons, conf.trans config⟩
  rw [State.attempt?, cal]
  rfl

end Seen

/-! PULL_END with nothing outstanding (R54, R57, R71). -/

/-- The end of a recording raises at most the channel's change (R47). -/
theorem State.raised_recordingEnded (s : State) (ch : Chan) (id : Nat) (new : ChanState) :
    ∃ es, s.raised ((s.hearProbe ch).recordingEnded ch id new) es ∧ ∀ p n k, es.count (.tubeAcquired p n k) = 0 := by
  let s1 := ((s.hearProbe ch).modTrav id fun t => { t with state := .finishing }).modChan ch (·.endsRecording)
  have quiet : s.raised s1 [] := s.raised_of_eq _ rfl rfl rfl
  by_cases same : (s1.chan ch).state = new
  · have still : s1.setChan ch new = s1 := if_pos same
    have stays : s1.raised (s1.moveChan ch new) [] := by
      rw [State.moveChan, still]
      exact s1.raised_refreshPermit ch
    exact ⟨[], State.raised_after _ _ _ _ quiet stays, fun _ _ _ => rfl⟩
  · exact ⟨_, State.raised_after _ _ _ _ quiet (s1.raised_moveChan ch new same), fun _ _ _ => by simp⟩

/-- A pull that ends keeps the permit of its channel, which sends nothing for it (R48, R54). -/
theorem State.recordingEnded_sends (s : State) (ch : Chan) (id : Nat)
    (pulling : (s.chan ch).state = .recording ∨ (s.chan ch).state = .paused)
    (settled : (s.chan ch).permit = s.permitNow ch) :
    let m := (s.hearProbe ch).recordingEnded ch id .recording
    (m.chan ch).permit = (s.chan ch).permit ∧ (m.chan ch).sent = (s.chan ch).sent := by
  intro m
  let s1 := ((s.hearProbe ch).modTrav id fun t => { t with state := .finishing }).modChan ch (·.endsRecording)
  let s2 := s1.setChan ch .recording
  have own1 : s1.chan ch = { s.chan ch with silenceMs := 0 }.endsRecording := by
    rw [State.chan_modChan_self, State.chan_modTrav, State.chan_hearProbe_self]
  have own2 : s2.chan ch = { ({ s.chan ch with silenceMs := 0 } : Channel).endsRecording with state := .recording } := by
    rw [State.chan, State.channels_setChan, Four.get_set_self, own1]
  have permit : s2.permitNow ch = (s.chan ch).permit :=
    (State.permitNow_pulling s s2 ch (State.session_setChan s1 ch _) pulling (.inl (by rw [own2]))).trans settled.symm
  have still : s2.refreshPermit ch = s2 := by
    unfold State.refreshPermit
    rw [permit, own2]
    exact if_pos rfl
  have done : m = s2 := still
  rw [done, own2]
  exact ⟨rfl, rfl⟩

/-- The state in which a pull with nothing outstanding completes (R54, R57, R65): its recording has ended, and the
last page in its lane is marked. -/
def State.pullMarked (s : State) (ch : Chan) (id : Nat) (new : ChanState) : State :=
  ((s.hearProbe ch).recordingEnded ch id new).modStore fun x =>
    { x with lanes := x.lanes.set ch (markLast id false (x.lanes.get ch)) }

section PullEnd
variable (ch : Chan) (s : State) (tr : Traverse) (u : ScreenState) (new : ChanState)
  (live : s.trav? tr.id = some tr) (own : tr.channel = ch) (screening : (s.chan ch).screen = .active u)
  (named : u.traverse = tr.id) (written : tr.inWrite = 0) (a : (s.chan ch).bufA.pendingFor tr.id = false)
  (b : (s.chan ch).bufB.pendingFor tr.id = false)
include live own screening named written a b

/-- A pull with nothing outstanding ends by completing (R71). -/
theorem State.finishPull_completes :
    (s.hearProbe ch).finishPull ch tr.id new
      = (s.pullMarked ch tr.id new).completeTraverse { tr with state := .finishing }
      ∧ (s.pullMarked ch tr.id new).trav? tr.id = some { tr with state := .finishing }
      ∧ ((s.pullMarked ch tr.id new).chan tr.channel).screen.boundTo tr.id = some u := by
  subst own
  obtain ⟨entry, _, silent, _⟩ := s.recordingEnded_does tr.channel tr u new live screening
  let m := (s.hearProbe tr.channel).recordingEnded tr.channel tr.id new
  have bufA : (m.chan tr.channel).bufA.pendingFor tr.id = false := by
    rw [show (m.chan tr.channel).bufA = (s.chan tr.channel).bufA from (congrArg Channel.bufA silent :)]
    exact a
  have bufB : (m.chan tr.channel).bufB.pendingFor tr.id = false := by
    rw [show (m.chan tr.channel).bufB = (s.chan tr.channel).bufB from (congrArg Channel.bufB silent :)]
    exact b
  have screen : (m.chan tr.channel).screen = .holding u := (congrArg Channel.screen silent :)
  refine ⟨?_, entry, Screening.boundTo_holding _ u _ screen named⟩
  rw [State.finishPull_eq, State.finalPage_marks _ _ _ _ bufA bufB]
  exact State.tryComplete_completes (s.pullMarked tr.channel tr.id new) { tr with state := .finishing } entry rfl
    written bufA bufB

end PullEnd

/-- PULL_END completes an inspection pull with nothing outstanding (R31, R54, R71). -/
theorem execPullEnd_inspection (ch : Chan) (s : State) (tr : Traverse) (u : ScreenState) (p : Pos) (x : Session)
    (e : TubeEntry) (b : Bracket) (up : s.probeUp ch) (hand : s.inHand? ch = some tr) (own : tr.channel = ch)
    (target : tr.target = .tube p) (written : tr.inWrite = 0)
    (pulling : (s.chan ch).state = .recording ∧ tr.state = .recording ∨ (s.chan ch).state = .paused)
    (opened : s.openBracket ch = some b) (screening : (s.chan ch).screen = .active u) (named : u.traverse = tr.id)
    (bufA : (s.chan ch).bufA.pendingFor tr.id = false) (bufB : (s.chan ch).bufB.pendingFor tr.id = false)
    (session : s.session = some x) (tube : s.tube? p = some e) (claimed : e.state = .claimed)
    (permit : (s.chan ch).permit = s.permitNow ch) :
    ∃ t es, exec (.pullEnd ch) s = .next t ∧ s.inspectionCompleted t ch tr u p x b es
      ∧ t.stations = (s.raiseAll es).stations
      ∧ t.store.reservedPages = s.store.reservedPages - tr.reservation
      ∧ (t.trav? tr.id).map (·.pages) = some tr.pages ∧ (t.chan ch).pauseDue = none := by
  have live := s.live_of_inHand ch tr hand
  have state : (s.chan ch).state = .recording ∨ (s.chan ch).state = .paused := pulling.imp (·.1) id
  have run := execPullEnd_ends ch s tr up hand (pulling.imp id .inl)
  rw [if_neg (by rcases state with h | h <;> simp [h])] at run
  obtain ⟨ends, entry, bound⟩ :=
    s.finishPull_completes ch tr u .recording live own screening named written bufA bufB
  obtain ⟨_, store, silent, others, sess, cal, comparisons, config⟩ :=
    s.recordingEnded_does ch tr u .recording live screening
  obtain ⟨pre, told, quiet⟩ := s.raised_recordingEnded ch tr.id .recording
  obtain ⟨kept, sent⟩ := s.recordingEnded_sends ch tr.id state permit
  let n := s.pullMarked ch tr.id .recording
  let w : Traverse := { tr with state := .finishing }
  have own' : w.channel = ch := own
  have tube' : n.tube? p = some e := (State.tube?_of_session s n sess p).trans tube
  have opened' : n.openBracket w.channel = some b := by
    rw [own']
    exact (State.openBracket_congr s n ch cal).trans opened
  have session' : n.session = some x := sess.trans session
  have recording : (n.chan w.channel).state = .recording := by
    rw [own']
    exact (congrArg Channel.state silent :)
  have done := n.completeTraverse_tube w u entry bound p target
  obtain ⟨es, completed, news⟩ :=
    n.inspectionDone_completes w u p x e b entry session' tube' opened' target claimed recording
  obtain ⟨_, _, due⟩ := n.inspectionDone_buffers w u p x e b entry session' tube' opened'
  have stored := n.store_completeTraverse w u entry bound
  rw [own'] at completed due
  rw [ends, done] at run
  rw [done] at stored
  refine ⟨_, pre ++ es, run, ?_, ?_, ?_, ?_, ?_⟩
  · exact State.inspectionCompleted_of s n _ ch tr w u sess cal comparisons config others rfl rfl p x b pre es kept
      sent rfl rfl (quiet _ _ _) completed
  · have marked : s.raised n pre :=
      State.raised_before _ _ _ _ told (State.raised_of_eq _ _ rfl rfl rfl)
    exact (State.raised_trans _ _ _ _ _ marked news).1
  · rw [stored, (n.findingsWritten_store w u entry).2]
    change ((s.hearProbe ch).recordingEnded ch tr.id .recording).store.reservedPages - _ = _
    rw [store]
    rfl
  · rw [State.trav?, stored]
    exact congrArg (Option.map (·.pages)) (n.findingsWritten_trav w u entry).1
  · rw [due]
    exact (congrArg Channel.pauseDue silent :)

/-- PULL_END completes a calibration pull with nothing outstanding (R57, R71, R124). -/
theorem execPullEnd_calibration (ch : Chan) (s : State) (tr : Traverse) (u : ScreenState) (std : Nat) (a : Attempt)
    (x : Session) (up : s.probeUp ch) (hand : s.inHand? ch = some tr) (own : tr.channel = ch)
    (target : tr.target = .standard std) (written : tr.inWrite = 0) (calibrating : (s.chan ch).state = .calibrating)
    (screening : (s.chan ch).screen = .active u) (named : u.traverse = tr.id)
    (bufA : (s.chan ch).bufA.pendingFor tr.id = false) (bufB : (s.chan ch).bufB.pendingFor tr.id = false)
    (session : s.session = some x) (attempt : s.attempt? ch = some a) :
    ∃ t, exec (.pullEnd ch) s = .next t ∧ s.calibrationCompleted t ch tr u x a
      ∧ t.store.reservedPages = s.store.reservedPages - tr.reservation
      ∧ (t.chan ch).state = .evaluating ∧ (t.chan ch).traverse = some tr.id := by
  have live := s.live_of_inHand ch tr hand
  have run := execPullEnd_ends ch s tr up hand (.inr (.inr calibrating))
  rw [if_pos calibrating] at run
  obtain ⟨ends, entry, bound⟩ :=
    s.finishPull_completes ch tr u .evaluating live own screening named written bufA bufB
  obtain ⟨_, store, silent, others, sess, cal, comparisons, config⟩ :=
    s.recordingEnded_does ch tr u .evaluating live screening
  let n := s.pullMarked ch tr.id .evaluating
  let w : Traverse := { tr with state := .finishing }
  have own' : w.channel = ch := own
  have attempt' : n.attempt? w.channel = some a := by
    rw [own', State.attempt?, show n.cal = s.cal from cal]
    exact attempt
  have hand' : (n.chan ch).traverse = (s.chan ch).traverse := (congrArg Channel.traverse silent :)
  have holds : (s.chan ch).traverse = some tr.id := by
    obtain ⟨id, holds, found⟩ := Option.bind_eq_some_iff.1 hand
    rw [holds, s.trav_id id tr found]
  have done := n.completeTraverse_standard w u bound std target
  obtain ⟨completed, channels⟩ := n.calibrationDone_completes w u std x a entry target (sess.trans session) attempt'
  have stored := n.store_completeTraverse w u entry bound
  have resting : ((n.calibrationDone w u).chan ch).state = (n.chan ch).state := by
    rw [State.chan, channels, own', Four.get_set_self]
  rw [own'] at completed
  rw [ends, done] at run
  rw [done] at stored
  refine ⟨_, run, ?_, ?_, ?_, ?_⟩
  · exact State.calibrationCompleted_of s n _ ch tr w u sess cal comparisons config others rfl rfl x a rfl rfl hand'
      completed
  · rw [stored, (n.findingsWritten_store w u entry).2]
    change ((s.hearProbe ch).recordingEnded ch tr.id .evaluating).store.reservedPages - _ = _
    rw [store]
    rfl
  · rw [resting]
    exact (congrArg Channel.state silent :)
  · obtain ⟨_, _, _, trav, _⟩ := completed
    exact trav.trans (hand'.trans holds)

end Sys2Proof.Machine
end

section
namespace Sys2Proof.Machine

/-! Finalisation (R101 to R105). -/

theorem ScreenState.closeIndication_keeps (u : ScreenState) (w : IndWindow) (capped : Bool) :
    (u.closeIndication w capped).landmarkPart = u.landmarkPart
      ∧ (u.closeIndication w capped).boundPart = u.boundPart
      ∧ (u.closeIndication w capped).firstPos = u.firstPos := by
  unfold ScreenState.closeIndication
  dsimp only
  split <;> exact ⟨rfl, rfl, rfl⟩

theorem ScreenState.closeLandmark_keeps (u : ScreenState) (w : LandmarkWindow) (capped : Bool) :
    (u.closeLandmark w capped).indicationPart = u.indicationPart
      ∧ (u.closeLandmark w capped).boundPart = u.boundPart
      ∧ (u.closeLandmark w capped).firstPos = u.firstPos := by
  unfold ScreenState.closeLandmark
  split <;> exact ⟨rfl, rfl, rfl⟩

/-- The indication window that is open is closed uncapped (R101). -/
def ScreenState.closeFirst (u : ScreenState) : ScreenState :=
  match u.window with
  | none => u
  | some w => u.closeIndication w false

/-- The landmark window that is open is closed uncapped (R101). -/
def ScreenState.closeSecond (u : ScreenState) : ScreenState :=
  match u.lmWindow with
  | none => u
  | some w => u.closeLandmark w false

theorem ScreenState.closeOpen_eq (u : ScreenState) : u.closeOpen = u.closeFirst.closeSecond := rfl

theorem ScreenState.closeFirst_keeps (u : ScreenState) :
    u.closeFirst.landmarkPart = u.landmarkPart ∧ u.closeFirst.boundPart = u.boundPart
      ∧ u.closeFirst.firstPos = u.firstPos := by
  unfold ScreenState.closeFirst
  split
  · exact ⟨rfl, rfl, rfl⟩
  · exact u.closeIndication_keeps _ _

theorem ScreenState.closeSecond_keeps (u : ScreenState) :
    u.closeSecond.indicationPart = u.indicationPart ∧ u.closeSecond.boundPart = u.boundPart
      ∧ u.closeSecond.firstPos = u.firstPos := by
  unfold ScreenState.closeSecond
  split
  · exact ⟨rfl, rfl, rfl⟩
  · exact u.closeLandmark_keeps _ _

/-- What the close of what is open leaves of the parameters and the first position (R101). -/
theorem ScreenState.closeOpen_keeps (u : ScreenState) :
    u.closeOpen.params = u.params ∧ u.closeOpen.firstPos = u.firstPos := by
  obtain ⟨_, bound1, first1⟩ := u.closeFirst_keeps
  obtain ⟨_, bound2, first2⟩ := u.closeFirst.closeSecond_keeps
  exact ⟨congrArg Prod.snd (bound2.trans bound1), first2.trans first1⟩

/-- The indications after the close of what is open (R101). -/
theorem ScreenState.closeOpen_indications (u : ScreenState) :
    (u.window = none → u.keepsIndications u.closeOpen)
      ∧ ∀ w, u.window = some w → u.keptAs u.closeOpen w false := by
  have part : u.closeOpen.indicationPart = u.closeFirst.indicationPart := u.closeFirst.closeSecond_keeps.1
  refine ⟨fun shut => ?_, fun w opened => ?_⟩
  · rw [ScreenState.closeFirst, shut] at part
    exact ((ScreenState.indicationPart_iff _ _).1 part).2
  · rw [ScreenState.closeFirst, opened] at part
    exact u.closeIndication_kept _ w false part

/-- The landmarks after the close of what is open (R101). -/
theorem ScreenState.closeOpen_landmarks (u : ScreenState) :
    u.closeOpen.opened = u.opened
      ∧ (u.lmWindow = none → u.keepsLandmarks u.closeOpen)
      ∧ ∀ w, u.lmWindow = some w → u.keptLandmark u.closeOpen w false := by
  obtain ⟨window, run, opened, list, ignored⟩ :=
    (ScreenState.landmarkPart_iff u u.closeFirst).1 u.closeFirst_keeps.1
  have shutCase (shut : u.lmWindow = none) : u.closeOpen = u.closeFirst := by
    rw [ScreenState.closeOpen_eq, ScreenState.closeSecond, window, shut]
  have openCase (w : LandmarkWindow) (openW : u.lmWindow = some w) : u.keptLandmark u.closeOpen w false := by
    have done : u.closeOpen = u.closeFirst.closeLandmark w false := by
      rw [ScreenState.closeOpen_eq, ScreenState.closeSecond, window, openW]
    obtain ⟨w', r', o', few, many⟩ := u.closeFirst.closeLandmark_kept _ w false rfl
    rw [← done] at w' r' o' few many
    rw [list, ignored] at few many
    exact ⟨w', r', o'.trans opened, few, many⟩
  refine ⟨?_, fun shut => ?_, openCase⟩
  · cases h : u.lmWindow with
    | none => rw [shutCase h, opened]
    | some w => exact (openCase w h).2.2.1
  · rw [shutCase shut]
    exact ⟨list, ignored⟩

/-- The last landmark at or before a peak, as the last of those that qualify (R102). -/
theorem lastLandmark_eq (marks : List LandmarkRecord) (peak : Nat) :
    lastLandmark marks peak = (marks.filter fun l => l.peak ≤ peak).getLast? := by
  have general : ∀ found, marks.foldl (fun found l => if l.peak ≤ peak then some l else found) found
      = ((marks.filter fun l => l.peak ≤ peak).getLast?).or found := by
    induction marks with
    | nil => intro found; rfl
    | cons l rest ih =>
      intro found
      rw [List.foldl_cons, ih]
      by_cases before : l.peak ≤ peak
      · simp only [before, if_true, List.filter_cons, decide_true, List.getLast?_cons]
        cases (rest.filter fun l => l.peak ≤ peak).getLast? <;> rfl
      · simp [before]
  exact (general none).trans (Option.or_none)

theorem offsetMm_eq (a b : Nat) : offsetMm a b = min 30000 ((2 * ((b : Int) - a).natAbs + 10) / 20) := by
  have apart : ((b : Int) - a).natAbs = (a - b) + (b - a) := by omega
  rw [apart]
  rfl

/-- The class that applies first, with the depth it has (R103). -/
theorem classify_spec (marks : List LandmarkRecord) (c : CalRef) (peak theta : Nat) :
    if ∃ l ∈ marks, l.first ≤ peak ∧ peak ≤ l.last then
      classify marks c peak theta = (.atLandmark, none, .none)
    else if 1800 ≤ theta then classify marks c peak theta = (.distorted, none, .none)
    else classify marks c peak theta = (.sized, depthStage c.points theta) := by
  unfold classify
  simp only [List.any_eq_true, decide_eq_true_eq]
  split
  · rfl
  · split <;> rfl

/-- An indication as finalisation locates and measures it (R102, R103, R114). -/
theorem ScreenState.locate_spec (v : ScreenState) (i : Indication) :
    let r := v.locate i
    let at? := (v.landmarks.filter fun l => l.peak ≤ i.peak).getLast?
    let ref := (at?.map (·.position)).getD v.firstPos
    r.ind = i ∧ r.landmark = at?.map (·.seq)
      ∧ r.offset = min 30000 ((2 * ((i.peakPos : Int) - ref).natAbs + 10) / 20)
      ∧ (v.params.cal = none → r.sizing = none)
      ∧ ∀ c, v.params.cal = some c → ∃ z, r.sizing = some z
          ∧ z.theta = (i.rawPhase + c.rho) % 3600
          ∧ (0 < c.aRef → z.calAmp = min 65535 ((2 * (i.rawAmp * 500) + c.aRef) / (2 * c.aRef)))
          ∧ (if ∃ l ∈ v.landmarks, l.first ≤ i.peak ∧ i.peak ≤ l.last then
               z.cls = .atLandmark ∧ z.depth = none ∧ z.limit = .none
             else if 1800 ≤ z.theta then z.cls = .distorted ∧ z.depth = none ∧ z.limit = .none
             else z.cls = .sized ∧ (z.depth, z.limit) = depthStage c.points z.theta) := by
  intro r at? ref
  have marked : lastLandmark v.landmarks i.peak = at? := lastLandmark_eq _ _
  have place : (match lastLandmark v.landmarks i.peak with
      | some r => r.position
      | none => v.firstPos) = ref := by
    rw [marked]
    simp only [ref]
    cases at? <;> rfl
  refine ⟨rfl, congrArg (Option.map LandmarkRecord.seq) marked, ?_, fun uncal => ?_, fun c cal => ?_⟩
  · have offset : r.offset = offsetMm ref i.peakPos := congrArg (offsetMm · i.peakPos) place
    rw [offset, offsetMm_eq]
  · exact congrArg (Option.map fun c => sizingOf v.landmarks c i) uncal
  · refine ⟨sizingOf v.landmarks c i, congrArg (Option.map fun c => sizingOf v.landmarks c i) cal, rfl, fun _ => rfl, ?_⟩
    have spec := classify_spec v.landmarks c i.peak (rotate c.rho i.rawPhase)
    change if _ then _ else if 1800 ≤ rotate c.rho i.rawPhase then _ else _
    split at spec
    · next within =>
      rw [if_pos within]
      simp only [sizingOf, spec, and_self]
    · next beside =>
      rw [if_neg beside]
      split at spec
      · next distorted =>
        rw [if_pos distorted]
        simp only [sizingOf, spec, and_self]
      · next sized =>
        rw [if_neg sized]
        simp only [sizingOf, spec, and_self]

/-! The automatic call (R106). -/

theorem reportableRecord_eq (least : Nat) (r : IndicationRecord) :
    reportableRecord least r
      = r.sizing.any fun z => z.cls == .sized && z.depth.any fun d => decide (least ≤ d) := by
  unfold reportableRecord
  cases r.sizing with
  | none => rfl
  | some z =>
    rw [Option.any_some]
    cases depth : z.depth with
    | none => simp [depth]
    | some d => simp [depth, Bool.decide_and, beq_eq_decide]

/-- A reportable record has a depth (R106). -/
theorem depth_of_reportable (least : Nat) (r : IndicationRecord) (h : reportableRecord least r = true) :
    ∃ d, r.sizing.bind (·.depth) = some d := by
  rw [reportableRecord_eq, Option.any_eq_true] at h
  obtain ⟨z, sizing, sized⟩ := h
  rw [Bool.and_eq_true, Option.any_eq_true] at sized
  obtain ⟨_, d, depth, _⟩ := sized
  exact ⟨d, by rw [sizing, Option.bind_some, depth]⟩

section AutomaticCall
variable (least : Nat) (fl : TraverseFlags) (rs : List IndicationRecord) (time id : Nat)

theorem automaticCall_unusable
    (h : fl.any = true ∨ 8 < (rs.filter (reportableRecord least)).length) :
    (automaticCall least fl rs time id).kind = .notUsable ∧ (automaticCall least fl rs time id).entries = [] := by
  have bad : (fl.any || decide (Config.maxCallEntries < (rs.filter (reportableRecord least)).length)) = true := by
    rw [Bool.or_eq_true, decide_eq_true_eq]
    exact h
  simp [automaticCall, bad]

theorem automaticCall_usable (flags : fl.any = false) (few : (rs.filter (reportableRecord least)).length ≤ 8) :
    (rs.filter (reportableRecord least) = [] →
      (automaticCall least fl rs time id).kind = .ndd ∧ (automaticCall least fl rs time id).entries = [])
    ∧ (rs.filter (reportableRecord least) ≠ [] →
      (automaticCall least fl rs time id).kind = .indications
        ∧ (automaticCall least fl rs time id).entries = (rs.filter (reportableRecord least)).map autoEntry) := by
  have good : (fl.any || decide (Config.maxCallEntries < (rs.filter (reportableRecord least)).length)) = false := by
    rw [flags, Bool.false_or, decide_eq_false_iff_not]
    exact Nat.not_lt.2 few
  refine ⟨fun none_ => ?_, fun some_ => ?_⟩
  · simp [automaticCall, flags, none_]
  · simp only [automaticCall, good, Bool.false_eq_true, if_false, if_neg some_, if_true, and_self]

/-- The last part of O37: the automatic call (R106). -/
theorem automaticCall_spec :
    let call := automaticCall least fl rs time id
    let found := rs.filter fun r =>
      r.sizing.any fun z => z.cls == .sized && z.depth.any fun d => decide (least ≤ d)
    call.source = .automatic ∧ call.time = time ∧ call.traverse = id
    ∧ (fl.truncated = true ∨ fl.lostSamples = true ∨ fl.landmarkMismatch = true
        ∨ fl.indicationExcess = true ∨ 8 < found.length →
        call.kind = .notUsable ∧ call.entries = [])
    ∧ (fl = ⟨false, false, false, false⟩ → found = [] → call.kind = .ndd ∧ call.entries = [])
    ∧ (fl = ⟨false, false, false, false⟩ → found ≠ [] → found.length ≤ 8 →
        call.kind = .indications ∧ call.entries.length = found.length
        ∧ ∀ (k : Nat) (r : IndicationRecord) (y : CallEntry),
            found[k]? = some r → call.entries[k]? = some y →
            y.landmark = r.landmark ∧ y.offset = r.offset ∧ y.classCode = 0
            ∧ r.sizing.bind (·.depth) = some y.depth) := by
  intro call found
  have same : found = rs.filter (reportableRecord least) :=
    List.filter_congr fun r _ => (reportableRecord_eq least r).symm
  refine ⟨rfl, rfl, rfl, fun bad => ?_, fun clear none_ => ?_, fun clear some_ few => ?_⟩
  · refine automaticCall_unusable least fl rs time id ?_
    rw [← same]
    simp only [TraverseFlags.any, Bool.or_eq_true]
    tauto
  · rw [same] at none_
    subst clear
    exact (automaticCall_usable least ⟨false, false, false, false⟩ rs time id rfl (by rw [none_]; exact Nat.zero_le _)).1 none_
  · rw [same] at some_ few
    subst clear
    obtain ⟨kind, entries⟩ := (automaticCall_usable least ⟨false, false, false, false⟩ rs time id rfl few).2 some_
    rw [same]
    refine ⟨kind, by rw [entries, List.length_map], fun k r y hr hy => ?_⟩
    rw [entries, List.getElem?_map, hr] at hy
    cases hy
    obtain ⟨d, depth⟩ := depth_of_reportable least r (List.mem_filter.1 (List.mem_of_getElem? hr)).2
    exact ⟨rfl, rfl, rfl, by simp only [autoEntry, depth, Option.getD_some]⟩

end AutomaticCall

/-- The third part of O37: the findings of a traverse (R101 to R105). -/
theorem finalise_spec (u : ScreenState) :
    let f := u.finalise
    let marks := f.landmarks.records
    (f.excess = true ↔ 0 < f.indications.excess)
    ∧ (f.mismatch = true ↔
        ∃ n, u.params.expected = some n ∧ marks.length + f.landmarks.ignored ≠ n)
    ∧ (u.lmWindow = none → f.landmarks = ⟨u.landmarks, u.ignored⟩)
    ∧ (∀ w, u.lmWindow = some w → f.landmarks =
        if u.landmarks.length < 48 then
          ⟨u.landmarks ++ [⟨u.landmarks.length + 1, w.first, w.last, w.peak, w.peakM, w.peakPos,
            false⟩], u.ignored⟩
        else ⟨u.landmarks, u.ignored + 1⟩)
    ∧ f.opened = u.opened ∧ f.closed = u.closed + (if u.window.isSome then 1 else 0)
    ∧ (u.window = none →
        f.indications.records.map (·.ind) = u.indications ∧ f.indications.excess = u.excess)
    ∧ (∀ w, u.window = some w →
        (64 ≤ u.indications.length →
          f.indications.records.map (·.ind) = u.indications ∧ f.indications.excess = u.excess + 1)
        ∧ (u.indications.length < 64 → f.indications.excess = u.excess
            ∧ ∃ i, f.indications.records.map (·.ind) = u.indications ++ [i]
              ∧ i.seq = u.indications.length + 1 ∧ i.first = w.first ∧ i.last = w.last
              ∧ i.peak = w.peak ∧ i.peakPos = w.peakPos ∧ i.capped = false)) := by
  intro f marks
  obtain ⟨params, _⟩ := u.closeOpen_keeps
  obtain ⟨opened, noLandmark, landmark⟩ := u.closeOpen_landmarks
  obtain ⟨noWindow, window⟩ := u.closeOpen_indications
  have records : f.indications.records.map (·.ind) = u.closeOpen.indications := by
    simp only [f, ScreenState.finalise, List.map_map]
    exact List.map_id _
  have mismatch : f.mismatch = match u.params.expected with
      | none => false
      | some n => decide (marks.length + f.landmarks.ignored ≠ n) := by
    rw [← params]
    rfl
  refine ⟨decide_eq_true_iff, ?_, fun shut => ?_, fun w openW => ?_, opened, ?_, fun shut => ?_, fun w openW => ?_⟩
  · rw [mismatch]
    cases u.params.expected with
    | none => simp
    | some n => simp
  · obtain ⟨list, ignored⟩ := noLandmark shut
    simp only [f, ScreenState.finalise, list, ignored]
  · obtain ⟨_, _, _, few, many⟩ := landmark w openW
    by_cases room : u.landmarks.length < 48
    · obtain ⟨ignored, list⟩ := few room
      rw [if_pos room]
      simp only [f, ScreenState.finalise, list, ignored]
    · obtain ⟨list, ignored⟩ := many (Nat.not_lt.1 room)
      rw [if_neg room]
      simp only [f, ScreenState.finalise, list, ignored]
  · cases openW : u.window with
    | none => exact (noWindow openW).2.2
    | some w =>
      obtain ⟨_, closed, _⟩ := window w openW
      exact closed
  · rw [records]
    exact ⟨(noWindow shut).1, (noWindow shut).2.1⟩
  · rw [records]
    obtain ⟨_, _, few, many⟩ := window w openW
    exact ⟨many, few⟩

/-- Settles O37: `State.finishPull_completes` for both kinds of pull, `finalise_spec` and `ScreenState.locate_spec`
for the findings, and `automaticCall_spec` for the call. -/
theorem pullEndCompletesTheTraverse : Obligations.PullEndCompletesTheTraverse := by
  refine ⟨fun ch s tr u p x e b up hand own target written pulling opened screening named bufA bufB session tube
      claimed permit => ?_,
    fun ch s tr u std a x up hand own target written calibrating screening named bufA bufB session attempt => ?_,
    fun u => ?_, automaticCall_spec⟩
  · exact execPullEnd_inspection ch s tr u p x e b up hand own target written pulling opened screening named bufA bufB
      session tube claimed permit
  · exact execPullEnd_calibration ch s tr u std a x up hand own target written calibrating screening named bufA bufB
      session attempt
  · obtain ⟨excess, mismatch, shut, openL, opened, closed, none_, some_⟩ := finalise_spec u
    refine ⟨excess, mismatch, shut, openL, opened, closed, none_, some_, fun r mem => ?_⟩
    obtain ⟨i, _, rfl⟩ := List.mem_map.1 mem
    obtain ⟨params, first⟩ := u.closeOpen_keeps
    obtain ⟨_, landmark, offset, uncal, sized⟩ := u.closeOpen.locate_spec i
    rw [first] at offset
    rw [params] at uncal sized
    exact ⟨landmark, offset, uncal, sized⟩

end Sys2Proof.Machine
end

section
namespace Sys2Proof.Machine

/-! The arbiter once more (R78): what it leaves, and that it acts once. -/

/-- An arbiter that leaves the port free has granted nothing. -/
theorem State.arbitrate_of_free (s : State) (free : s.arbitrate.store.port = .free) : s.arbitrate = s := by
  have write (ch : Chan) (h : (s.grantWrite ch).store.port = .free) : s.grantWrite ch = s := by
    unfold State.grantWrite at h ⊢
    split
    · rfl
    · split
      · next e rest lane _ _ page pool u popped found =>
        simp only [lane, popped, found] at h
        exact nomatch h
      · rfl
  have fetch (st : Stn) (h : (s.grantFetch st).store.port = .free) : s.grantFetch st = s := by
    unfold State.grantFetch at h ⊢
    split
    · rfl
    · next r running =>
      simp only [running] at h
      exact nomatch h
  by_cases port : s.store.port = .free
  · rcases s.arbitrate_cases port with ⟨ch, _, _, _, granted⟩ | ⟨_, ⟨st, _, _, granted⟩ | ⟨_, still⟩⟩
    · rw [granted] at free ⊢
      exact write ch free
    · rw [granted] at free ⊢
      exact fetch st free
    · exact still
  · exact s.arbitrate_busy port

theorem State.arbitrate_arbitrate (s : State) : s.arbitrate.arbitrate = s.arbitrate := by
  by_cases free : s.arbitrate.store.port = .free
  · rw [s.arbitrate_of_free free, s.arbitrate_of_free free]
  · exact s.arbitrate.arbitrate_busy free

/-- A granted write changes the entry of its own traverse only. -/
theorem State.trav_grantWrite_other (s : State) (ch : Chan) (n : Nat)
    (absent : ∀ e ∈ s.store.lanes.get ch, e.traverse ≠ n) : (s.grantWrite ch).trav? n = s.trav? n := by
  unfold State.grantWrite
  split
  · rfl
  · next e rest lane =>
    have other : n ≠ e.traverse := fun same => absent e (by rw [lane]; exact List.mem_cons_self) same.symm
    split
    · exact s.trav_modTrav_other e.traverse n _ (fun _ => rfl) other
    · rfl

theorem State.trav_grantFetch (s : State) (st : Stn) (n : Nat) : (s.grantFetch st).trav? n = s.trav? n := by
  unfold State.grantFetch
  split
  · rfl
  · rfl

/-- The arbiter leaves the entry of a traverse with no page in a lane. -/
theorem State.trav_arbitrate_of_absent (s : State) (n : Nat)
    (absent : ∀ k, ∀ e ∈ s.store.lanes.get k, e.traverse ≠ n) : s.arbitrate.trav? n = s.trav? n := by
  by_cases port : s.store.port = .free
  · rcases s.arbitrate_cases port with ⟨ch, _, _, _, granted⟩ | ⟨_, ⟨st, _, _, granted⟩ | ⟨_, still⟩⟩
    · rw [granted, s.trav_grantWrite_other ch n (absent ch)]
    · rw [granted, s.trav_grantFetch st n]
    · rw [still]
  · rw [s.arbitrate_busy port]

/-- The arbiter leaves all of an entry but its pages. -/
theorem State.unpaged_arbitrate (s : State) (n : Nat) :
    (s.arbitrate.trav? n).map Traverse.unpaged = (s.trav? n).map Traverse.unpaged := by
  by_cases port : s.store.port = .free
  · rcases s.arbitrate_cases port with ⟨ch, _, _, _, granted⟩ | ⟨_, ⟨st, _, _, granted⟩ | ⟨_, still⟩⟩
    · rw [granted, s.unpaged_grantWrite ch n]
    · rw [granted, s.trav_grantFetch st n]
    · rw [still]
  · rw [s.arbitrate_busy port]

/-- The arbiter changes a station link by the fetch it grants only (R78). -/
theorem State.stn_arbitrate (s : State) (k : Stn) :
    { s.arbitrate.stn k with stream := none } = { s.stn k with stream := none }
      ∧ ((s.arbitrate.stn k).stream = (s.stn k).stream
        ∨ (s.stn k).fetchWaiting = true
          ∧ (s.arbitrate.stn k).stream = (s.stn k).stream.map fun r => { r with fetch := .fetching }) := by
  cases idle : (s.stn k).fetchWaiting with
  | false =>
    rw [s.stn_arbitrate_of_idle k idle]
    exact ⟨rfl, .inl rfl⟩
  | true =>
    have fetch (st : Stn) : { (s.grantFetch st).stn k with stream := none } = { s.stn k with stream := none }
        ∧ (((s.grantFetch st).stn k).stream = (s.stn k).stream
          ∨ ((s.grantFetch st).stn k).stream = (s.stn k).stream.map fun r => { r with fetch := .fetching }) := by
      unfold State.grantFetch
      split
      · exact ⟨rfl, .inl rfl⟩
      · rw [State.stn_modStore, State.modStream, State.stn_modStn]
        split
        · exact ⟨rfl, .inr rfl⟩
        · exact ⟨rfl, .inl rfl⟩
    by_cases port : s.store.port = .free
    · rcases s.arbitrate_cases port with ⟨ch, _, _, _, granted⟩ | ⟨_, ⟨st, _, _, granted⟩ | ⟨_, still⟩⟩
      · rw [granted, State.stn, State.stations_grantWrite]
        exact ⟨rfl, .inl rfl⟩
      · rw [granted]
        exact ⟨(fetch st).1, (fetch st).2.imp id fun h => ⟨rfl, h⟩⟩
      · rw [still]
        exact ⟨rfl, .inl rfl⟩
    · rw [s.arbitrate_busy port]
      exact ⟨rfl, .inl rfl⟩

end Sys2Proof.Machine
end

section
namespace Sys2Proof.Machine

/-! The end of a page write before the arbiter looks (R64, R77, R81). -/

/-- One page more of a traverse is written, and one less in write. -/
def Traverse.pageEnded (t : Traverse) : Traverse := { t with written := t.written + 1, inWrite := t.inWrite - 1 }

/-- An entry but for what the end of a page write counts. -/
def Traverse.unwritten (t : Traverse) : Traverse := { t with written := 0, inWrite := 0 }

/-- A channel with buffer `i` written, and its held buffer handed over. -/
def Channel.freed (c : Channel) (i : BufId) : Channel :=
  let d := c.modBuf i fun _ => PageBuffer.empty
  if (c.buf i.other).state = .held then d.modBuf i.other fun b => { b with state := .inWrite } else d

theorem Channel.freed_eq (c : Channel) (i : BufId) : ∃ a b, c.freed i = { c with bufA := a, bufB := b } := by
  unfold Channel.freed
  dsimp only
  split <;> cases i <;> exact ⟨_, _, rfl⟩

theorem Channel.buf_freed (c : Channel) (i : BufId) :
    (c.freed i).buf i = PageBuffer.empty
      ∧ ((c.buf i.other).state ≠ .held → (c.freed i).buf i.other = c.buf i.other)
      ∧ ((c.buf i.other).state = .held → (c.freed i).buf i.other = { c.buf i.other with state := .inWrite }) := by
  unfold Channel.freed
  dsimp only
  refine ⟨?_, fun free => ?_, fun held => ?_⟩
  · split <;> cases i <;> rfl
  · rw [if_neg free]
    cases i <;> rfl
  · rw [if_pos held]
    cases i <;> rfl

/-- The written page counted for its traverse, if it has one. -/
def State.countPage (s : State) : Option Nat → State
  | none => s
  | some id => s.modTrav id Traverse.pageEnded

/-- The state at the end of a page write from buffer `i` of `ch`, before the arbiter looks. -/
def State.afterWrite (s : State) (ch : Chan) (i : BufId) (traverse : Option Nat) (page : Nat) (bytes : List Byte) :
    State :=
  let v := ((s.pageWritten page bytes).countPage traverse).modChan ch fun c => c.modBuf i fun _ => PageBuffer.empty
  if ((s.chan ch).buf i.other).state = .held then v.joinLane ch i.other false false else v

/-- What follows the grant: the traverse completes, is reported or released (R71, R72, R84). -/
def State.writeSettled (s : State) : Option Nat → State
  | none => s
  | some id => ((s.tryComplete id).reportAbort id).testRelease id

theorem State.channels_joinLane (s : State) (ch : Chan) (i : BufId) (last aborted : Bool) :
    (s.joinLane ch i last aborted).channels
      = s.channels.set ch ((s.chan ch).modBuf i fun b => { b with state := .inWrite }) := rfl

section AfterWrite
variable (s : State) (ch : Chan) (i : BufId) (traverse : Option Nat) (page : Nat) (bytes : List Byte)

theorem State.countPage_frame :
    let v := (s.pageWritten page bytes).countPage traverse
    v.channels = s.channels ∧ v.stations = s.stations ∧ v.session = s.session ∧ v.cal = s.cal
      ∧ v.comparisons = s.comparisons ∧ v.config = s.config := by
  cases traverse <;> exact ⟨rfl, rfl, rfl, rfl, rfl, rfl⟩

theorem State.writeEnded_eq :
    s.writeEnded ch i traverse page bytes
      = (s.afterWrite ch i traverse page bytes).arbitrate.writeSettled traverse := by
  have freed : ((((s.pageWritten page bytes).countPage traverse).freeBuffer ch i).arbitrate)
      = (s.afterWrite ch i traverse page bytes).arbitrate := by
    let v := (s.pageWritten page bytes).countPage traverse
    let w := v.modChan ch fun c => c.modBuf i fun _ => PageBuffer.empty
    have own : v.chan ch = s.chan ch := congrArg (·.get ch) (s.countPage_frame traverse page bytes).1
    have other : (w.chan ch).buf i.other = (s.chan ch).buf i.other := by
      rw [State.chan_modChan_self, (Channel.buf_modBuf _ _ _).2, own]
    change (if ((w.chan ch).buf i.other).state = .held then w.handOver ch i.other false false else w).arbitrate = _
    rw [other]
    unfold State.afterWrite
    split
    · exact State.arbitrate_arbitrate _
    · rfl
  cases traverse with
  | none => exact freed
  | some id => exact congrArg (fun v => ((State.tryComplete v id).reportAbort id).testRelease id) freed

/-- The parts of the state that the end of a page write leaves to its channel's buffers and the store. -/
theorem State.afterWrite_frame :
    let v := s.afterWrite ch i traverse page bytes
    v.channels = s.channels.set ch ((s.chan ch).freed i)
      ∧ v.stations = s.stations ∧ v.session = s.session ∧ v.cal = s.cal ∧ v.comparisons = s.comparisons
      ∧ v.config = s.config := by
  obtain ⟨channels, rest⟩ := s.countPage_frame traverse page bytes
  have own : ((s.pageWritten page bytes).countPage traverse).chan ch = s.chan ch := congrArg (·.get ch) channels
  have emptied : (((s.pageWritten page bytes).countPage traverse).modChan ch
        fun c => c.modBuf i fun _ => PageBuffer.empty).channels
      = s.channels.set ch ((s.chan ch).modBuf i fun _ => PageBuffer.empty) := by
    rw [State.channels_modChan, own, channels]
  refine ⟨?_, ?_⟩
  · unfold State.afterWrite Channel.freed
    dsimp only
    split
    · rw [State.channels_joinLane, State.chan, emptied, Four.get_set_self, Four.set_set]
    · exact emptied
  · unfold State.afterWrite
    dsimp only
    split <;> exact rest

/-- The store at the end of a page write but for the directory (R77, R81). -/
theorem State.afterWrite_store :
    let x := (s.afterWrite ch i traverse page bytes).store
    x.port = .free ∧ x.lanes = s.lanesAfterWrite ch i
      ∧ x.pool = s.store.pool ∧ x.reservedPages = s.store.reservedPages ∧ x.lastWrite = s.store.lastWrite
      ∧ x.lastFetch = s.store.lastFetch := by
  obtain ⟨channels, _⟩ := s.countPage_frame traverse page bytes
  have own : ((s.pageWritten page bytes).countPage traverse).chan ch = s.chan ch := congrArg (·.get ch) channels
  have counted : ∀ x, ((s.pageWritten page bytes).countPage traverse).store = x →
      x.port = .free ∧ x.lanes = s.store.lanes ∧ x.pool = s.store.pool ∧ x.reservedPages = s.store.reservedPages
      ∧ x.lastWrite = s.store.lastWrite ∧ x.lastFetch = s.store.lastFetch := by
    rintro x rfl
    cases traverse <;> exact ⟨rfl, rfl, rfl, rfl, rfl, rfl⟩
  obtain ⟨port, lanes, rest⟩ := counted _ rfl
  unfold State.afterWrite State.lanesAfterWrite
  dsimp only
  split
  · refine ⟨port, ?_, rest⟩
    have other : ((((s.pageWritten page bytes).countPage traverse).modChan ch
        fun c => c.modBuf i fun _ => PageBuffer.empty).chan ch).buf i.other = (s.chan ch).buf i.other := by
      rw [State.chan_modChan_self, (Channel.buf_modBuf _ _ _).2, own]
    rw [State.joinLane, other]
    change Four.set ((s.pageWritten page bytes).countPage traverse).store.lanes ch _ = _
    rw [← lanes]
    rfl
  · exact ⟨port, lanes, rest⟩

/-- The entry of a traverse at the end of a page write: pages are counted, and nothing else (R77, R81). -/
theorem State.afterWrite_trav (n : Nat) :
    ((s.afterWrite ch i traverse page bytes).trav? n).map Traverse.unwritten
      = (s.trav? n).map Traverse.unwritten := by
  have counted : (((s.pageWritten page bytes).countPage traverse).trav? n).map Traverse.unwritten
      = (s.trav? n).map Traverse.unwritten := by
    cases traverse with
    | none => rfl
    | some id =>
      rw [State.countPage, State.trav?_modTrav _ _ _ _ (by exact fun _ => rfl), Option.map_map]
      refine Option.map_congr fun t _ => ?_
      rw [Function.comp_apply]
      split <;> rfl
  unfold State.afterWrite
  dsimp only
  split
  · rw [← counted]
    refine (congrArg (Option.map Traverse.unwritten)
      (State.trav?_modTrav _ _ n _ (by exact fun _ => rfl))).trans ?_
    rw [Option.map_map]
    refine Option.map_congr fun t _ => ?_
    rw [Function.comp_apply]
    split <;> rfl
  · exact counted

/-- The entry of the traverse whose page is written: the page handed over counts where it is of this traverse. -/
theorem State.afterWrite_written (tr : Traverse) (live : s.trav? tr.id = some tr) :
    ∃ n, (s.afterWrite ch i (some tr.id) page bytes).trav? tr.id = some { tr.pageEnded with inWrite := n }
      ∧ tr.inWrite - 1 ≤ n
      ∧ (((s.chan ch).buf i.other).state ≠ .held ∨ ((s.chan ch).buf i.other).traverse ≠ tr.id →
          n = tr.inWrite - 1) := by
  let v := ((s.pageWritten page bytes).countPage (some tr.id)).modChan ch fun c => c.modBuf i fun _ => PageBuffer.empty
  have counted : v.trav? tr.id = some tr.pageEnded :=
    State.trav_modTrav_self _ tr.id Traverse.pageEnded tr (fun _ => rfl) live
  have other : (v.chan ch).buf i.other = (s.chan ch).buf i.other := by
    rw [State.chan_modChan_self, (Channel.buf_modBuf _ _ _).2]
    rfl
  by_cases held : ((s.chan ch).buf i.other).state = .held
  · have joins : s.afterWrite ch i (some tr.id) page bytes = v.joinLane ch i.other false false := if_pos held
    rw [joins]
    by_cases same : ((s.chan ch).buf i.other).traverse = tr.id
    · have joined := v.trav_joinLane ch i.other false false tr.pageEnded counted (by rw [other]; exact same)
      refine ⟨tr.inWrite - 1 + 1, joined, by omega, fun h => absurd same (h.resolve_left (· held))⟩
    · refine ⟨tr.inWrite - 1, ?_, le_refl _, fun _ => rfl⟩
      refine Eq.trans ?_ counted
      refine State.trav_modTrav_other _ _ tr.id _ (fun _ => rfl) ?_
      rw [other]
      exact Ne.symm same
  · have stays : s.afterWrite ch i (some tr.id) page bytes = v := if_neg held
    rw [stays]
    exact ⟨tr.inWrite - 1, counted, le_refl _, fun _ => rfl⟩

end AfterWrite

end Sys2Proof.Machine
end

section
namespace Sys2Proof.Machine

/-! Acts that follow a page write: what a completion, a report and a release leave (R71, R72, R84). -/

/-- The port, its lanes and its rotation points, and the DDR store. -/
def Store.carriage (x : Store) : Port × Four (List LaneEntry) × Chan × Stn × List Host.Cell :=
  (x.port, x.lanes, x.lastWrite, x.lastFetch, x.ddr)

/-- The page buffers of a channel. -/
def Channel.buffers (c : Channel) : PageBuffer × PageBuffer := (c.bufA, c.bufB)

theorem Channel.buf_of_buffers (c d : Channel) (h : c.buffers = d.buffers) (i : BufId) : c.buf i = d.buf i := by
  cases i
  · exact congrArg Prod.fst h
  · exact congrArg Prod.snd h

/-- The brackets and the log of the Calibration Unit. -/
def Calibration.shelf (c : Calibration) : List Bracket × List LogEntry := (c.brackets, c.log)

/-- An act from `s` to `t` that leaves the port and the lanes, the page buffers, the brackets, the calibration log,
the configuration, and of the station links all but their events. -/
structure State.Settles (s t : State) : Prop where
  carriage : t.store.carriage = s.store.carriage
  links : ∀ k, (t.stn k).unheard = (s.stn k).unheard
  buffers : ∀ k, (t.chan k).buffers = (s.chan k).buffers
  shelf : t.cal.shelf = s.cal.shelf
  config : t.config = s.config

theorem State.Settles.refl (s : State) : State.Settles s s := ⟨rfl, fun _ => rfl, fun _ => rfl, rfl, rfl⟩

theorem State.Settles.trans {s t u : State} (h : State.Settles s t) (k : State.Settles t u) : State.Settles s u :=
  ⟨k.carriage.trans h.carriage, fun n => (k.links n).trans (h.links n), fun n => (k.buffers n).trans (h.buffers n),
    k.shelf.trans h.shelf, k.config.trans h.config⟩

section Settles
variable {s u : State}

/-- An act on the Traverse Store Controller, the session and the comparisons. -/
theorem State.Settles.ofStore (h : State.Settles s u) (t : State) (carriage : t.store.carriage = u.store.carriage)
    (stations : t.stations = u.stations) (channels : t.channels = u.channels) (cal : t.cal = u.cal)
    (config : t.config = u.config) : State.Settles s t :=
  h.trans ⟨carriage, fun k => by rw [State.stn, stations, State.stn], fun k => by rw [State.chan, channels, State.chan],
    by rw [cal], config⟩

theorem State.Settles.raise (h : State.Settles s u) {e : Event} : State.Settles s (u.raise e) :=
  h.trans ⟨rfl, fun k => u.unheard_raise e k, fun _ => rfl, rfl, rfl⟩

theorem State.Settles.modTrav (h : State.Settles s u) {id : Nat} {f : Traverse → Traverse} :
    State.Settles s (u.modTrav id f) := h.ofStore _ rfl rfl rfl rfl rfl

theorem State.Settles.modStore (h : State.Settles s u) {f : Store → Store}
    (carriage : ∀ x, (f x).carriage = x.carriage := by intro x; rfl) : State.Settles s (u.modStore f) :=
  h.ofStore _ (carriage _) rfl rfl rfl rfl

theorem State.Settles.modChan (h : State.Settles s u) {ch : Chan} {f : Channel → Channel}
    (buffers : ∀ c, (f c).buffers = c.buffers := by intro c; rfl) : State.Settles s (u.modChan ch f) := by
  refine h.trans ⟨rfl, fun _ => rfl, fun k => ?_, rfl, rfl⟩
  by_cases same : k = ch
  · subst same
    rw [State.chan_modChan_self, buffers]
  · rw [State.chan_modChan_other _ _ _ _ same]

theorem State.Settles.watchStore (h : State.Settles s u) : State.Settles s u.watchStore := by
  unfold State.watchStore
  extract_lets v
  (repeat' split)
  · exact h.modStore.raise
  · exact h.modStore.raise
  · exact h

theorem State.Settles.returnReservation (h : State.Settles s u) {id keep : Nat} :
    State.Settles s (u.returnReservation id keep) := by
  unfold State.returnReservation
  split
  · exact h
  · exact h.modTrav.modStore.watchStore

theorem State.Settles.sendProbe (h : State.Settles s u) {ch : Chan} {f : ProbeOut} :
    State.Settles s (u.sendProbe ch f) :=
  h.modChan fun c => by
    split <;> rfl

theorem State.Settles.setChan (h : State.Settles s u) {ch : Chan} {new : ChanState} :
    State.Settles s (u.setChan ch new) := by
  unfold State.setChan
  split
  · exact h
  · exact h.modChan.raise

theorem State.Settles.refreshPermit (h : State.Settles s u) {ch : Chan} : State.Settles s (u.refreshPermit ch) := by
  unfold State.refreshPermit
  dsimp only
  (repeat' split)
  · exact h
  · exact h.modChan
  · exact h.modChan.sendProbe

theorem State.Settles.acquireTube (h : State.Settles s u) {p : Pos} {id : Nat} {ch : Chan} :
    State.Settles s (u.acquireTube p id ch) := by
  have moved : State.Settles s (u.moveTube p .acquired TubeEntry.acquired) :=
    h.ofStore _ (by rw [State.store_moveTube]) (by simp) (by simp) (by simp) (by simp)
  have told := moved.raise (e := .tubeAcquired p id ch)
  exact told.ofStore (State.testComparison _ p) (congrArg Store.carriage (State.store_testComparison _ p))
    (State.stations_testComparison _ p) (State.channels_testComparison _ p) (State.cal_testComparison _ p)
    (State.config_testComparison _ p)

theorem State.Settles.completeTraverse (h : State.Settles s u) {t : Traverse} :
    State.Settles s (u.completeTraverse t) := by
  unfold State.completeTraverse
  extract_lets ch
  split
  · exact h
  · have noted {f : Traverse → Traverse} :
        State.Settles s (((u.modTrav t.id f).modChan ch fun c => { c with screen := .idle }).returnReservation t.id 0) :=
      h.modTrav.modChan.returnReservation
    split
    · exact noted.acquireTube.modChan.setChan.sendProbe.refreshPermit
    · exact noted.trans ⟨rfl, fun _ => rfl, fun _ => rfl, rfl, rfl⟩

theorem State.Settles.tryComplete (h : State.Settles s u) {id : Nat} : State.Settles s (u.tryComplete id) := by
  unfold State.tryComplete
  (repeat' split)
  · exact h
  · exact h.completeTraverse
  · exact h

theorem State.Settles.reportAbort (h : State.Settles s u) {id : Nat} : State.Settles s (u.reportAbort id) := by
  unfold State.reportAbort
  (repeat' split)
  · exact h
  · exact h.modChan.sendProbe
  · exact h

theorem State.Settles.testRelease (h : State.Settles s u) {id : Nat} : State.Settles s (u.testRelease id) := by
  unfold State.testRelease
  (repeat' split)
  · exact h
  · exact h.modStore.raise.watchStore
  · exact h.modTrav
  · exact h

theorem State.Settles.writeSettled (h : State.Settles s u) {traverse : Option Nat} :
    State.Settles s (u.writeSettled traverse) := by
  cases traverse with
  | none => exact h
  | some id => exact h.tryComplete.reportAbort.testRelease

end Settles

/-! The entry of the traverse whose page is written, to the end of the act. -/

/-- A traverse that is not ready is left by R71. -/
theorem State.tryComplete_unready (s : State) (id : Nat) (tr : Traverse) (live : s.trav? id = some tr)
    (busy : tr.state ≠ .finishing ∨ tr.inWrite ≠ 0) : s.tryComplete id = s := by
  have unready : s.readyToComplete tr = false := by
    rcases busy with other | writing
    · simp [State.readyToComplete, other]
    · simp [State.readyToComplete, writing]
  simp only [State.tryComplete, live, unready, Bool.false_eq_true, if_false]

/-- Nothing is reported but an abort the channel has still to report, with no page in write (R72). -/
theorem State.reportAbort_silent (s : State) (id : Nat) (tr : Traverse) (live : s.trav? id = some tr)
    (none_ : tr.state ≠ .aborted ∨ tr.inWrite ≠ 0 ∨ id ∉ (s.chan tr.channel).reports) : s.reportAbort id = s := by
  have silent : ¬(tr.state = .aborted ∧ tr.inWrite = 0 ∧ id ∈ (s.chan tr.channel).reports) := fun ⟨a, b, c⟩ =>
    none_.elim (· a) fun h => h.elim (· b) (· c)
  simp only [State.reportAbort, live, silent, if_false]

/-- R71 leaves the counts of pages of an entry. -/
theorem State.tryComplete_counts (s : State) (id : Nat) (w : Traverse) (live : s.trav? id = some w) :
    ∃ v, (s.tryComplete id).trav? id = some v ∧ v.written = w.written ∧ v.inWrite = w.inWrite := by
  have named := s.trav_id id w live
  subst named
  unfold State.tryComplete
  rw [live]
  dsimp only
  split
  · cases bound : (s.chan w.channel).screen.boundTo w.id with
    | none =>
      have stays : s.completeTraverse w = s := by simp only [State.completeTraverse, bound]
      rw [stays]
      exact ⟨w, live, rfl, rfl⟩
    | some u =>
      refine ⟨w.completed u s.time, ?_, rfl, rfl⟩
      rw [State.trav?, s.store_completeTraverse w u live bound]
      exact (s.findingsWritten_trav w u live).1
  · exact ⟨w, live, rfl, rfl⟩

/-- An entry that lasts to the end of the act has the counts and the state that R71 left. -/
theorem State.writeSettled_entry (s : State) (id : Nat) (v v' : Traverse)
    (completed : (s.tryComplete id).trav? id = some v) (lasts : (s.writeSettled (some id)).trav? id = some v') :
    v'.written = v.written ∧ v'.inWrite = v.inWrite ∧ v'.state = v.state := by
  have reported : ((s.tryComplete id).reportAbort id).trav? id = some v := by
    rw [State.trav?, State.store_reportAbort]
    exact completed
  obtain ⟨⟨_, _, goes, stays⟩, _⟩ := ((s.tryComplete id).reportAbort id).testRelease_goesOrStays id v reported
  cases freed : v.archived && v.settled && v.readers == 0 && v.inWrite == 0 with
  | true => exact nomatch (goes freed).1.symm.trans lasts
  | false =>
    obtain ⟨_, _, w, found, p, rfl, _⟩ := stays freed
    have same := Option.some.inj (found.symm.trans lasts)
    subst same
    exact ⟨rfl, rfl, rfl⟩

end Sys2Proof.Machine
end

section
namespace Sys2Proof.Machine

/-! The grant at the end of a transfer, seen from the state before the act (R78, R79). -/

/-- What a station hears does not turn on its stream. -/
theorem StationLink.hear_unstreamed (x : StationLink) (ready : Bool) (mode : Mode) (r : EventRecord) :
    { x.hear ready mode r with stream := none } = { x with stream := none }.hear ready mode r := by
  unfold StationLink.hear
  dsimp only
  split
  · split
    · rfl
    · split
      · unfold StationLink.offer
        dsimp only
        split <;> rfl
      · rfl
  · rfl

/-- The events raised by an act whose station links differ from those before it by their streams. -/
theorem State.raisedOnly_of (s m t : State) (es : List Event)
    (links : ∀ k, { m.stn k with stream := none } = { s.stn k with stream := none })
    (config : m.config = s.config) (session : m.session = s.session) (told : m.raised t es) : s.raisedOnly t es := by
  intro k
  rw [State.stn, told.1]
  change { (m.raiseAll es).stn k with stream := none } = _
  have mode := State.mode_of_session s m session
  have time := State.time?_of_session s m session
  clear told session
  unfold State.raiseAll
  induction es generalizing s m with
  | nil => exact links k
  | cons e es ih =>
    obtain ⟨_, _, mode_s, time_s⟩ := s.raised_raise e
    obtain ⟨_, _, mode_m, time_m⟩ := m.raised_raise e
    refine ih (s.raise e) (m.raise e) (fun k => ?_) ?_ (by rw [mode_m, mode_s, mode]) (by rw [time_m, time_s, time])
    · rw [State.stn_raise, State.stn_raise, StationLink.hear_unstreamed, StationLink.hear_unstreamed, links k, config,
        mode, time]
    · rw [State.config_raise, State.config_raise, config]

/-- The state `m` in which the arbiter looks, in an act that begins in `s` (R78): the port is free, the lanes are as
given, and the directory differs by its counts of pages only. -/
structure State.readies (s m : State) (lanes : Four (List LaneEntry)) : Prop where
  port : m.store.port = .free
  lanes : m.store.lanes = lanes
  pool : m.store.pool = s.store.pool
  reserved : m.store.reservedPages = s.store.reservedPages
  lastWrite : m.store.lastWrite = s.store.lastWrite
  lastFetch : m.store.lastFetch = s.store.lastFetch
  stations : m.stations = s.stations
  session : m.session = s.session
  entries : ∀ n, (m.trav? n).map Traverse.unwritten = (s.trav? n).map Traverse.unwritten

section Readies
variable {s m : State} {lanes : Four (List LaneEntry)} (h : s.readies m lanes)
include h

theorem State.readies.entry (n : Nat) (u : Traverse) (live : s.trav? n = some u) :
    ∃ v, m.trav? n = some v ∧ v.unwritten = u.unwritten := by
  have same := h.entries n
  rw [live] at same
  exact Option.map_eq_some_iff.1 same

theorem State.readies.pages (n : Nat) : (m.trav? n).map (·.pages) = (s.trav? n).map (·.pages) := by
  have same := congrArg (Option.map (·.pages)) (h.entries n)
  rw [Option.map_map, Option.map_map] at same
  exact same

theorem State.readies.due (ch : Chan) (e : LaneEntry) (rest : List LaneEntry) (due : s.writeDue lanes ch e rest) :
    m.writeDue m.store.lanes ch e rest := by
  rw [State.writeDue, h.lanes, h.lastWrite]
  exact due

/-- The port after an act that settles what the grant leaves (R78). -/
theorem State.readies.portPassesOn (t : State) (settles : State.Settles m.arbitrate t) :
    s.portPassesOn t lanes fun st => (s.stn st).fetchWaiting := by
  obtain ⟨writes, idle⟩ := m.arbitrate_portPassesOn h.port
  have port : t.store.port = m.arbitrate.store.port := congrArg (·.1) settles.carriage
  have carried : t.store.lanes = m.arbitrate.store.lanes := congrArg (·.2.1) settles.carriage
  have lastWrite : t.store.lastWrite = m.arbitrate.store.lastWrite := congrArg (·.2.2.1) settles.carriage
  have lastFetch : t.store.lastFetch = m.arbitrate.store.lastFetch := congrArg (·.2.2.2.1) settles.carriage
  have stream (k : Stn) : (t.stn k).stream = (m.arbitrate.stn k).stream :=
    StationLink.stream_eq_of_unheard _ _ (settles.links k)
  have waits (k : Stn) : (m.stn k).fetchWaiting = (s.stn k).fetchWaiting := by
    rw [State.stn, h.stations, State.stn]
  rw [h.lanes] at writes idle
  refine ⟨fun ch e rest page pool u due pop live => ?_, fun empty => ?_⟩
  · obtain ⟨v, entry, same⟩ := h.entry e.traverse u live
    have due' := h.due ch e rest due
    rw [h.lanes] at due'
    obtain ⟨granted, left, last, fetch⟩ := writes ch e rest page pool v due' (by rw [h.pool]; exact pop) entry
    have pages : v.pages = u.pages := (congrArg Traverse.pages same :)
    have time : m.time = s.time := State.time_congr s m h.session
    have buffer : (m.arbitrate.chan ch).buf e.buf = (t.chan ch).buf e.buf :=
      (Channel.buf_of_buffers _ _ (settles.buffers ch) e.buf).symm
    refine ⟨?_, carried.trans left, lastWrite.trans last, lastFetch.trans (fetch.trans h.lastFetch)⟩
    rw [port, granted, pages, buffer, time, pageImage_congr v u _ e _ _ _ (congrArg Traverse.id same :)
      (congrArg Traverse.channel same :) (congrArg Traverse.target same :) rfl rfl]
  · obtain ⟨left, last, fetches, rests⟩ := idle empty
    refine ⟨carried.trans left, lastWrite.trans (last.trans h.lastWrite), fun st waiting first => ?_, fun none_ => ?_⟩
    · obtain ⟨turn, r, running, fetching, granted⟩ := fetches st ((waits st).trans waiting) fun j before => by
        rw [h.lastFetch] at before
        exact (waits j).trans (first j before)
      have page : (m.trav? r.traverse).bind (fun u => u.pages[r.next]?)
          = (s.trav? r.traverse).bind fun u => u.pages[r.next]? := by
        have bound := congrArg (Option.bind · fun l : List Nat => l[r.next]?) (h.pages r.traverse)
        simpa [Option.bind_map, Function.comp_def] using bound
      exact ⟨lastFetch.trans turn, r, (stream st).trans running, fetching, port.trans (by rw [granted, page])⟩
    · obtain ⟨free, last⟩ := rests fun st => (waits st).trans (none_ st)
      exact ⟨port.trans free, lastFetch.trans (last.trans h.lastFetch)⟩

/-- What the grant takes, in an act that then frees and returns pages and leaves the entries of the lanes (R79). -/
theorem State.readies.pageTaken (t : State) (freed : List Nat) (returned : Nat)
    (pool : t.store.pool = poolAppend m.arbitrate.store.pool freed)
    (reserved : t.store.reservedPages = m.arbitrate.store.reservedPages - returned)
    (kept : ∀ k, ∀ e ∈ lanes.get k, t.trav? e.traverse = m.arbitrate.trav? e.traverse) :
    s.pageTaken t lanes freed returned := by
  obtain ⟨writes, idle⟩ := m.arbitrate_pageTaken h.port
  refine ⟨fun ch e rest page rest' u due pop live => ?_, fun empty => ?_⟩
  · obtain ⟨v, entry, same⟩ := h.entry e.traverse u live
    obtain ⟨left, used, w, found, pages, reservation⟩ :=
      writes ch e rest page rest' v (h.due ch e rest due) (by rw [h.pool]; exact pop) entry
    have mem : e ∈ lanes.get ch := by
      rw [due.1]
      exact List.mem_cons_self
    refine ⟨pool.trans (by rw [left]; rfl), reserved.trans (by rw [used, h.reserved]; rfl), w,
      (kept ch e mem).trans found, pages.trans ?_, reservation.trans ?_⟩
    · rw [show v.pages = u.pages from (congrArg Traverse.pages same :)]
    · rw [show v.reservation = u.reservation from (congrArg Traverse.reservation same :)]
  · obtain ⟨left, used⟩ := idle (by rw [h.lanes]; exact empty)
    exact ⟨pool.trans (by rw [left, h.pool]; rfl), reserved.trans (by rw [used, h.reserved]; rfl)⟩

theorem State.readies.links (k : Stn) :
    { m.arbitrate.stn k with stream := none } = { s.stn k with stream := none } := by
  rw [(m.stn_arbitrate k).1, State.stn, h.stations, State.stn]

end Readies

/-! PAGE_WRITE_END to the grant (R81). -/

/-- The state at the end of a page write, once the arbiter has granted the port. -/
def State.granted (s : State) (ch : Chan) (i : BufId) (traverse : Option Nat) (page : Nat) (bytes : List Byte) :
    State := (s.afterWrite ch i traverse page bytes).arbitrate

section Granted
variable (s : State) (ch : Chan) (i : BufId) (traverse : Option Nat) (page : Nat) (bytes : List Byte)

theorem State.readies_afterWrite :
    s.readies (s.afterWrite ch i traverse page bytes) (s.lanesAfterWrite ch i) := by
  obtain ⟨_, stations, session, _⟩ := s.afterWrite_frame ch i traverse page bytes
  obtain ⟨port, lanes, pool, reserved, lastWrite, lastFetch⟩ := s.afterWrite_store ch i traverse page bytes
  exact ⟨port, lanes, pool, reserved, lastWrite, lastFetch, stations, session,
    s.afterWrite_trav ch i traverse page bytes⟩

theorem execPageWriteEnd_writes (awake : s.awake) (port : s.store.port = .write ch i traverse page bytes)
    (held : page < 1048576) :
    exec .pageWriteEnd s = .next ((s.granted ch i traverse page bytes).writeSettled traverse) := by
  change execPageWriteEnd s = _
  have there : ¬Config.storePages ≤ page := Nat.not_le.2 held
  unfold execPageWriteEnd
  rw [if_neg awake, port]
  dsimp only
  rw [if_neg there, s.writeEnded_eq]
  rfl

theorem State.granted_frame :
    let v := s.granted ch i traverse page bytes
    v.chan ch = (s.chan ch).freed i ∧ (∀ k, k ≠ ch → v.chan k = s.chan k) ∧ v.session = s.session ∧ v.cal = s.cal
      ∧ v.comparisons = s.comparisons ∧ v.config = s.config := by
  obtain ⟨channels, _, session, cal, comparisons, config⟩ := s.afterWrite_frame ch i traverse page bytes
  have channels' : (s.granted ch i traverse page bytes).channels = s.channels.set ch ((s.chan ch).freed i) :=
    (State.channels_arbitrate _).trans channels
  refine ⟨?_, fun k other => ?_, (State.session_arbitrate _).trans session, (State.cal_arbitrate _).trans cal,
    (State.comparisons_arbitrate _).trans comparisons, (State.config_arbitrate _).trans config⟩
  · rw [State.chan, channels', Four.get_set_self]
  · rw [State.chan, channels', Four.get_set_other _ _ _ _ other]
    rfl

/-- What a channel holds but for its buffers is as it was. -/
theorem State.granted_chan (k : Chan) :
    ∃ a b, (s.granted ch i traverse page bytes).chan k = { s.chan k with bufA := a, bufB := b } := by
  obtain ⟨own, others, _⟩ := s.granted_frame ch i traverse page bytes
  by_cases same : k = ch
  · subst same
    rw [own]
    exact (s.chan k).freed_eq i
  · exact ⟨(s.chan k).bufA, (s.chan k).bufB, others k same⟩

/-- The entry of the traverse whose page is written, once the port is granted: the grant takes pages for it only. -/
theorem State.granted_entry (tr : Traverse) (live : s.trav? tr.id = some tr) :
    ∃ n w, (s.granted ch i (some tr.id) page bytes).trav? tr.id = some w
      ∧ w.unpaged = { tr.pageEnded with inWrite := n }.unpaged
      ∧ ((∀ k, ∀ e ∈ (s.lanesAfterWrite ch i).get k, e.traverse ≠ tr.id) →
          w = { tr.pageEnded with inWrite := n })
      ∧ tr.inWrite - 1 ≤ n
      ∧ (((s.chan ch).buf i.other).state ≠ .held ∨ ((s.chan ch).buf i.other).traverse ≠ tr.id →
          n = tr.inWrite - 1) := by
  obtain ⟨n, entry, least, exact_⟩ := s.afterWrite_written ch i page bytes tr live
  have same := (s.afterWrite ch i (some tr.id) page bytes).unpaged_arbitrate tr.id
  rw [entry] at same
  obtain ⟨w, found, unpaged⟩ := Option.map_eq_some_iff.1 same
  refine ⟨n, w, found, unpaged, fun absent => ?_, least, exact_⟩
  have lanes := (s.readies_afterWrite ch i (some tr.id) page bytes).lanes
  have stays := (s.afterWrite ch i (some tr.id) page bytes).trav_arbitrate_of_absent tr.id (by rw [lanes]; exact absent)
  exact Option.some.inj (found.symm.trans (stays.trans entry))

end Granted

end Sys2Proof.Machine
end

section
namespace Sys2Proof.Machine

/-! What every end of a page write does (R64, R78, R81). -/

/-- A traverse with no entry completes, reports and releases nothing. -/
theorem State.writeSettled_absent (s : State) (id : Nat) (gone : s.trav? id = none) : s.writeSettled (some id) = s := by
  have first : s.tryComplete id = s := by simp only [State.tryComplete, gone]
  have second : s.reportAbort id = s := by simp only [State.reportAbort, gone]
  rw [State.writeSettled, first, second]
  simp only [State.testRelease, gone]

/-- The last page of a FINISHING traverse in write: it completes with the findings of its Screening Unit (R71). -/
theorem State.tryComplete_holding (m : State) (n : Nat) (ch : Chan) (w : Traverse) (u : ScreenState)
    (found : m.trav? n = some w) (own : w.channel = ch) (finishing : w.state = .finishing) (written : w.inWrite = 0)
    (a : (m.chan ch).bufA.pendingFor n = false) (b : (m.chan ch).bufB.pendingFor n = false)
    (bound : (m.chan ch).screen.boundTo n = some u) :
    m.tryComplete n = m.completeTraverse w ∧ (m.completeTraverse w).trav? n = some (w.completed u m.time) := by
  have named := m.trav_id n w found
  subst named own
  refine ⟨m.tryComplete_completes w found finishing written a b, ?_⟩
  rw [State.trav?, m.store_completeTraverse w u found bound]
  exact (m.findingsWritten_trav w u found).1

/-- A buffer that is not assembling a page of a traverse. -/
theorem PageBuffer.pendingFor_inWrite (b : PageBuffer) (id : Nat) :
    ({ b with state := .inWrite } : PageBuffer).pendingFor id = false := rfl

/-- A written buffer and its other hold no sample of the traverse that is not handed over. -/
theorem Channel.freed_pendingFor (c : Channel) (i : BufId) (id : Nat) (other : (c.buf i.other).pendingFor id = false) :
    (c.freed i).bufA.pendingFor id = false ∧ (c.freed i).bufB.pendingFor id = false := by
  obtain ⟨empty, stays, handed⟩ := c.buf_freed i
  have here : ((c.freed i).buf i).pendingFor id = false := by
    rw [empty]
    rfl
  have beside : ((c.freed i).buf i.other).pendingFor id = false := by
    by_cases held : (c.buf i.other).state = .held
    · rw [handed held, PageBuffer.pendingFor_inWrite]
    · rw [stays held, other]
  cases i
  · exact ⟨here, beside⟩
  · exact ⟨beside, here⟩

section Write
variable (s : State) (ch : Chan) (i : BufId) (traverse : Option Nat) (page : Nat) (bytes : List Byte)

/-- The bytes of the page are at its place, and every other byte is as before (R81). -/
theorem State.writeSettled_memory :
    let t := (s.granted ch i traverse page bytes).writeSettled traverse
    (∀ a, a < page * 2048 ∨ page * 2048 + bytes.length ≤ a →
        Memory.read 0x00 t.store.ddr a = Memory.read 0x00 s.store.ddr a)
      ∧ ∀ k v, bytes[k]? = some v → Memory.read 0x00 t.store.ddr (page * 2048 + k) = v := by
  have ddr := (s.conserves_writeEnded ch i traverse page bytes).store.ddr
  rw [s.writeEnded_eq] at ddr
  change ((s.granted ch i traverse page bytes).writeSettled traverse).store.ddr
    = Memory.writeBlock 0x00 s.store.ddr (page * 2048) bytes at ddr
  dsimp only
  rw [ddr]
  refine ⟨fun a outside => Memory.read_writeBlock_outside _ _ _ _ a outside, fun k v byte => ?_⟩
  obtain ⟨inside, rfl⟩ := List.getElem?_eq_some_iff.1 byte
  exact Memory.read_writeBlock_inside _ _ _ _ k inside

/-- The buffers after the act (R64, R81). -/
theorem State.writeSettled_buffers :
    let t := (s.granted ch i traverse page bytes).writeSettled traverse
    (t.chan ch).buf i = PageBuffer.empty
      ∧ (((s.chan ch).buf i.other).state ≠ .held → (t.chan ch).buf i.other = (s.chan ch).buf i.other)
      ∧ (((s.chan ch).buf i.other).state = .held → ((t.chan ch).buf i.other).state = .inWrite)
      ∧ ∀ k, k ≠ ch → (t.chan k).buf .a = (s.chan k).buf .a ∧ (t.chan k).buf .b = (s.chan k).buf .b := by
  intro t
  have settles : State.Settles (s.granted ch i traverse page bytes) t := (State.Settles.refl _).writeSettled
  have buffer (k : Chan) (j : BufId) : (t.chan k).buf j = ((s.granted ch i traverse page bytes).chan k).buf j :=
    Channel.buf_of_buffers _ _ (settles.buffers k) j
  obtain ⟨own, others, _⟩ := s.granted_frame ch i traverse page bytes
  obtain ⟨empty, stays, handed⟩ := (s.chan ch).buf_freed i
  refine ⟨?_, fun free => ?_, fun held => ?_, fun k other => ⟨?_, ?_⟩⟩
  · rw [buffer, own, empty]
  · rw [buffer, own, stays free]
  · rw [buffer, own, handed held]
  · rw [buffer, others k other]
  · rw [buffer, others k other]

/-- The entry of the traverse, where it outlasts the act: the page is counted, and where it was the last in write
the traverse completes (R71, R81). -/
theorem State.writeSettled_counted (tr tr' : Traverse) (live : s.trav? tr.id = some tr)
    (lasts : ((s.granted ch i (some tr.id) page bytes).writeSettled (some tr.id)).trav? tr.id = some tr') :
    tr'.written = tr.written + 1
      ∧ (((s.chan ch).buf i.other).state ≠ .held → tr'.inWrite = tr.inWrite - 1)
      ∧ (((s.chan ch).buf i.other).state ≠ .held → tr.state = .finishing → tr.channel = ch → tr.inWrite = 1 →
          ((s.chan ch).buf i.other).pendingFor tr.id = false →
          ∀ u, (s.chan ch).screen = .holding u → u.traverse = tr.id → tr'.state = .complete) := by
  obtain ⟨n, w, found, unpaged, _, _, exact_⟩ := s.granted_entry ch i page bytes tr live
  have written : w.written = tr.written + 1 := (congrArg Traverse.written unpaged :)
  have inWrite : w.inWrite = n := (congrArg Traverse.inWrite unpaged :)
  obtain ⟨v, completed, kept, left⟩ := (s.granted ch i (some tr.id) page bytes).tryComplete_counts tr.id w found
  obtain ⟨kept', left', state⟩ := State.writeSettled_entry _ tr.id v tr' completed lasts
  refine ⟨kept'.trans (kept.trans written), fun free => ?_, ?_⟩
  · rw [left', left, inWrite, exact_ (.inl free)]
  · rintro free finishing rfl one pending u holding named
    obtain ⟨own, _⟩ := s.granted_frame tr.channel i (some tr.id) page bytes
    obtain ⟨a, b⟩ := (s.chan tr.channel).freed_pendingFor i tr.id pending
    have screen : ((s.granted tr.channel i (some tr.id) page bytes).chan tr.channel).screen = .holding u := by
      obtain ⟨_, _, kept⟩ := s.granted_chan tr.channel i (some tr.id) page bytes tr.channel
      rw [kept]
      exact holding
    rw [← own] at a b
    obtain ⟨done, entry⟩ := State.tryComplete_holding _ tr.id tr.channel w u found
      (congrArg Traverse.channel unpaged :) ((congrArg Traverse.state unpaged :).trans finishing)
      (by rw [inWrite, exact_ (.inl free), one]) a b (Screening.boundTo_holding _ u _ screen named)
    rw [done] at completed
    rw [state, ← Option.some.inj (entry.symm.trans completed)]
    rfl

/-- An act with nothing to complete, report or release ends with the grant. -/
theorem State.writeSettled_quiet
    (calm : ∀ id tr, traverse = some id → s.trav? id = some tr →
      tr.archived = false ∧ (tr.state = .finishing → 1 < tr.inWrite)
        ∧ (tr.state = .aborted → id ∈ (s.chan tr.channel).reports → 1 < tr.inWrite)) :
    (s.granted ch i traverse page bytes).writeSettled traverse = s.granted ch i traverse page bytes := by
  cases traverse with
  | none => rfl
  | some id =>
    cases live : s.trav? id with
    | none =>
      refine State.writeSettled_absent _ id ?_
      have before := s.afterWrite_trav ch i (some id) page bytes id
      have after := (s.afterWrite ch i (some id) page bytes).unpaged_arbitrate id
      rw [live, Option.map_none, Option.map_eq_none_iff] at before
      rw [before, Option.map_none, Option.map_eq_none_iff] at after
      exact after
    | some tr =>
      obtain ⟨kept, finishing, aborted⟩ := calm id tr rfl live
      have named := s.trav_id id tr live
      subst named
      obtain ⟨n, w, found, unpaged, _, least, _⟩ := s.granted_entry ch i page bytes tr live
      have inWrite : w.inWrite = n := (congrArg Traverse.inWrite unpaged :)
      have state : w.state = tr.state := (congrArg Traverse.state unpaged :)
      have first := (s.granted ch i (some tr.id) page bytes).tryComplete_unready tr.id w found (by
        by_cases h : tr.state = .finishing
        · have := finishing h
          exact .inr (by omega)
        · exact .inl (by rw [state]; exact h))
      have second := (s.granted ch i (some tr.id) page bytes).reportAbort_silent tr.id w found (by
        by_cases h : tr.state = .aborted
        · by_cases told : tr.id ∈ (s.chan tr.channel).reports
          · have := aborted h told
            exact .inr (.inl (by omega))
          · obtain ⟨_, _, same⟩ := s.granted_chan ch i (some tr.id) page bytes tr.channel
            rw [show w.channel = tr.channel from (congrArg Traverse.channel unpaged :), same]
            exact .inr (.inr told)
        · exact .inl (by rw [state]; exact h))
      rw [State.writeSettled, first, second]
      exact State.testRelease_unarchived _ tr.id w found ((congrArg Traverse.archived unpaged :).trans kept)

end Write

end Sys2Proof.Machine
end

section
namespace Sys2Proof.Machine

/-! PAGE_WRITE_END where nothing completes, is reported or is released (R78, R79, R81). -/

section Grant
variable (s : State) (ch : Chan) (i : BufId) (traverse : Option Nat) (page : Nat) (bytes : List Byte)

theorem State.raisedOnly_granted (t : State) (es : List Event)
    (told : (s.granted ch i traverse page bytes).raised t es) : s.raisedOnly t es := by
  obtain ⟨_, _, session, _, _, config⟩ := s.granted_frame ch i traverse page bytes
  exact State.raisedOnly_of s _ t es (fun k => (s.readies_afterWrite ch i traverse page bytes).links k) config session
    told

theorem State.granted_alone :
    let t := s.granted ch i traverse page bytes
    s.pageTaken t (s.lanesAfterWrite ch i) [] 0 ∧ s.raisedOnly t [] ∧ t.session = s.session ∧ t.cal = s.cal
      ∧ t.comparisons = s.comparisons
      ∧ ∀ k, (t.chan k).state = (s.chan k).state ∧ (t.chan k).sent = (s.chan k).sent
          ∧ (t.chan k).reports = (s.chan k).reports ∧ (t.chan k).claim = (s.chan k).claim
          ∧ (t.chan k).traverse = (s.chan k).traverse ∧ (t.chan k).screen = (s.chan k).screen := by
  obtain ⟨_, _, session, cal, comparisons, _⟩ := s.granted_frame ch i traverse page bytes
  refine ⟨?_, s.raisedOnly_granted ch i traverse page bytes _ _ (State.raised_refl _), session, cal, comparisons,
    fun k => ?_⟩
  · exact (s.readies_afterWrite ch i traverse page bytes).pageTaken _ [] 0 rfl rfl fun _ _ _ => rfl
  · obtain ⟨_, _, kept⟩ := s.granted_chan ch i traverse page bytes k
    rw [kept]
    exact ⟨rfl, rfl, rfl, rfl, rfl, rfl⟩

/-- The streams after the act: a read port has its fetch granted, or nothing (R78). -/
theorem State.writeSettled_streams (st : Stn) :
    let t := (s.granted ch i traverse page bytes).writeSettled traverse
    (t.stn st).stream = (s.stn st).stream
      ∨ (s.stn st).fetchWaiting = true
        ∧ (t.stn st).stream = (s.stn st).stream.map fun r => { r with fetch := .fetching } := by
  intro t
  have settles : State.Settles (s.granted ch i traverse page bytes) t := (State.Settles.refl _).writeSettled
  have before : (s.afterWrite ch i traverse page bytes).stn st = s.stn st := by
    rw [State.stn, (s.readies_afterWrite ch i traverse page bytes).stations, State.stn]
  have granted := ((s.afterWrite ch i traverse page bytes).stn_arbitrate st).2
  rw [before] at granted
  rw [StationLink.stream_eq_of_unheard _ _ (settles.links st)]
  exact granted

end Grant

/-! The last page of a traverse in write (R71, R72, R84). -/

/-- The entry of a traverse once its last page in write is written. -/
def Traverse.allWritten (t : Traverse) : Traverse := { t.pageEnded with inWrite := 0 }

/-- The report of an ended abort (R72). -/
theorem State.reportAbort_told (m : State) (n : Nat) (w : Traverse) (found : m.trav? n = some w)
    (aborted : w.state = .aborted) (written : w.inWrite = 0) (waits : n ∈ (m.chan w.channel).reports) :
    let c := (m.reportAbort n).chan w.channel
    c.reports = (m.chan w.channel).reports.filter (· != n)
      ∧ c.sent = (m.chan w.channel).sent ++ (if (m.chan w.channel).state = .offline then [] else [w.abortFrame])
      ∧ c.state = (m.chan w.channel).state := by
  have due : w.state = .aborted ∧ w.inWrite = 0 ∧ n ∈ (m.chan w.channel).reports := ⟨aborted, written, waits⟩
  have told : m.reportAbort n = (m.modChan w.channel fun c => { c with reports := c.reports.filter (· != n) }).sendProbe
      w.channel w.abortFrame := by
    unfold State.reportAbort
    rw [found]
    exact if_pos due
  dsimp only
  rw [told, State.sendProbe, State.chan_modChan_self, State.chan_modChan_self]
  by_cases off : (m.chan w.channel).state = .offline <;> simp [off]

/-- What R85 raises for the store-low flag is no TRAVERSE_RELEASED. -/
theorem count_released_storeFlag (low high : Prop) [Decidable low] [Decidable high] (v id pages : Nat)
    (kind : TraverseKind) :
    (if low then [Event.storeLow v] else if high then [Event.storeOk v] else []).count
      (.traverseReleased id kind pages) = 0 := by
  split
  · rfl
  · split <;> rfl

section Last
variable (s : State) (i : BufId) (page : Nat) (bytes : List Byte) (tr : Traverse)
  (live : s.trav? tr.id = some tr) (one : tr.inWrite = 1)
  (pending : ((s.chan tr.channel).buf i.other).pendingFor tr.id = false)
include live one pending

theorem State.granted_last :
    ∃ w, (s.granted tr.channel i (some tr.id) page bytes).trav? tr.id = some w
      ∧ w.unpaged = tr.allWritten.unpaged
      ∧ ((∀ k, ∀ e ∈ (s.lanesAfterWrite tr.channel i).get k, e.traverse ≠ tr.id) → w = tr.allWritten) := by
  obtain ⟨n, w, found, unpaged, whole, _, exact_⟩ := s.granted_entry tr.channel i page bytes tr live
  have none_ : n = 0 := by
    rw [exact_ ?_, one]
    by_cases held : ((s.chan tr.channel).buf i.other).state = .held
    · refine .inr fun same => ?_
      simp [PageBuffer.pendingFor, held, same] at pending
    · exact .inl held
  subst none_
  exact ⟨w, found, unpaged, whole⟩

section Finishing
variable (u : ScreenState) (finishing : tr.state = .finishing) (kept : tr.archived = false)
  (holding : (s.chan tr.channel).screen = .holding u) (named : u.traverse = tr.id)
  (absent : ∀ k, ∀ e ∈ (s.lanesAfterWrite tr.channel i).get k, e.traverse ≠ tr.id)
include finishing kept holding named absent

/-- With its last page written a FINISHING traverse completes, and the act ends there (R71). -/
theorem State.writeSettled_completes :
    let m := s.granted tr.channel i (some tr.id) page bytes
    m.writeSettled (some tr.id) = m.completeTraverse tr.allWritten
      ∧ m.trav? tr.id = some tr.allWritten
      ∧ (m.chan tr.channel).screen.boundTo tr.id = some u := by
  intro m
  obtain ⟨w, found, _, whole⟩ := s.granted_last i page bytes tr live one pending
  rw [whole absent] at found
  obtain ⟨own, _⟩ := s.granted_frame tr.channel i (some tr.id) page bytes
  obtain ⟨a, b⟩ := (s.chan tr.channel).freed_pendingFor i tr.id pending
  rw [← own] at a b
  have bound : (m.chan tr.channel).screen.boundTo tr.id = some u := by
    obtain ⟨_, _, same⟩ := s.granted_chan tr.channel i (some tr.id) page bytes tr.channel
    rw [same]
    exact Screening.boundTo_holding _ u _ holding named
  obtain ⟨done, entry⟩ := m.tryComplete_holding tr.id tr.channel tr.allWritten u found rfl finishing rfl a b bound
  have second := (m.completeTraverse tr.allWritten).reportAbort_silent tr.id _ entry (.inl (by
    change TraverseState.complete ≠ _
    decide))
  refine ⟨?_, found, bound⟩
  rw [State.writeSettled, done, second]
  exact State.testRelease_unarchived _ tr.id _ entry kept

/-- The pages of the completed traverse, and what the act takes and returns (R71, R76, R79). -/
theorem State.writeSettled_finishing :
    let t := (s.granted tr.channel i (some tr.id) page bytes).writeSettled (some tr.id)
    s.pageTaken t (s.lanesAfterWrite tr.channel i) [] tr.reservation
      ∧ (t.trav? tr.id).map (·.pages) = some tr.pages := by
  intro t
  obtain ⟨done, found, bound⟩ :=
    s.writeSettled_completes i page bytes tr live one pending u finishing kept holding named absent
  let m := s.granted tr.channel i (some tr.id) page bytes
  have store : t.store = (m.findingsWritten tr.allWritten u).store := by
    rw [show t = m.completeTraverse tr.allWritten from done]
    exact m.store_completeTraverse tr.allWritten u found bound
  obtain ⟨transfer, reserved⟩ := m.findingsWritten_store tr.allWritten u found
  obtain ⟨entry, others⟩ := m.findingsWritten_trav tr.allWritten u found
  refine ⟨(s.readies_afterWrite tr.channel i (some tr.id) page bytes).pageTaken t [] tr.reservation ?_ ?_ ?_, ?_⟩
  · rw [store]
    exact (congrArg Store.pool transfer :)
  · rw [store]
    exact reserved
  · intro k e mem
    rw [State.trav?, store]
    exact others e.traverse (absent k e mem)
  · rw [State.trav?, store]
    exact congrArg (Option.map (·.pages)) entry

/-- An inspection pull that completes with its last page (R31, R54, R71). -/
theorem State.writeSettled_inspection (p : Pos) (x : Session) (e : TubeEntry) (b : Bracket)
    (target : tr.target = .tube p) (recording : (s.chan tr.channel).state = .recording) (session : s.session = some x)
    (tube : s.tube? p = some e) (claimed : e.state = .claimed) (opened : s.openBracket tr.channel = some b) :
    let t := (s.granted tr.channel i (some tr.id) page bytes).writeSettled (some tr.id)
    ∃ es, s.inspectionCompleted t tr.channel tr u p x b es ∧ s.raisedOnly t es := by
  intro t
  obtain ⟨done, found, bound⟩ :=
    s.writeSettled_completes i page bytes tr live one pending u finishing kept holding named absent
  let m := s.granted tr.channel i (some tr.id) page bytes
  obtain ⟨_, others, sess, cal, comparisons, config⟩ := s.granted_frame tr.channel i (some tr.id) page bytes
  obtain ⟨_, _, same⟩ := s.granted_chan tr.channel i (some tr.id) page bytes tr.channel
  have completes : t = m.inspectionDone tr.allWritten u p :=
    done.trans (m.completeTraverse_tube tr.allWritten u found bound p target)
  obtain ⟨es, completed, told⟩ := m.inspectionDone_completes tr.allWritten u p x e b found (sess.trans session)
    ((State.tube?_of_session s m sess p).trans tube) ((State.openBracket_congr s m _ cal).trans opened) target claimed
    ((congrArg Channel.state same).trans recording)
  rw [completes]
  exact ⟨es, State.inspectionCompleted_of s m _ tr.channel tr tr.allWritten u sess cal comparisons config others rfl rfl
    p x b [] es (congrArg Channel.permit same :) (congrArg Channel.sent same :) rfl rfl rfl completed,
    s.raisedOnly_granted tr.channel i (some tr.id) page bytes _ es told⟩

/-- A calibration pull that completes with its last page (R71, R124). -/
theorem State.writeSettled_calibration (std : Nat) (x : Session) (a : Attempt) (target : tr.target = .standard std)
    (session : s.session = some x) (attempt : s.attempt? tr.channel = some a) :
    let t := (s.granted tr.channel i (some tr.id) page bytes).writeSettled (some tr.id)
    s.calibrationCompleted t tr.channel tr u x a
      ∧ (t.chan tr.channel).state = (s.chan tr.channel).state
      ∧ (t.chan tr.channel).sent = (s.chan tr.channel).sent := by
  intro t
  obtain ⟨done, found, bound⟩ :=
    s.writeSettled_completes i page bytes tr live one pending u finishing kept holding named absent
  let m := s.granted tr.channel i (some tr.id) page bytes
  obtain ⟨_, others, sess, cal, comparisons, config⟩ := s.granted_frame tr.channel i (some tr.id) page bytes
  obtain ⟨_, _, same⟩ := s.granted_chan tr.channel i (some tr.id) page bytes tr.channel
  have completes : t = m.calibrationDone tr.allWritten u :=
    done.trans (m.completeTraverse_standard tr.allWritten u bound std target)
  have attempt' : m.attempt? tr.channel = some a := by
    rw [State.attempt?, show m.cal = s.cal from cal]
    exact attempt
  obtain ⟨completed, channels⟩ :=
    m.calibrationDone_completes tr.allWritten u std x a found target (sess.trans session) attempt'
  have own : (m.calibrationDone tr.allWritten u).chan tr.channel = { m.chan tr.channel with screen := .idle } := by
    rw [State.chan, channels]
    exact Four.get_set_self _ _ _
  rw [completes]
  refine ⟨State.calibrationCompleted_of s m _ tr.channel tr tr.allWritten u sess cal comparisons config others rfl rfl
    x a rfl rfl (congrArg Channel.traverse same :) completed, ?_, ?_⟩
  · rw [own]
    exact (congrArg Channel.state same :)
  · rw [own]
    exact (congrArg Channel.sent same :)

end Finishing

/-- An ABORTED traverse with its last page written is reported where the channel has it still to report (R72). -/
theorem State.writeSettled_aborted (aborted : tr.state = .aborted) :
    let t := (s.granted tr.channel i (some tr.id) page bytes).writeSettled (some tr.id)
    let c := s.chan tr.channel
    (tr.id ∈ c.reports →
      (t.chan tr.channel).reports = c.reports.filter (· != tr.id)
      ∧ (t.chan tr.channel).sent = c.sent ++ (if c.state = .offline then [] else [tr.abortFrame]))
    ∧ (tr.id ∉ c.reports → (t.chan tr.channel).sent = c.sent ∧ (t.chan tr.channel).reports = c.reports)
    ∧ (tr.archived = false → s.raisedOnly t [] ∧ s.pageTaken t (s.lanesAfterWrite tr.channel i) [] 0)
    ∧ (t.chan tr.channel).state = c.state ∧ t.session = s.session := by
  intro t c
  let m := s.granted tr.channel i (some tr.id) page bytes
  obtain ⟨w, found, unpaged, _⟩ := s.granted_last i page bytes tr live one pending
  obtain ⟨_, _, same⟩ := s.granted_chan tr.channel i (some tr.id) page bytes tr.channel
  obtain ⟨_, _, session, _⟩ := s.granted_frame tr.channel i (some tr.id) page bytes
  have state : w.state = .aborted := (congrArg Traverse.state unpaged :).trans aborted
  have channel : w.channel = tr.channel := (congrArg Traverse.channel unpaged :)
  have reports : (m.chan tr.channel).reports = c.reports := (congrArg Channel.reports same :)
  have sent : (m.chan tr.channel).sent = c.sent := (congrArg Channel.sent same :)
  have resting : (m.chan tr.channel).state = c.state := (congrArg Channel.state same :)
  have first := m.tryComplete_unready tr.id w found (.inl (by rw [state]; decide))
  have ends : t = (m.reportAbort tr.id).testRelease tr.id := by
    change ((m.tryComplete tr.id).reportAbort tr.id).testRelease tr.id = _
    rw [first]
  have chan : t.chan tr.channel = (m.reportAbort tr.id).chan tr.channel := by
    rw [ends, State.chan, State.channels_testRelease, State.chan]
  have frame : w.abortFrame = tr.abortFrame := by
    have id : w.id = tr.id := (congrArg Traverse.id unpaged :)
    have stored : w.stored = tr.stored := (congrArg Traverse.stored unpaged :)
    have lost : w.lost = tr.lost := (congrArg Traverse.lost unpaged :)
    have flags : w.flags = tr.flags := (congrArg Traverse.flags unpaged :)
    rw [Traverse.abortFrame, id, stored, lost, flags, Traverse.abortFrame]
  have told (waits : tr.id ∈ c.reports) :=
    m.reportAbort_told tr.id w found state (congrArg Traverse.inWrite unpaged :)
      (by rw [channel, reports]; exact waits)
  have silent (none_ : tr.id ∉ c.reports) : m.reportAbort tr.id = m :=
    m.reportAbort_silent tr.id w found (.inr (.inr (by rw [channel, reports]; exact none_)))
  refine ⟨fun waits => ?_, fun none_ => ?_, fun kept => ?_, ?_, ?_⟩
  · obtain ⟨left, frames, _⟩ := told waits
    rw [channel] at left frames
    rw [chan, left, frames, reports, sent, resting, frame]
    exact ⟨rfl, rfl⟩
  · rw [chan, silent none_]
    exact ⟨sent, reports⟩
  · have store : (m.reportAbort tr.id).store = m.store := State.store_reportAbort _ _
    have last : t = m.reportAbort tr.id := by
      refine ends.trans (State.testRelease_unarchived _ tr.id w ?_ ((congrArg Traverse.archived unpaged :).trans kept))
      rw [State.trav?, store]
      exact found
    rw [last]
    refine ⟨s.raisedOnly_granted tr.channel i (some tr.id) page bytes _ [] (State.raised_of_eq _ _ ?_ ?_ ?_), ?_⟩
    · exact State.stations_reportAbort _ _
    · exact State.session_reportAbort _ _
    · exact State.config_reportAbort _ _
    · refine (s.readies_afterWrite tr.channel i (some tr.id) page bytes).pageTaken _ [] 0 ?_ ?_ fun _ _ _ => ?_
      · rw [store]
        rfl
      · rw [store]
        rfl
      · rw [State.trav?, store]
        rfl
  · rw [chan]
    by_cases waits : tr.id ∈ c.reports
    · obtain ⟨_, _, kept⟩ := told waits
      rw [channel] at kept
      exact kept.trans resting
    · rw [silent waits]
      exact resting
  · rw [ends, State.session_testRelease, State.session_reportAbort]
    exact session

/-- An archived and settled traverse with its last page written is released, or its release waits for its readers
(R84). -/
theorem State.writeSettled_archived (archived : tr.archived = true) (settled : tr.settled = true)
    (ended : tr.state ≠ .finishing) :
    let t := (s.granted tr.channel i (some tr.id) page bytes).writeSettled (some tr.id)
    (tr.readers = 0 → (∀ k, ∀ e ∈ (s.lanesAfterWrite tr.channel i).get k, e.traverse ≠ tr.id) →
      t.trav? tr.id = none ∧ s.pageTaken t (s.lanesAfterWrite tr.channel i) tr.pages 0
      ∧ ∃ es, s.raisedOnly t es
          ∧ es.count (.traverseReleased tr.id tr.target.kind tr.pages.length) = 1)
    ∧ (tr.readers ≠ 0 → ∃ tr', t.trav? tr.id = some tr' ∧ tr'.releasePending = true) := by
  intro t
  let m := s.granted tr.channel i (some tr.id) page bytes
  let v := m.reportAbort tr.id
  obtain ⟨w, found, unpaged, whole⟩ := s.granted_last i page bytes tr live one pending
  have first := m.tryComplete_unready tr.id w found (.inl (by
    rw [show w.state = tr.state from (congrArg Traverse.state unpaged :)]
    exact ended))
  have ends : t = v.testRelease tr.id := by
    change ((m.tryComplete tr.id).reportAbort tr.id).testRelease tr.id = _
    rw [first]
  have store : v.store = m.store := State.store_reportAbort _ _
  have found' : v.trav? tr.id = some w := by
    rw [State.trav?, store]
    exact found
  have archived' : w.archived = true := (congrArg Traverse.archived unpaged :).trans archived
  have settled' : w.settled = true := (congrArg Traverse.settled unpaged :).trans settled
  have written : w.inWrite = 0 := (congrArg Traverse.inWrite unpaged :)
  have readers : w.readers = tr.readers := (congrArg Traverse.readers unpaged :)
  refine ⟨fun unread absent => ?_, fun read => ?_⟩
  · have is := whole absent
    have freed : (w.archived && w.settled && w.readers == 0 && w.inWrite == 0) = true := by
      simp [archived', settled', written, readers, unread]
    obtain ⟨⟨others, reserved, goes, _⟩, _⟩ := v.testRelease_goesOrStays tr.id w found'
    obtain ⟨gone, pool, _⟩ := goes freed
    obtain ⟨_, _, told⟩ := v.release_does w
    rw [← v.testRelease_releases tr.id w found' archived' settled' (by rw [readers, unread]) written, is] at told
    rw [ends]
    refine ⟨gone, ?_, _, s.raisedOnly_granted tr.channel i (some tr.id) page bytes _ _
      (State.raised_after m v _ _ (State.raised_of_eq _ _ ?_ ?_ ?_) told), ?_⟩
    · refine (s.readies_afterWrite tr.channel i (some tr.id) page bytes).pageTaken _ tr.pages 0 ?_ ?_ fun k e mem => ?_
      · rw [pool, store, is]
        rfl
      · rw [reserved, store]
        rfl
      · rw [others e.traverse (absent k e mem), State.trav?, store]
        rfl
    · exact State.stations_reportAbort _ _
    · exact State.session_reportAbort _ _
    · exact State.config_reportAbort _ _
    · exact (List.count_cons_self ..).trans (congrArg (· + 1) (count_released_storeFlag ..))
  · rw [ends, v.testRelease_waits tr.id w found' archived' settled' (.inl (by rw [readers]; exact read))]
    exact ⟨_, v.trav_modTrav_self tr.id _ w (fun _ => rfl) found', rfl⟩

end Last

/-- Settles O42: the act is the grant of the port and then R71, R72 and R84 for the traverse whose page is written.
What every such act does is seen through the grant (`State.readies`) and what the rest leaves (`State.Settles`). -/
theorem pageWriteEndStoresThePage : Obligations.PageWriteEndStoresThePage := by
  refine ⟨fun s ch i traverse page bytes awake port held => ?_, fun s ch i page bytes tr awake port held live own one
    pending => ?_, fun s none_ => ?_⟩
  · let t := (s.granted ch i traverse page bytes).writeSettled traverse
    obtain ⟨outside, inside⟩ := s.writeSettled_memory ch i traverse page bytes
    obtain ⟨empty, stays, handed, others⟩ := s.writeSettled_buffers ch i traverse page bytes
    obtain ⟨_, _, _, cal, _, config⟩ := s.granted_frame ch i traverse page bytes
    have settles : State.Settles (s.granted ch i traverse page bytes) t := (State.Settles.refl _).writeSettled
    refine ⟨t, execPageWriteEnd_writes s ch i traverse page bytes awake port held, outside, inside, empty, stays,
      handed, ?_, others, settles.config.trans config, ?_, ?_,
      (s.readies_afterWrite ch i traverse page bytes).portPassesOn t settles,
      s.writeSettled_streams ch i traverse page bytes, fun calm => ?_⟩
    · rintro id tr rfl live tr' lasts
      have named := s.trav_id id tr live
      subst named
      exact s.writeSettled_counted ch i page bytes tr tr' live lasts
    · exact (congrArg Prod.snd settles.shelf).trans (by rw [cal]; rfl)
    · exact (congrArg Prod.fst settles.shelf).trans (by rw [cal]; rfl)
    · rw [show t = s.granted ch i traverse page bytes from s.writeSettled_quiet ch i traverse page bytes calm]
      exact s.granted_alone ch i traverse page bytes
  · subst own
    refine ⟨_, execPageWriteEnd_writes s tr.channel i (some tr.id) page bytes awake port held, ?_,
      s.writeSettled_aborted i page bytes tr live one pending, s.writeSettled_archived i page bytes tr live one pending⟩
    intro u finishing kept holding named absent
    obtain ⟨taken, pages⟩ :=
      s.writeSettled_finishing i page bytes tr live one pending u finishing kept holding named absent
    exact ⟨taken, pages, fun p x e b target recording session tube claimed opened =>
      s.writeSettled_inspection i page bytes tr live one pending u finishing kept holding named absent p x e b target
        recording session tube claimed opened,
      fun std x a target session attempt =>
        s.writeSettled_calibration i page bytes tr live one pending u finishing kept holding named absent std x a target
          session attempt⟩
  · change execPageWriteEnd s = _
    unfold execPageWriteEnd
    split
    · rfl
    · split
      · next ch i id page bytes port => exact absurd port (none_ ch i id page bytes)
      · rfl
      · rfl

end Sys2Proof.Machine
end
